-- ==== Sys2Proof/Word.lean ====
section
/-! DEFINITION. The numbers the manual uses: bytes of the frames, and the numbering of computers, screens,
channels and console ports (00_scope.md, Numbering). -/

namespace Sys2Proof

/-- One byte of a frame (R176). -/
abbrev Byte := BitVec 8

/-- Computer n of the manual, 1 to 8, is index n - 1. -/
abbrev Computer := Fin 8

/-- Screen s of the manual, 1 to 8, is index s - 1. -/
abbrev ScreenNo := Fin 8

/-- Channel c of the manual, 1 to 16, is index c - 1. -/
abbrev Channel := Fin 16

/-- Console port c of the manual, 1 to 4, is index c - 1. -/
abbrev ConsoleNo := Fin 4

/-- The computers in port order. -/
abbrev computers : List Computer := [0, 1, 2, 3, 4, 5, 6, 7]

/-- The screens in scan order. -/
abbrev screenNos : List ScreenNo := [0, 1, 2, 3, 4, 5, 6, 7]

end Sys2Proof
end

