-- ==== Sys2Proof/Syntax.lean ====
section
/-! DEFINITION. The commands the part takes, one constructor per row of spec/opcode_table.json, with the operands
each carries. -/

namespace Sys2Proof

/-- What the port logic learns of a device at attach (R2). -/
structure DeviceDescription where
  /-- The description can be read and the device accepts its configuration. -/
  usable : Bool
  hub : Bool
  keyboard : Bool
  relativePointer : Bool
  absolutePointer : Bool
  deriving DecidableEq, Repr

/-- A report of a console keyboard as it arrives (R6): its own rollover mark, its modifier state (bit i for key
224 + i) and its list of held keys, 0 an empty slot. -/
structure KeyInput where
  rollover : Bool
  modifiers : Byte
  keys : List Byte
  deriving DecidableEq, Repr

/-- A report of a console pointer as it arrives (R11), before any clamp. -/
structure PointerInput where
  buttons : List Nat
  dx : Int
  dy : Int
  wheel : Int
  deriving DecidableEq, Repr

/-- How an indicator output ended (R17). -/
inductive OutputEnd where
  | accepted
  | refused
  | failed
  deriving DecidableEq, Repr

/-- A video timing: pixels and millihertz (R74). -/
structure Timing where
  width : Nat
  height : Nat
  refresh : Nat
  deriving DecidableEq, Repr

/-- A request frame as it arrives at a computer port (R176), its command code apart: the row says which command it is.
`length` is the frame's length field L and `params` the parameter bytes that follow the header. In an ACTION request
`params` are the bytes after the action code. -/
structure Request where
  port : Computer
  tag : Byte
  flags : Byte
  expected : Byte
  length : BitVec 16
  params : List Byte
  deriving DecidableEq, Repr

/-- Where an action comes from (R105, R109): a hotkey entry with its two argument bytes, or an ACTION request. -/
inductive ActionCall where
  | hotkey (arg1 arg2 : Byte)
  | request (r : Request)
  deriving DecidableEq, Repr

/-- The commands. Each constructor is one row of the table; the rule beside it is the row's. -/
inductive Instr where
  /-- POWER_ON_RESET (R175), with whether the settings store answers. -/
  | powerOnReset (storeAnswers : Bool)
  /-- CONSOLE_ATTACH (R2). -/
  | consoleAttach (c : ConsoleNo) (d : DeviceDescription)
  /-- CONSOLE_DETACH (R4). -/
  | consoleDetach (c : ConsoleNo)
  /-- KEYBOARD_REPORT (R8). -/
  | keyboardReport (c : ConsoleNo) (r : KeyInput)
  /-- POINTER_REPORT (R13). -/
  | pointerReport (c : ConsoleNo) (r : PointerInput)
  /-- INDICATOR_OUTPUT_END (R17), with whether the output was abandoned at a detach (R4). -/
  | indicatorOutputEnd (c : ConsoleNo) (how : OutputEnd) (abandoned : Bool)
  /-- DOUBLE_TAP_WINDOW_EXPIRY (R101). -/
  | doubleTapWindowExpiry
  /-- COMMAND_TIMER_EXPIRY (R104). -/
  | commandTimerExpiry
  /-- LOCKOUT_TIMER_EXPIRY (R119). -/
  | lockoutTimerExpiry
  /-- NONE (R105). -/
  | noAction (a : ActionCall)
  /-- FOCUS (R30). -/
  | focus (a : ActionCall)
  /-- FOCUS_NEXT (R31). -/
  | focusNext (a : ActionCall)
  /-- FOCUS_PREV (R31). -/
  | focusPrev (a : ActionCall)
  /-- FOCUS_BACK (R30). -/
  | focusBack (a : ActionCall)
  /-- BROADCAST_TOGGLE (R34). -/
  | broadcastToggle (a : ActionCall)
  /-- BROADCAST_CLEAR (R34). -/
  | broadcastClear (a : ActionCall)
  /-- SHOW (R83). -/
  | showChannel (a : ActionCall)
  /-- PEEK (R86). -/
  | peek (a : ActionCall)
  /-- PRESET (R85). -/
  | preset (a : ActionCall)
  /-- PARK_TOGGLE (R32). -/
  | parkToggle (a : ActionCall)
  /-- WAKE (R106). -/
  | wake (a : ActionCall)
  /-- WAKE_ALL (R158). -/
  | wakeAll (a : ActionCall)
  /-- LOCK (R116). -/
  | lock (a : ActionCall)
  /-- TYPE_TEXT (R124). -/
  | typeText (a : ActionCall)
  /-- GO_ALERT (R139). -/
  | goAlert (a : ActionCall)
  /-- COMMAND (R103). -/
  | command (a : ActionCall)
  /-- UNLOCK (R120), an ACTION request only. -/
  | unlock (r : Request)
  /-- CHANNEL_ACTIVITY (R74). -/
  | channelActivity (c : Channel)
  /-- CHANNEL_FRAME (R74). -/
  | channelFrame (c : Channel) (t : Timing)
  /-- CHANNEL_LOSS (R75). -/
  | channelLoss (c : Channel)
  /-- DISPLAY_ATTACH (R78), with the display's preferred size if it gives one that can be read. -/
  | displayAttach (s : ScreenNo) (preferred : Option (Nat × Nat))
  /-- DISPLAY_DETACH (R79). -/
  | displayDetach (s : ScreenNo)
  /-- FRAME_START (R80). -/
  | frameStart (s : ScreenNo)
  /-- PEEK_EXPIRY (R87). -/
  | peekExpiry (s : ScreenNo)
  /-- TYPE_OUT_PRESS (R127). -/
  | typeOutPress
  /-- TYPE_OUT_RELEASE_DUE (R128). -/
  | typeOutReleaseDue
  /-- COMPUTER_ATTACH (R143). -/
  | computerAttach (p : Computer)
  /-- CONFIGURE (R143), with the computer's permission to wake it. -/
  | configure (p : Computer) (remoteWake : Bool)
  /-- COMPUTER_BUS_RESET (R144). -/
  | computerBusReset (p : Computer)
  /-- COMPUTER_DETACH (R144). -/
  | computerDetach (p : Computer)
  /-- INDICATOR_REPORT (R145), the byte of R179. -/
  | indicatorReport (p : Computer) (lamps : Byte)
  /-- KEYBOARD_POLL (R146). -/
  | keyboardPoll (p : Computer)
  /-- POINTER_POLL (R146). -/
  | pointerPoll (p : Computer)
  /-- STALL_TIMER_EXPIRY (R150). -/
  | stallTimerExpiry (p : Computer)
  /-- SUSPEND (R151). -/
  | suspend (p : Computer)
  /-- SETTLE_TIMER_EXPIRY (R154). -/
  | settleTimerExpiry (p : Computer)
  /-- SIGNALLING_END (R155). -/
  | signallingEnd (p : Computer)
  /-- WAKE_WINDOW_EXPIRY (R155). -/
  | wakeWindowExpiry (p : Computer)
  /-- RESUME (R156). -/
  | resume (p : Computer)
  /-- STAGGER_TIMER_EXPIRY (R158). -/
  | staggerTimerExpiry
  /-- STATUS (R168). -/
  | status (r : Request)
  /-- TABLE_READ (R164). -/
  | tableRead (r : Request)
  /-- TABLE_WRITE (R165). -/
  | tableWrite (r : Request)
  /-- DEPOSIT_TEXT (R122). -/
  | depositText (r : Request)
  /-- CLEAR_TEXT (R122). -/
  | clearText (r : Request)
  /-- RAISE_ALERT (R136). -/
  | raiseAlert (r : Request)
  /-- WITHDRAW_ALERT (R136). -/
  | withdrawAlert (r : Request)
  /-- EVENTS (R171). -/
  | events (r : Request)
  /-- FREEZE (R169). -/
  | freeze (r : Request)
  /-- SAVE (R174). -/
  | save (r : Request)
  /-- SAVE_COMPLETION (R174), with whether the store confirmed the image. -/
  | saveCompletion (confirmed : Bool)
  /-- DESK_RESET (R173). -/
  | deskReset (r : Request)
  /-- REPLY_READ (R160). -/
  | replyRead (p : Computer)
  /-- NOTIFICATION_TAKE (R172). -/
  | notificationTake (p : Computer)
  /-- UNKNOWN_COMMAND_REQUEST (R161), with the command code the frame carries. Its `params` are all the parameter
  bytes, the action code of an ACTION request among them. -/
  | unknownCommandRequest (r : Request) (code : Byte)
  deriving DecidableEq, Repr

end Sys2Proof
end

