-- ==== Sys2Proof/Decode.lean ====
section
/-! DEFINITION. How commands are spelled. No row of the table gives bits, so no word spells a command; a request comes to
the part as a frame of bytes (R176, R177), and `frameCommand` reads one. -/

namespace Sys2Proof

/-- The command a word spells by the table's bits. No row of the table has bits, so there is none (log entry 38: DESIGN CHOICE). -/
def decodeTableWord (_nbits _w : Nat) : Option Instr :=
  none

/-! ### Request frames (R176, R177) -/

/-- The request an ACTION frame of the given action code carries, `r` holding the two arguments (R105, R177); none for a
code that names no action. -/
def actionCommand (code : Nat) (r : Request) : Option Instr :=
  match code with
  | 0 => some (.noAction (.request r))
  | 1 => some (.focus (.request r))
  | 2 => some (.focusNext (.request r))
  | 3 => some (.focusPrev (.request r))
  | 4 => some (.focusBack (.request r))
  | 5 => some (.broadcastToggle (.request r))
  | 6 => some (.broadcastClear (.request r))
  | 7 => some (.showChannel (.request r))
  | 8 => some (.peek (.request r))
  | 9 => some (.preset (.request r))
  | 10 => some (.parkToggle (.request r))
  | 11 => some (.wake (.request r))
  | 12 => some (.wakeAll (.request r))
  | 13 => some (.lock (.request r))
  | 14 => some (.typeText (.request r))
  | 15 => some (.goAlert (.request r))
  | 16 => some (.command (.request r))
  | 17 => some (.unlock r)
  | _ => none

/-- The request of an ACTION frame `r`, whose parameters begin with the action code (R177). -/
def actionRequest (r : Request) : Option Instr :=
  match r.params with
  | [] => none
  | a :: l => actionCommand a.toNat { r with params := l }

/-- The request a command code and its frame spell; none for a code that names no command (R177). -/
def requestCommand (code : Nat) (r : Request) : Option Instr :=
  match code with
  | 1 => some (.status r)
  | 2 => some (.tableRead r)
  | 3 => some (.tableWrite r)
  | 4 => actionRequest r
  | 5 => some (.depositText r)
  | 6 => some (.clearText r)
  | 7 => some (.raiseAlert r)
  | 8 => some (.withdrawAlert r)
  | 9 => some (.events r)
  | 10 => some (.freeze r)
  | 11 => some (.save r)
  | 12 => some (.deskReset r)
  | _ => none

/-- The command a request frame at port `p` spells (R176, R177): an unknown command or action code is an
UNKNOWN_COMMAND_REQUEST (R161). Bytes too few for a header are no frame (log entry 16: DESIGN CHOICE). -/
def frameCommand (p : Computer) (bytes : List Byte) : Option Instr :=
  match bytes with
  | code :: tag :: flags :: expected :: l0 :: l1 :: params =>
    let r : Request := ⟨p, tag, flags, expected, l1 ++ l0, params⟩
    some ((requestCommand code.toNat r).getD (.unknownCommandRequest r code))
  | _ => none

end Sys2Proof
end

