-- ==== Sys2Proof/Config.lean ====
section
/-! DEFINITION. What the manual fixes once for the part: times in milliseconds and capacities. -/

namespace Sys2Proof.Config

/-- The settle time after a suspend (R142, R151). -/
def settleTime : Nat := 50

/-- The time of resume signalling in one attempt (R155). -/
def signallingTime : Nat := 10

/-- The greatest attempt number of a wake (R142). -/
def attemptMax : Nat := 8

/-- The stall time (R149). -/
def stallTime : Nat := 1000

/-- The lockout period, 30 s (R119). -/
def lockoutTime : Nat := 30000

/-- The failures that lead to LOCKOUT (R119). -/
def lockoutFailures : Nat := 5

/-- The capacity of a key report queue (R147). -/
def keyQueueMax : Nat := 16

/-- The capacity of a pointer report queue (R148). -/
def pointerQueueMax : Nat := 4

/-- The capacity of a pending key queue (R153). -/
def pendingQueueMax : Nat := 32

/-- The greatest value of a port counter (R159). -/
def counterMax : Nat := 65535

/-- The greatest pointer coordinate in sixteenths of a desk unit (R44). -/
def deskMax : Nat := 524287

/-- The keys other than modifiers a key set may hold before the report is a rollover (R6). -/
def rolloverLimit : Nat := 14

/-- The greatest length of a request frame, header included (R161). -/
def requestMax : Nat := 300

/-- The most entries one TABLE_READ returns (R164). -/
def readMax : Nat := 16

end Sys2Proof.Config
end

