-- ==== Sys2Proof/Machine/Flags.lean ====
section
/-! DEFINITION. The small sets the manual works with: key and button sets, the five indicators, the nine event kinds
and the ten tables of the freeze set, with the bytes that carry them (R176, R179). -/

namespace Sys2Proof.Machine

/-! ### Key and button sets: lists in strictly ascending order, so that equal sets are equal lists -/

/-- `l` with `k` added, in ascending order, without a duplicate. -/
def setInsert (k : Nat) : List Nat → List Nat
  | [] => [k]
  | a :: l => if k < a then k :: a :: l else if k = a then a :: l else a :: setInsert k l

/-- `l` without `k`. -/
def setErase (k : Nat) (l : List Nat) : List Nat :=
  l.filter (fun a => decide (a ≠ k))

/-- The set of the members of a list. -/
def setOf (l : List Nat) : List Nat :=
  l.foldr setInsert []

/-- The members of `l` that are not in `m`, in the order of `l`. -/
def setDiff (l m : List Nat) : List Nat :=
  l.filter (fun a => decide (a ∉ m))

/-- A modifier key: 224 to 231 (00_scope.md, Key numbers). -/
def isModifier (k : Nat) : Bool :=
  224 ≤ k && k ≤ 231

/-- Bit `i` of a byte. -/
def bit (b : Byte) (i : Nat) : Bool :=
  b.getLsbD i

/-! ### Indicators -/

/-- The lamps a keyboard has and a computer reports (R1, R145). -/
inductive Indicator where
  | num
  | caps
  | scroll
  | compose
  | kana
  deriving DecidableEq, Repr

/-- A set over the five indicators (R1, R16, R145). -/
structure Indicators where
  num : Bool
  caps : Bool
  scroll : Bool
  compose : Bool
  kana : Bool
  deriving DecidableEq, Repr

/-- All lamps off. -/
def Indicators.none : Indicators :=
  ⟨false, false, false, false, false⟩

/-- Whether an indicator is in the set. -/
def Indicators.has (s : Indicators) : Indicator → Bool
  | .num => s.num
  | .caps => s.caps
  | .scroll => s.scroll
  | .compose => s.compose
  | .kana => s.kana

/-- An indicator report's byte, bits 5 to 7 ignored (R179). -/
def Indicators.ofByte (b : Byte) : Indicators :=
  ⟨bit b 0, bit b 1, bit b 2, bit b 3, bit b 4⟩

/-- An indicator output's byte, bits 5 to 7 zero (R179). -/
def Indicators.toByte (s : Indicators) : Byte :=
  BitVec.ofNat 8
    (s.num.toNat + 2 * s.caps.toNat + 4 * s.scroll.toNat + 8 * s.compose.toNat + 16 * s.kana.toNat)

/-! ### Event kinds -/

/-- The nine event kinds, in bit order 0 to 8 (R171, R177). -/
inductive EventKind where
  | focus
  | alert
  | link
  | wake
  | lock
  | typeout
  | table
  | video
  | screen
  deriving DecidableEq, Repr

/-- A set of event kinds, carried as nine bits (R171, R177). -/
abbrev EventSet := BitVec 9

/-- The set of one kind, at its bit of R177. -/
def EventKind.bit : EventKind → EventSet
  | .focus => 1
  | .alert => 2
  | .link => 4
  | .wake => 8
  | .lock => 16
  | .typeout => 32
  | .table => 64
  | .video => 128
  | .screen => 256

/-- All nine kinds: every mask at power-on reset (R171). -/
def allEvents : EventSet :=
  511

/-! ### The freeze set -/

/-- A set of tables; in it bit t - 1 stands for table t (R169, 11.2). -/
abbrev TableSet := BitVec 10

/-! ### Multi-byte quantities: least significant byte first (R176) -/

/-- The two bytes of a quantity. -/
def bytes2 (n : Nat) : List Byte :=
  [BitVec.ofNat 8 n, BitVec.ofNat 8 (n / 256)]

/-- The four bytes of a quantity. -/
def bytes4 (n : Nat) : List Byte :=
  [BitVec.ofNat 8 n, BitVec.ofNat 8 (n / 256), BitVec.ofNat 8 (n / 65536), BitVec.ofNat 8 (n / 16777216)]

/-- A quantity of two bytes. -/
def word (lo hi : Byte) : Nat :=
  lo.toNat + 256 * hi.toNat

/-- A yes/no field (R176). -/
def boolByte (b : Bool) : Byte :=
  if b then 1 else 0

/-- The byte that carries a small number. -/
def byte (n : Nat) : Byte :=
  BitVec.ofNat 8 n

/-- A signed quantity of one byte, two's complement (R176). -/
def signedByte (i : Int) : Byte :=
  BitVec.ofInt 8 i

/-- A number 1 to n as an index, 0 or a number past n as none. -/
def ofNum (n : Nat) (k : Nat) : Option (Fin n) :=
  if h : 1 ≤ k ∧ k ≤ n then some ⟨k - 1, by omega⟩ else none

/-- The manual's number of an index: 1 to n. -/
def num {n : Nat} (i : Fin n) : Nat :=
  i.val + 1

/-- The manual's number of an index that may be absent, 0 standing for none. -/
def numOr0 {n : Nat} (i : Option (Fin n)) : Nat :=
  match i with
  | none => 0
  | some i => i.val + 1

/-- A value clamped to a range (00_scope.md, Arithmetic). -/
def clampInt (lo hi x : Int) : Int :=
  max lo (min hi x)

/-- A number clamped to a range. -/
def clampNat (lo hi x : Nat) : Nat :=
  max lo (min hi x)

end Sys2Proof.Machine
end

