-- ==== Sys2Proof/Machine/Tables.lean ====
section
/-! DEFINITION. The ten tables of R164: the types of their entries and the defaults set when the stored image is invalid
(R175). -/

namespace Sys2Proof.Machine

/-! ### Entry types -/

/-- Whether the indicator being on, or being off, is the alert condition (R132). -/
inductive Sense where
  | on
  | off
  deriving DecidableEq, Repr

/-- How long an indicator alert lasts (R132). -/
inductive AlertKind where
  | level
  | latched
  deriving DecidableEq, Repr

/-- An entry of the computer table (R162, R132). Desktop sizes of 0 mean automatic. -/
structure ComputerEntry where
  manager : Bool
  mayDeposit : Bool
  parked : Bool
  desktopWidth : Nat
  desktopHeight : Nat
  alertIndicator : Option Indicator
  alertSense : Sense
  alertKind : AlertKind
  alertPriority : Nat
  wakePermitted : Bool
  deriving DecidableEq, Repr

/-- How GO_ALERT chooses (R139, R163). -/
inductive AlertPolicy where
  | oldest
  | priority
  | rotate
  deriving DecidableEq, Repr

/-- The desk options record (R163). -/
structure Options where
  doubleTapWindow : Nat
  commandTimeout : Nat
  peekDuration : Nat
  wakeAttempts : Nat
  wakeWindow : Nat
  wakeAllStagger : Nat
  typePacing : Nat
  wakeOnFocus : Bool
  wakeOnGlide : Bool
  wakeOnInput : Bool
  alertPolicy : AlertPolicy
  focusFrame : Bool
  initialFocus : Option Computer
  startLocked : Bool
  deriving DecidableEq, Repr

/-- How a picture is placed within a tile (R45, R57). -/
inductive Fit where
  | fit
  | fill
  deriving DecidableEq, Repr

/-- An entry of the layout table (R45). -/
structure LayoutEntry where
  enabled : Bool
  x : Nat
  y : Nat
  w : Nat
  h : Nat
  fit : Fit
  nativeW : Nat
  nativeH : Nat
  deriving DecidableEq, Repr

/-- An assignment entry (R81): one channel or four, `none` an empty tile. -/
inductive Assignment where
  | single (c : Option Channel)
  | quad (c1 c2 c3 c4 : Option Channel)
  deriving DecidableEq, Repr

/-- An entry of the channel table (R72). -/
structure ChannelEntry where
  owner : Option Computer
  hx : Nat
  hy : Nat
  deriving DecidableEq, Repr

/-- An entry of the pointer device table (R50). -/
structure PointerEntry where
  gain : Nat
  threshold : Nat
  acceleration : Nat
  deriving DecidableEq, Repr

/-- How a hotkey entry is recognised (R93). -/
inductive HotkeyKind where
  | chord
  | doubleTap
  | follower
  deriving DecidableEq, Repr

/-- A modifier requirement (R93, R96). -/
inductive Requirement where
  | neither
  | left
  | right
  | either
  | any
  deriving DecidableEq, Repr

/-- The seventeen hotkey actions, in the order of R105. -/
inductive Action where
  | nothing
  | focus
  | focusNext
  | focusPrev
  | focusBack
  | broadcastToggle
  | broadcastClear
  | showChannel
  | peek
  | preset
  | parkToggle
  | wake
  | wakeAll
  | lock
  | typeText
  | goAlert
  | command
  deriving DecidableEq, Repr

/-- An entry of the hotkey table (R93). -/
structure HotkeyEntry where
  enabled : Bool
  kind : HotkeyKind
  ctrlReq : Requirement
  shiftReq : Requirement
  altReq : Requirement
  metaReq : Requirement
  key : Nat
  action : Action
  arg1 : Nat
  arg2 : Nat
  deriving DecidableEq, Repr

/-- An entry of the translation table (R123). Key 0 is untypeable. -/
structure TransEntry where
  key : Nat
  shift : Bool
  deriving DecidableEq, Repr

/-- The ten tables (R164): what a save stores and a power-on reset loads (R174, R175). The unlock sequence is absent or
a list of 4 to 16 keys (R114). -/
structure Tables where
  computer : Vector ComputerEntry 8
  options : Options
  layout : Vector LayoutEntry 8
  assignment : Vector Assignment 8
  preset : Vector Assignment 32
  channel : Vector ChannelEntry 16
  pointer : Vector PointerEntry 4
  hotkey : Vector HotkeyEntry 32
  translation : Vector TransEntry 97
  unlock : Option (List Nat)
  deriving DecidableEq, Repr

/-- The tables by name, in the order of their identifiers 1 to 10 (11.2). -/
inductive TableId where
  | computer
  | options
  | layout
  | assignment
  | preset
  | channel
  | pointer
  | hotkey
  | translation
  | unlock
  deriving DecidableEq, Repr

/-! ### Defaults -/

/-- The default computer table: computer 1 the only manager (R162, R132). -/
def defaultComputer (n : Computer) : ComputerEntry where
  manager := n.val == 0
  mayDeposit := false
  parked := false
  desktopWidth := 0
  desktopHeight := 0
  alertIndicator := none
  alertSense := .on
  alertKind := .latched
  alertPriority := 4
  wakePermitted := true

/-- The defaults of R163. -/
def defaultOptions : Options where
  doubleTapWindow := 400
  commandTimeout := 2000
  peekDuration := 5
  wakeAttempts := 3
  wakeWindow := 500
  wakeAllStagger := 200
  typePacing := 16
  wakeOnFocus := true
  wakeOnGlide := true
  wakeOnInput := true
  alertPolicy := .oldest
  focusFrame := true
  initialFocus := some 0
  startLocked := false

/-- The default layout: eight screens in one row (R45). -/
def defaultLayout (s : ScreenNo) : LayoutEntry where
  enabled := true
  x := s.val * 1920
  y := 0
  w := 1920
  h := 1080
  fit := .fit
  nativeW := 0
  nativeH := 0

/-- The default assignment of screen s: SINGLE with channel 2s - 1 (R81). -/
def defaultAssignment (s : ScreenNo) : Assignment :=
  .single (ofNum 16 (2 * num s - 1))

/-- The default presets (R84). Entry s of preset p is entry 8 × (p - 1) + s. -/
def defaultPreset (i : Fin 32) : Assignment :=
  let p := i.val / 8 + 1
  let s := i.val % 8 + 1
  if p = 2 then .single (ofNum 16 (2 * s))
  else if p = 3 then
    if s = 1 then .quad (ofNum 16 1) (ofNum 16 3) (ofNum 16 5) (ofNum 16 7)
    else if s = 2 then .quad (ofNum 16 9) (ofNum 16 11) (ofNum 16 13) (ofNum 16 15)
    else .single none
  else .single (ofNum 16 (2 * s - 1))

/-- The default channel table: two heads a computer, side by side (R72). -/
def defaultChannel (c : Channel) : ChannelEntry where
  owner := ofNum 8 ((num c + 1) / 2)
  hx := if num c % 2 = 1 then 0 else 1920
  hy := 0

/-- The default pointer device entry (R50). -/
def defaultPointer : PointerEntry where
  gain := 16
  threshold := 4
  acceleration := 8

/-- A hotkey entry whose modifier requirements are all ANY (R95, entries 1 to 14). -/
def plainHotkey (kind : HotkeyKind) (key : Nat) (action : Action) (arg1 : Nat) : HotkeyEntry where
  enabled := true
  kind := kind
  ctrlReq := .any
  shiftReq := .any
  altReq := .any
  metaReq := .any
  key := key
  action := action
  arg1 := arg1
  arg2 := 0

/-- Entries 15 and 16 of R95: Ctrl and Alt either side, no Shift and no Meta. -/
def arrowHotkey (key : Nat) (action : Action) : HotkeyEntry where
  enabled := true
  kind := .chord
  ctrlReq := .either
  shiftReq := .neither
  altReq := .either
  metaReq := .neither
  key := key
  action := action
  arg1 := 0
  arg2 := 0

/-- Entries 17 to 32 of R95. The rule states no modifier requirements for them; NONE is code 0 (log entry 36: DESIGN CHOICE). -/
def unusedHotkey : HotkeyEntry where
  enabled := false
  kind := .chord
  ctrlReq := .neither
  shiftReq := .neither
  altReq := .neither
  metaReq := .neither
  key := 0
  action := .nothing
  arg1 := 0
  arg2 := 0

/-- The default hotkey table (R95), `i` the entry number less one. -/
def defaultHotkey (i : Fin 32) : HotkeyEntry :=
  let n := i.val + 1
  if n = 1 then plainHotkey .doubleTap 71 .command 0
  else if n ≤ 9 then plainHotkey .follower (28 + n) .focus (n - 1)
  else if n = 10 then plainHotkey .follower 43 .focusBack 0
  else if n = 11 then plainHotkey .follower 15 .lock 0
  else if n = 12 then plainHotkey .follower 26 .wake 0
  else if n = 13 then plainHotkey .follower 23 .typeText 0
  else if n = 14 then plainHotkey .follower 4 .goAlert 0
  else if n = 15 then arrowHotkey 79 .focusNext
  else if n = 16 then arrowHotkey 80 .focusPrev
  else unusedHotkey

/-- The characters typed without shift that are neither letters nor digits, with their keys (R123). -/
def plainSymbols : List (Nat × Nat) :=
  [(9, 43), (10, 40), (32, 44), (48, 39), (45, 45), (61, 46), (91, 47), (93, 48), (92, 49), (59, 51), (39, 52),
    (96, 53), (44, 54), (46, 55), (47, 56)]

/-- The characters typed with shift that are not letters, with their keys (R123). -/
def shiftedSymbols : List (Nat × Nat) :=
  [(33, 30), (64, 31), (35, 32), (36, 33), (37, 34), (94, 35), (38, 36), (42, 37), (40, 38), (41, 39), (95, 45),
    (43, 46), (123, 47), (125, 48), (124, 49), (58, 51), (34, 52), (126, 53), (60, 54), (62, 55), (63, 56)]

/-- The default translation of a character code (R123). -/
def defaultTranslationOf (code : Nat) : TransEntry :=
  if 97 ≤ code ∧ code ≤ 122 then ⟨code - 93, false⟩
  else if 65 ≤ code ∧ code ≤ 90 then ⟨code - 61, true⟩
  else if 49 ≤ code ∧ code ≤ 57 then ⟨code - 19, false⟩
  else
    match plainSymbols.lookup code with
    | some key => ⟨key, false⟩
    | none =>
      match shiftedSymbols.lookup code with
      | some key => ⟨key, true⟩
      | none => ⟨0, false⟩

/-- The character that translation entry i + 1 stands for: tab, newline, then 32 to 126 (R164, R178). -/
def transCode (i : Fin 97) : Nat :=
  if i.val = 0 then 9 else if i.val = 1 then 10 else i.val + 30

/-- The translation entry of a character code the mailbox can hold (R123, R178). -/
def transIndex (code : Nat) : Option (Fin 97) :=
  if code = 9 then some 0
  else if code = 10 then some 1
  else if h : 32 ≤ code ∧ code ≤ 126 then some ⟨code - 30, by omega⟩
  else none

/-- Every table at its default (R175). -/
def defaultTables : Tables where
  computer := Vector.ofFn defaultComputer
  options := defaultOptions
  layout := Vector.ofFn defaultLayout
  assignment := Vector.ofFn defaultAssignment
  preset := Vector.ofFn defaultPreset
  channel := Vector.ofFn defaultChannel
  pointer := Vector.ofFn (fun _ => defaultPointer)
  hotkey := Vector.ofFn defaultHotkey
  translation := Vector.ofFn (fun i => defaultTranslationOf (transCode i))
  unlock := none

end Sys2Proof.Machine
end

