-- ==== Sys2Proof/Machine/Geometry.lean ====
section
/-! DEFINITION. Desk geometry (Chapter 3): tiles, location, picture fit, and the arithmetic from a desk position to an
absolute coordinate. Every quantity is a natural number; a division is rounded down. -/

namespace Sys2Proof.Machine

/-- A tile: its screen and quadrant, its rectangle in desk units, and the channel it shows (R47). Quadrant 0 is the one
tile of a SINGLE screen. -/
structure Tile where
  screen : ScreenNo
  quad : Fin 5
  x : Nat
  y : Nat
  w : Nat
  h : Nat
  channel : Option Channel
  deriving DecidableEq, Repr

/-- The channels of an assignment, one per tile (R81). -/
def Assignment.channels : Assignment → List (Option Channel)
  | .single c => [c]
  | .quad c1 c2 c3 c4 => [c1, c2, c3, c4]

/-- The tiles of a screen, by its layout entry and its displayed assignment (R47). A disabled screen has none. -/
def tilesOf (sc : ScreenNo) (e : LayoutEntry) (a : Assignment) : List Tile :=
  if e.enabled then
    match a with
    | .single c => [⟨sc, 0, e.x, e.y, e.w, e.h, c⟩]
    | .quad c1 c2 c3 c4 =>
      let w1 := e.w / 2
      let w2 := e.w - w1
      let h1 := e.h / 2
      let h2 := e.h - h1
      [⟨sc, 1, e.x, e.y, w1, h1, c1⟩, ⟨sc, 2, e.x + w1, e.y, w2, h1, c2⟩,
        ⟨sc, 3, e.x, e.y + h1, w1, h2, c3⟩, ⟨sc, 4, e.x + w1, e.y + h1, w2, h2, c4⟩]
  else []

/-- Whether a desk point lies in a tile (R49). -/
def Tile.contains (t : Tile) (dx dy : Nat) : Bool :=
  t.x ≤ dx && dx ≤ t.x + t.w - 1 && t.y ≤ dy && dy ≤ t.y + t.h - 1

/-- The centre of a tile, in sixteenths of a desk unit (R48). -/
def Tile.centre (t : Tile) : Nat × Nat :=
  (16 * (t.x + t.w / 2), 16 * (t.y + t.h / 2))

/-- The owner of a tile's channel in the channel table (R47). -/
def tileOwner (tb : Tables) (t : Tile) : Option Computer :=
  match t.channel with
  | none => none
  | some c => tb.channel[c].owner

/-- The size of a picture and its offset within its tile (R57). -/
structure Picture where
  w : Nat
  h : Nat
  ox : Nat
  oy : Nat
  deriving DecidableEq, Repr

/-- Where the picture of a channel with timing `sw` by `sh` lies in a tile of `tw` by `th` (R57). -/
def fitPicture (f : Fit) (tw th sw sh : Nat) : Picture :=
  match f with
  | .fill => ⟨tw, th, 0, 0⟩
  | .fit =>
    if sh * tw ≤ sw * th then
      let ih := tw * sh / sw
      ⟨tw, ih, 0, (th - ih) / 2⟩
    else
      let iw := th * sw / sh
      ⟨iw, th, (tw - iw) / 2, 0⟩

/-- The position within the picture on one axis, clamped to the picture (R58): `d` the desk coordinate, `t0` the tile's
low edge, `off` the picture's offset, `size` its size. The subtraction stops at 0, which is the low clamp. -/
def pictureCoord (d t0 off size : Nat) : Nat :=
  min (d - t0 - off) (size - 1)

/-- The source pixel on one axis (R58). -/
def sourceCoord (u source size : Nat) : Nat :=
  u * source / size

/-- The absolute coordinate on one axis (R60): `c` the desktop position, `d` the desktop size. -/
def absoluteCoord (c d : Nat) : Nat :=
  min (c * 32768 / d) 32767

/-- The step of an axis count, in sixteenths of a desk unit (R51). -/
def scaleStep (e : PointerEntry) (d : Int) : Int :=
  let m := d.natAbs
  let step : Nat := m * e.gain + (m - e.threshold) * e.acceleration
  if d < 0 then -(step : Int) else (step : Int)

/-- Two enabled entries overlap when they have a desk point in common (R46). -/
def layoutOverlap (a b : LayoutEntry) : Bool :=
  a.x < b.x + b.w && b.x < a.x + a.w && a.y < b.y + b.h && b.y < a.y + a.h

/-! ### Tile frames -/

/-- The frame kinds of R88. -/
inductive FrameKind where
  | none
  | focus
  | alert
  | peek
  deriving DecidableEq, Repr

/-- The frame kind of one tile (R88). `alerting` are the computers in the alert list, `peeked` the channel of the
screen's peek record. -/
def frameKind (tb : Tables) (focus : Option Computer) (alerting : List Computer) (peeked : Option Channel)
    (a : Assignment) (t : Tile) : FrameKind :=
  if peeked.isSome && decide (a = .single peeked) then .peek
  else
    match tileOwner tb t with
    | none => .none
    | some n =>
      if n ∈ alerting then .alert
      else if focus = some n ∧ tb.options.focusFrame then .focus
      else .none

/-- The frame kinds of a screen's tiles, in scan order (R88). -/
def frameKinds (tb : Tables) (focus : Option Computer) (alerting : List Computer) (peeked : Option Channel)
    (sc : ScreenNo) (a : Assignment) : List FrameKind :=
  (tilesOf sc tb.layout[sc] a).map (frameKind tb focus alerting peeked a)

/-- The pixel size at which an output is composed (R91). -/
def nativeSize (e : LayoutEntry) (reported : Option (Nat × Nat)) : Nat × Nat :=
  if e.nativeW ≠ 0 ∧ e.nativeH ≠ 0 then (e.nativeW, e.nativeH)
  else
    match reported with
    | some size => size
    | none => (e.w, e.h)

/-- The output pixel a desk position on a screen maps to (R91). -/
def outputPixel (e : LayoutEntry) (native : Nat × Nat) (dx dy : Nat) : Nat × Nat :=
  ((dx - e.x) * native.1 / e.w, (dy - e.y) * native.2 / e.h)

end Sys2Proof.Machine
end

