-- ==== Sys2Proof/Machine/Records.lean ====
section
/-! DEFINITION. The records of the part's blocks, block by block as the manual's block overview gives them, and each
one's value right after power-on reset. -/

namespace Sys2Proof.Machine

/-! ### Console input unit (Chapter 1) -/

/-- A console port record (R1). The optional fields stand with the class they belong to. `inFlight` is the value of the
indicator output in flight, if one is. -/
inductive ConsolePort where
  | none
  | keyboard (lastKeys : List Nat) (shown : Indicators) (inFlight : Option Indicators)
  | pointer (lastButtons : List Nat)
  | unsupported
  deriving DecidableEq, Repr

/-- The state of the console input unit (R1, R9, R12, R16). `outputs` is the model's: the byte of the indicator output
last started at each console port (R17, R179; log entry 5: DESIGN CHOICE). -/
structure Console where
  ports : Vector ConsolePort 4
  deskKeys : List Nat
  deskButtons : List Nat
  mirrored : Indicators
  outputs : Vector (Option Byte) 4
  deriving DecidableEq, Repr

/-! ### Lock unit (Chapter 6) -/

/-- The states of the lock unit (R113). -/
inductive LockState where
  | unlocked
  | locked
  | lockout
  deriving DecidableEq, Repr

/-- The lock record (R113); `timer` is the lockout timer's expiry while it runs. -/
structure Lock where
  state : LockState
  progress : Nat
  failures : Nat
  timer : Option Nat
  deriving DecidableEq, Repr

/-! ### Hotkey matcher (Chapter 5) -/

/-- A first tap waiting for its second (R97). -/
structure Candidate where
  key : Nat
  released : Bool
  expiry : Nat
  deriving DecidableEq, Repr

/-- The matcher record (R97). -/
structure Matcher where
  commandMode : Bool
  commandTimer : Option Nat
  candidate : Option Candidate
  deriving DecidableEq, Repr

/-! ### Focus controller (Chapter 2) -/

/-- How console motion is used (R18, R35). -/
inductive PointerMode where
  | glide
  | detached
  | held
  deriving DecidableEq, Repr

/-- A belief set: the keys and buttons a computer has been told are held (R19). -/
structure Belief where
  keys : List Nat
  buttons : List Nat
  deriving DecidableEq, Repr

/-- The focus record (R18) and the belief sets (R19). -/
structure FocusCtl where
  focus : Option Computer
  previous : Option Computer
  mode : PointerMode
  broadcast : Vector Bool 8
  rx : Int
  ry : Int
  beliefs : Vector Belief 8
  deriving DecidableEq, Repr

/-! ### Glide engine (Chapter 3) -/

/-- The current tile and the tile computer, present together (R44). -/
structure Seat where
  screen : ScreenNo
  quad : Fin 5
  computer : Computer
  deriving DecidableEq, Repr

/-- The desk pointer record (R44), the remembered positions (R65) and the last absolute positions (R64). -/
structure Glide where
  px : Nat
  py : Nat
  seat : Option Seat
  remembered : Vector (Option (Nat × Nat)) 8
  lastAbs : Vector (Option (Nat × Nat)) 8
  deriving DecidableEq, Repr

/-! ### Screen compositor and channel receivers (Chapter 4) -/

/-- A peek in progress (R77). -/
structure Peek where
  channel : Channel
  remaining : Nat
  base : Assignment
  deriving DecidableEq, Repr

/-- What is drawn in a tile of a composed frame (R91): black, the no-signal pattern, or the channel's picture in the
area R57 gives. -/
inductive TileContent where
  | black
  | noSignal
  | picture (c : Channel) (area : Picture)
  deriving DecidableEq, Repr

/-- A composed frame of an output (R91): the lock pattern, black, or the tiles with their borders. -/
inductive Composed where
  | lockPattern
  | black
  | tiles (native : Nat × Nat) (drawn : List (Tile × TileContent × FrameKind))
  deriving DecidableEq, Repr

/-- A screen runtime record (R77). `composed` is the model's: the frame last composed. -/
structure Screen where
  attached : Bool
  reported : Option (Nat × Nat)
  native : Nat × Nat
  displayed : Assignment
  pendingAssignment : Option Assignment
  peek : Option Peek
  frames : List FrameKind
  pendingFrames : Option (List FrameKind)
  blanked : Bool
  composed : Option Composed
  deriving DecidableEq, Repr

/-- The states of a channel (R73). -/
inductive ChannelState where
  | noSignal
  | locking
  | locked
  | unsupported
  deriving DecidableEq, Repr

/-- A channel runtime record (R73). -/
structure ChannelRt where
  state : ChannelState
  timing : Option Timing
  count : Nat
  lastLocked : Option Timing
  deriving DecidableEq, Repr

/-! ### Link controllers (Chapter 9) -/

/-- The states of a link (R142). -/
inductive LinkState where
  | absent
  | attaching
  | ready
  | suspended
  | waking
  | stalled
  deriving DecidableEq, Repr

/-- The phases of a wake attempt (R142, R155). -/
inductive WakePhase where
  | signalling
  | waiting
  deriving DecidableEq, Repr

/-- How a wake ended (R142). -/
inductive WakeOutcome where
  | none
  | done
  | failed
  | refused
  | aborted
  deriving DecidableEq, Repr

/-- The kinds of a pointer report (R148). -/
inductive ReportKind where
  | absolute
  | relative
  deriving DecidableEq, Repr

/-- A pointer report (R148): `x` and `y` are ax and ay of an absolute report, dx and dy of a relative one. -/
structure PtrReport where
  kind : ReportKind
  x : Int
  y : Int
  buttons : List Nat
  wheel : Int
  deriving DecidableEq, Repr

/-- An event of a pending key queue (R153). -/
inductive KeyEvent where
  | press (k : Nat)
  | release (k : Nat)
  deriving DecidableEq, Repr

/-- The status codes (R177). -/
inductive Status where
  | ok
  | okAdjusted
  | partialRead
  | notReady
  | badRequest
  | noAuthority
  | badIndex
  | badValue
  | frozen
  | stale
  | busy
  | locked
  | unreadable
  | storeFailed
  deriving DecidableEq, Repr

/-- A complete reply (R160, R176). -/
structure Reply where
  command : Byte
  tag : Byte
  status : Status
  generation : Nat
  results : List Byte
  deriving DecidableEq, Repr

/-- The reply slot (R160). -/
inductive ReplySlot where
  | empty
  | inProgress (tag : Byte)
  | ready (r : Reply)
  deriving DecidableEq, Repr

/-- A notification (R172, R176). -/
structure Notification where
  kinds : EventSet
  generation : Nat
  deriving DecidableEq, Repr

/-- The answer to a poll (R146): "no change", or a report's bytes (R179). -/
inductive PollAnswer where
  | noChange
  | report (bytes : List Byte)
  deriving DecidableEq, Repr

/-- A computer port: the link record and all that is held with it (R142). A timer is its expiry while it runs. The last
four fields are the model's: what the port last put out (log entry 5: DESIGN CHOICE). -/
structure Port where
  link : LinkState
  remoteWake : Bool
  settle : Option Nat
  deferred : Bool
  attempt : Nat
  phase : Option WakePhase
  attemptTimer : Option Nat
  stall : Option Nat
  lastWake : WakeOutcome
  keyOverruns : Nat
  pointerOverruns : Nat
  pressesDropped : Nat
  wakesFailed : Nat
  keyQueue : List (List Nat)
  pointerQueue : List PtrReport
  held : Option PtrReport
  pendingKeys : List KeyEvent
  indicators : Indicators
  slot : ReplySlot
  notification : Option Notification
  keyAnswer : Option PollAnswer
  pointerAnswer : Option PollAnswer
  replyOut : Option (List Byte)
  notificationOut : Option (List Byte)
  deriving DecidableEq, Repr

/-- The wake-all record (R158). -/
structure WakeAll where
  startList : List Computer
  stagger : Option Nat
  deriving DecidableEq, Repr

/-! ### Type-out unit (Chapter 7) -/

/-- The states of the mailbox (R121). -/
inductive MailState where
  | empty
  | held
  | typing
  deriving DecidableEq, Repr

/-- The sub-states of TYPING (R121). -/
inductive TypeSub where
  | waitingWake
  | waitingRelease
  | active
  deriving DecidableEq, Repr

/-- A character whose press has been queued and whose release has not (R121). -/
structure Pressed where
  key : Nat
  shift : Bool
  releaseDue : Nat
  deriving DecidableEq, Repr

/-- The pacing record (R121). -/
structure Pacing where
  pressed : Option Pressed
  nextPress : Nat
  deriving DecidableEq, Repr

/-- How a type-out ended (R131). -/
inductive TypeEnd where
  | complete
  | cancelledKey
  | cancelledFocus
  | cancelledLock
  | cancelledWake
  | cancelledLink
  deriving DecidableEq, Repr

/-- The type-out outcome record (R131). -/
structure TypeOutcome where
  ending : TypeEnd
  typed : Nat
  skipped : Nat
  deriving DecidableEq, Repr

/-- The text mailbox record with its pacing record (R121), and the outcome record (R131). -/
structure Typeout where
  state : MailState
  sub : Option TypeSub
  text : List Nat
  depositor : Option Computer
  target : Option Computer
  index : Nat
  typed : Nat
  skipped : Nat
  pacing : Option Pacing
  outcome : Option TypeOutcome
  deriving DecidableEq, Repr

/-! ### Alert unit (Chapter 8) -/

/-- A source record (R133). -/
structure AlertSource where
  known : Bool
  condition : Bool
  deriving DecidableEq, Repr

/-- What made an alert entry (R135). -/
inductive RaisedBy where
  | indicator
  | service
  deriving DecidableEq, Repr

/-- An entry of the alert list (R135); its arrival order is its place in the list. -/
structure AlertEntry where
  computer : Computer
  kind : AlertKind
  raisedBy : RaisedBy
  deriving DecidableEq, Repr

/-- The source records, the alert list and the rotation order (R133, R135, R139). -/
structure Alerts where
  sources : Vector AlertSource 8
  list : List AlertEntry
  rotation : List Computer
  deriving DecidableEq, Repr

/-! ### Management unit and settings store (Chapter 10) -/

/-- Where the tables came from at power-on (R175). -/
inductive SettingsSource where
  | stored
  | defaulted
  deriving DecidableEq, Repr

/-- How the last save ended (R174). -/
inductive SaveOutcome where
  | none
  | ok
  | storeFailed
  deriving DecidableEq, Repr

/-- A save in flight (R174): the port that asked and the image being written. -/
structure SaveInFlight where
  requester : Computer
  image : Tables
  deriving DecidableEq, Repr

/-- The management unit's own state (R167, R169, R171, R174, R175). -/
structure Mgmt where
  generation : Nat
  summaries : Vector EventSet 8
  masks : Vector EventSet 8
  freezeSet : TableSet
  saving : Option SaveInFlight
  lastSave : SaveOutcome
  source : SettingsSource
  deriving DecidableEq, Repr

/-! ### Values at power-on reset -/

/-- A console port at power-on (R1, R9, R12, R16). -/
def Console.powerOn : Console where
  ports := Vector.replicate 4 .none
  deskKeys := []
  deskButtons := []
  mirrored := Indicators.none
  outputs := Vector.replicate 4 none

/-- The console starts locked when start locked is yes and a sequence is stored (R113). -/
def startsLocked (tb : Tables) : Bool :=
  tb.options.startLocked && tb.unlock.isSome

/-- The lock record at power-on (R113). -/
def Lock.powerOn (tb : Tables) : Lock where
  state := if startsLocked tb then .locked else .unlocked
  progress := 0
  failures := 0
  timer := none

/-- The matcher record at power-on (R97). -/
def Matcher.powerOn : Matcher where
  commandMode := false
  commandTimer := none
  candidate := none

/-- The initial focus, or none when it is 0 or names a parked computer (R18, R42). -/
def initialFocus (tb : Tables) : Option Computer :=
  match tb.options.initialFocus with
  | none => none
  | some n => if tb.computer[n].parked then none else some n

/-- The focus record and belief sets at power-on (R18, R19). The pointer starts unseated, so the mode is DETACHED
(R67). -/
def FocusCtl.powerOn (tb : Tables) : FocusCtl where
  focus := initialFocus tb
  previous := none
  mode := .detached
  broadcast := Vector.replicate 8 false
  rx := 0
  ry := 0
  beliefs := Vector.replicate 8 ⟨[], []⟩

/-- The glide engine at power-on (R44, R64, R65, R67). -/
def Glide.powerOn : Glide where
  px := 0
  py := 0
  seat := none
  remembered := Vector.replicate 8 none
  lastAbs := Vector.replicate 8 none

/-- A screen runtime record at power-on (R77), with the frame kinds that the computation of R89 at the end of power-on
displays at once on an unattached screen. -/
def Screen.powerOn (tb : Tables) (sc : ScreenNo) : Screen where
  attached := false
  reported := none
  native := nativeSize tb.layout[sc] none
  displayed := tb.assignment[sc]
  pendingAssignment := none
  peek := none
  frames := frameKinds tb (initialFocus tb) [] none sc tb.assignment[sc]
  pendingFrames := none
  blanked := startsLocked tb
  composed := none

/-- A channel runtime record at power-on (R73). -/
def ChannelRt.powerOn : ChannelRt where
  state := .noSignal
  timing := none
  count := 0
  lastLocked := none

/-- A computer port at power-on (R142, R160, R172). The attempt phase, to which R142 gives no value outside WAKING, is none
there (log entry 46: DESIGN CHOICE). -/
def Port.powerOn : Port where
  link := .absent
  remoteWake := false
  settle := none
  deferred := false
  attempt := 0
  phase := none
  attemptTimer := none
  stall := none
  lastWake := .none
  keyOverruns := 0
  pointerOverruns := 0
  pressesDropped := 0
  wakesFailed := 0
  keyQueue := []
  pointerQueue := []
  held := none
  pendingKeys := []
  indicators := Indicators.none
  slot := .empty
  notification := none
  keyAnswer := none
  pointerAnswer := none
  replyOut := none
  notificationOut := none

/-- The type-out unit at power-on (R121, R131). -/
def Typeout.powerOn : Typeout where
  state := .empty
  sub := none
  text := []
  depositor := none
  target := none
  index := 0
  typed := 0
  skipped := 0
  pacing := none
  outcome := none

/-- The alert unit at power-on (R133, R135, R139). -/
def Alerts.powerOn : Alerts where
  sources := Vector.replicate 8 ⟨false, false⟩
  list := []
  rotation := computers

/-- The management unit at power-on (R167, R169, R171, R174, R175). -/
def Mgmt.powerOn (src : SettingsSource) : Mgmt where
  generation := 0
  summaries := Vector.replicate 8 0
  masks := Vector.replicate 8 allEvents
  freezeSet := 0
  saving := none
  lastSave := .none
  source := src

end Sys2Proof.Machine
end

