-- ==== Sys2Proof/Machine/State.lean ====
section
/-! DEFINITION. The state of the part, its value right after power-on reset, and the reasons a step can stop. -/

namespace Sys2Proof.Machine

/-- The part. `now` is the model's clock in ms (log entry 1: DESIGN CHOICE), `pending` the queue of commands waiting, and
`store` the image in the settings store, `none` when it holds none whose check passes (R174, R175). -/
structure State where
  now : Nat
  pending : List Instr
  console : Console
  lock : Lock
  matcher : Matcher
  focus : FocusCtl
  glide : Glide
  screens : Vector Screen 8
  channels : Vector ChannelRt 16
  ports : Vector Port 8
  wakeAll : WakeAll
  typeout : Typeout
  alerts : Alerts
  mgmt : Mgmt
  tables : Tables
  store : Option Tables
  deriving DecidableEq, Repr

/-- No rule of the manual names a condition under which the part stops, so no command faults. -/
inductive Fault where
  deriving DecidableEq, Repr

/-- Why a command is refused by the model. -/
inductive Refusal where
  /-- Raised by `exec`'s arm of a command that has no meaning yet; safe: nothing is claimed of it. No arm raises it. -/
  | notModelled (mnemonic : String)
  deriving DecidableEq, Repr

/-- The part right after a power-on reset that loaded `tb` (R175), with the settings store and the queue as given. -/
def State.powerOn (tb : Tables) (src : SettingsSource) (store : Option Tables) (pending : List Instr) : State where
  now := 0
  pending := pending
  console := Console.powerOn
  lock := Lock.powerOn tb
  matcher := Matcher.powerOn
  focus := FocusCtl.powerOn tb
  glide := Glide.powerOn
  screens := Vector.ofFn (Screen.powerOn tb)
  channels := Vector.replicate 16 ChannelRt.powerOn
  ports := Vector.replicate 8 Port.powerOn
  wakeAll := ⟨[], none⟩
  typeout := Typeout.powerOn
  alerts := Alerts.powerOn
  mgmt := Mgmt.powerOn src
  tables := tb
  store := store

/-- The part after power-on reset with no valid image in the settings store (R175; log entry 3: DESIGN CHOICE). -/
def State.reset : State :=
  State.powerOn defaultTables .defaulted none []

end Sys2Proof.Machine
end

