-- ==== Sys2Proof/Machine/Ops.lean ====
section
/-! DEFINITION. The operations the blocks share: updates of the state, the clock, events and notifications, the report
queues of a port, belief sets, and the mirrored indicators. -/

namespace Sys2Proof.Machine

/-! ### Updates of one field -/

/-- `s` with its `now` replaced. -/
def State.setNow (s : State) (v : Nat) : State :=
  { s with now := v }

/-- `s` with its `console` replaced. -/
def State.setConsole (s : State) (v : Console) : State :=
  { s with console := v }

/-- `s` with its `lock` replaced. -/
def State.setLock (s : State) (v : Lock) : State :=
  { s with lock := v }

/-- `s` with its `matcher` replaced. -/
def State.setMatcher (s : State) (v : Matcher) : State :=
  { s with matcher := v }

/-- `s` with its `focus` replaced. -/
def State.setFocus (s : State) (v : FocusCtl) : State :=
  { s with focus := v }

/-- `s` with its `glide` replaced. -/
def State.setGlide (s : State) (v : Glide) : State :=
  { s with glide := v }

/-- `s` with its `screens` replaced. -/
def State.setScreens (s : State) (v : Vector Screen 8) : State :=
  { s with screens := v }

/-- `s` with its `channels` replaced. -/
def State.setChannels (s : State) (v : Vector ChannelRt 16) : State :=
  { s with channels := v }

/-- `s` with its `ports` replaced. -/
def State.setPorts (s : State) (v : Vector Port 8) : State :=
  { s with ports := v }

/-- `s` with its `wakeAll` replaced. -/
def State.setWakeAll (s : State) (v : WakeAll) : State :=
  { s with wakeAll := v }

/-- `s` with its `typeout` replaced. -/
def State.setTypeout (s : State) (v : Typeout) : State :=
  { s with typeout := v }

/-- `s` with its `alerts` replaced. -/
def State.setAlerts (s : State) (v : Alerts) : State :=
  { s with alerts := v }

/-- `s` with its `mgmt` replaced. -/
def State.setMgmt (s : State) (v : Mgmt) : State :=
  { s with mgmt := v }

/-- `s` with its `tables` replaced. -/
def State.setTables (s : State) (v : Tables) : State :=
  { s with tables := v }

/-- `s` with its `store` replaced. -/
def State.setStore (s : State) (v : Option Tables) : State :=
  { s with store := v }

/-- `s` with the record of computer port `p` changed by `f`. -/
def State.modPort (s : State) (p : Computer) (f : Port → Port) : State :=
  s.setPorts (s.ports.set p (f s.ports[p]))

/-- `s` with the runtime record of screen `sc` changed by `f`. -/
def State.modScreen (s : State) (sc : ScreenNo) (f : Screen → Screen) : State :=
  s.setScreens (s.screens.set sc (f s.screens[sc]))

/-- `s` with the belief set of computer `n` replaced. -/
def State.setBelief (s : State) (n : Computer) (b : Belief) : State :=
  s.setFocus { s.focus with beliefs := s.focus.beliefs.set n b }

/-! ### The clock (log entries 1 and 2) -/

/-- A peek's remaining time after `d` ms (R87). -/
def Screen.elapse (d : Nat) (sc : Screen) : Screen :=
  match sc.peek with
  | none => sc
  | some p => { sc with peek := some { p with remaining := p.remaining - d } }

/-- `d` ms pass: the clock moves on and every peek counts down, whether or not a display is attached (R87). -/
def State.elapse (s : State) (d : Nat) : State :=
  (s.setNow (s.now + d)).setScreens (Vector.ofFn fun i : ScreenNo => s.screens[i].elapse d)

/-- Time has reached `t`: the running out of a timer is the passing of the time to its expiry. A time that is past
changes nothing. -/
def State.advanceTo (s : State) (t : Nat) : State :=
  s.elapse (t - s.now)

/-! ### Events and notifications (R171, R172) -/

/-- A notification is sent when the set present in both summary and mask goes from empty to non-empty, provided the
link is READY at that moment; it replaces one not yet taken (R172). -/
def Port.announce (before after : EventSet) (generation : Nat) (p : Port) : Port :=
  if before = 0 ∧ after ≠ 0 ∧ p.link = .ready then { p with notification := some ⟨after, generation⟩ } else p

/-- The summary of computer `n` after an event of kind `e`: managers alone take it (R171). -/
def summaryAfter (e : EventKind) (s : State) (n : Computer) : EventSet :=
  if s.tables.computer[n].manager then s.mgmt.summaries[n] ||| e.bit else s.mgmt.summaries[n]

/-- Raise an event of kind `e` (R171), with the notifications it brings (R172). -/
def raise (e : EventKind) (s : State) : State :=
  (s.setMgmt { s.mgmt with summaries := Vector.ofFn (summaryAfter e s) }).setPorts
    (Vector.ofFn fun n : Computer =>
      s.ports[n].announce (s.mgmt.summaries[n] &&& s.mgmt.masks[n]) (summaryAfter e s n &&& s.mgmt.masks[n])
        s.mgmt.generation)

/-- The generation after a table change (R167). -/
def nextGeneration (g : Nat) : Nat :=
  if 63 ≤ g then 1 else g + 1

/-- A change of a table: the tables are replaced, the generation advances and TABLE is raised (R166, R167). -/
def changeTables (tb : Tables) (s : State) : State :=
  raise .table ((s.setTables tb).setMgmt { s.mgmt with generation := nextGeneration s.mgmt.generation })

/-! ### Report queues of a port (R147, R148, R149) -/

/-- A counter increased by 1; it stays at 65535 (R159). -/
def countUp (n : Nat) : Nat :=
  min Config.counterMax (n + 1)

/-- The stall timer starts when a report is added to a port whose two queues were both empty (R149). -/
def Port.startStall (now : Nat) (p : Port) : Option Nat :=
  if p.keyQueue = [] ∧ p.pointerQueue = [] then some (now + Config.stallTime) else p.stall

/-- Add a snapshot report (R147): appended while there is room, else in place of the newest, counted. -/
def Port.addSnapshot (now : Nat) (keys : List Nat) (p : Port) : Port :=
  if p.keyQueue.length < Config.keyQueueMax then
    { p with keyQueue := p.keyQueue ++ [keys], stall := p.startStall now }
  else
    { p with
      keyQueue := p.keyQueue.dropLast ++ [keys]
      keyOverruns := countUp p.keyOverruns
      stall := p.startStall now }

/-- Merge report `r` into report `q` (R148). -/
def PtrReport.merge (q r : PtrReport) : PtrReport :=
  let both := decide (q.kind = .relative ∧ r.kind = .relative)
  { kind := r.kind
    x := if both then clampInt (-127) 127 (q.x + r.x) else r.x
    y := if both then clampInt (-127) 127 (q.y + r.y) else r.y
    buttons := r.buttons
    wheel := clampInt (-127) 127 (q.wheel + r.wheel) }

/-- The relative report with the given buttons, zero motion and zero wheel (R21, R26). -/
def stillReport (buttons : List Nat) : PtrReport :=
  ⟨.relative, 0, 0, buttons, 0⟩

/-- Add a pointer report (R148). -/
def Port.addPointer (now : Nat) (r : PtrReport) (p : Port) : Port :=
  match p.pointerQueue.getLast? with
  | none => { p with pointerQueue := [r], stall := p.startStall now }
  | some q =>
    if q.kind = r.kind ∧ q.buttons = r.buttons then
      { p with pointerQueue := p.pointerQueue.dropLast ++ [q.merge r] }
    else if p.pointerQueue.length < Config.pointerQueueMax then
      { p with pointerQueue := p.pointerQueue ++ [r] }
    else
      { p with
        pointerQueue := p.pointerQueue.dropLast ++ [q.merge r]
        pointerOverruns := countUp p.pointerOverruns }

/-- A report handed to a SUSPENDED or WAKING port is held as one coalesced report (R152). -/
def Port.holdReport (r : PtrReport) (p : Port) : Port :=
  match p.held with
  | none => { p with held := some r }
  | some q => { p with held := some (q.merge r) }

/-- A button change sets the held report's button set, making a still report when there is none (R152). -/
def Port.holdButtons (buttons : List Nat) (p : Port) : Port :=
  match p.held with
  | none => { p with held := some (stillReport buttons) }
  | some q => { p with held := some { q with buttons := buttons } }

/-- The held report's button set becomes empty; without a held report nothing changes (R154, R157). -/
def Port.dropHeldButtons (p : Port) : Port :=
  match p.held with
  | none => p
  | some q => { p with held := some { q with buttons := [] } }

/-- A pointer report handed to a port by the focus controller or the glide engine, by link state (R40, R61). -/
def Port.takePointer (now : Nat) (r : PtrReport) (p : Port) : Port :=
  match p.link with
  | .ready => p.addPointer now r
  | .suspended | .waking => p.holdReport r
  | .absent | .attaching | .stalled => p

/-! ### The pending key queue (R153) -/

/-- The port takes key events into its pending key queue: WAKING, or SUSPENDED with a wake deferred (R22, R153). -/
def Port.queuesKeys (p : Port) : Bool :=
  decide (p.link = .waking) || (decide (p.link = .suspended) && p.deferred)

/-- The number U of presses in a pending key queue with no release of the same key after them (R153). -/
def unreleased : List KeyEvent → Nat
  | [] => 0
  | .press k :: l => (if KeyEvent.release k ∈ l then 0 else 1) + unreleased l
  | .release _ :: l => unreleased l

/-- The reservation test of a press: E + U + 1 does not exceed 32 (R153). -/
def Port.pressFits (p : Port) : Bool :=
  decide (p.pendingKeys.length + unreleased p.pendingKeys + 1 ≤ Config.pendingQueueMax)

/-- Tell a computer that keys were released (R21, R24): `released` in ascending order, `left` the key part that
remains. A READY port queues one snapshot; a port that queues keys takes one release event per key. -/
def Port.tellReleases (now : Nat) (released left : List Nat) (p : Port) : Port :=
  if p.link = .ready then p.addSnapshot now left
  else if p.queuesKeys then { p with pendingKeys := p.pendingKeys ++ released.map KeyEvent.release }
  else p

/-! ### Belief sets (R19 to R21) -/

/-- The belief set of computer `n` is emptied without sending anything (R20). -/
def clearBelief (n : Computer) (s : State) : State :=
  s.setBelief n ⟨[], []⟩

/-- What a port is told when the belief set `b` of its computer is released (R21). -/
def Port.tellReleaseAll (now : Nat) (b : Belief) (p : Port) : Port :=
  let p1 := if b.keys = [] then p else p.tellReleases now b.keys []
  if b.buttons = [] then p1
  else if p.link = .ready then p1.addPointer now (stillReport [])
  else if p.queuesKeys then p1.holdButtons []
  else p1

/-- The belief set of computer `n` is released (R21). -/
def releaseBelief (n : Computer) (s : State) : State :=
  (clearBelief n s).modPort n (Port.tellReleaseAll s.now s.focus.beliefs[n])

/-! ### Mirrored indicators (R16, R17) -/

/-- Start an output of `v` to a KEYBOARD port with none in flight that shows something else (R17). -/
def ConsolePort.startOutput (v : Indicators) : ConsolePort → ConsolePort
  | .keyboard keys shown Option.none =>
    if shown = v then .keyboard keys shown Option.none else .keyboard keys shown (some v)
  | p => p

/-- Whether an output of `v` is due at a console port: a KEYBOARD with none in flight that shows something else (R17). -/
def ConsolePort.needsOutput (v : Indicators) : ConsolePort → Bool
  | .keyboard _ shown Option.none => decide (shown ≠ v)
  | .keyboard _ _ (some _) | .none | .pointer _ | .unsupported => false

/-- The byte of the output last put out at console port `c`, once an output that is due there has started (R17, R179). -/
def Console.outputFrom (k : Console) (c : ConsoleNo) : Option Byte :=
  if k.ports[c].needsOutput k.mirrored then some k.mirrored.toByte else k.outputs[c]

/-- An output of the mirrored value starts at each console port where one is due (R17). -/
def Console.startOutputs (k : Console) : Console :=
  { k with
    ports := Vector.ofFn fun c : ConsoleNo => k.ports[c].startOutput k.mirrored
    outputs := Vector.ofFn fun c : ConsoleNo => k.outputFrom c }

/-- An output of the mirrored value starts at console port `c`, when one is due there (R17). -/
def Console.startOutputAt (k : Console) (c : ConsoleNo) : Console :=
  { k with
    ports := k.ports.set c (k.ports[c].startOutput k.mirrored)
    outputs := k.outputs.set c (k.outputFrom c) }

/-- The source of the mirrored value (R16). -/
def mirrorSource (s : State) : Indicators :=
  match s.focus.focus with
  | none => Indicators.none
  | some n => s.ports[n].indicators

/-- Bring the mirrored value into agreement with its source; a change starts outputs (R16, R17). -/
def syncMirror (s : State) : State :=
  if mirrorSource s = s.console.mirrored then s
  else s.setConsole { s.console with mirrored := mirrorSource s }.startOutputs

/-! ### What the blocks ask of each other's state -/

/-- Nothing is held at the console: both desk states are empty (R15, R37, R126). -/
def deskEmpty (s : State) : Bool :=
  s.console.deskKeys.isEmpty && s.console.deskButtons.isEmpty

/-- The tiles of screen `sc` by its displayed assignment (R47). -/
def screenTiles (s : State) (sc : ScreenNo) : List Tile :=
  tilesOf sc s.tables.layout[sc] s.screens[sc].displayed

/-- The tiles of the desk in scan order (R48). -/
def allTiles (s : State) : List Tile :=
  screenNos.flatMap (screenTiles s)

/-- The owner of a tile when the tile is live (R48): its screen has a display, its channel an unparked owner. Tiles
exist on enabled screens only. -/
def liveOwner (s : State) (t : Tile) : Option Computer :=
  if s.screens[t.screen].attached then
    match tileOwner s.tables t with
    | none => none
    | some n => if s.tables.computer[n].parked then none else some n
  else none

/-- The computers in the alert list (R135). -/
def alerting (s : State) : List Computer :=
  s.alerts.list.map AlertEntry.computer

end Sys2Proof.Machine
end

