-- ==== Sys2Proof/Machine/Channels.lean ====
section
/-! DEFINITION. The channel receivers (Chapter 4, 4.3): signal acquisition and loss. -/

namespace Sys2Proof.Machine

/-- A timing the part can show: width 640 to 7680 and height 480 to 4320; the refresh rate does not enter (R74). -/
def timingSupported (t : Timing) : Bool :=
  640 ≤ t.width && t.width ≤ 7680 && 480 ≤ t.height && t.height ≤ 4320

/-- A channel in LOCKING that holds `t` for the first time (R74, R75). -/
def ChannelRt.restart (t : Timing) (r : ChannelRt) : ChannelRt :=
  { r with state := .locking, timing := some t, count := 1 }

/-- A channel in LOCKING after one more frame of its timing; at the third the receiver judges it (R74). -/
def ChannelRt.count3 (t : Timing) (r : ChannelRt) : ChannelRt :=
  if r.count + 1 < 3 then { r with count := r.count + 1 }
  else if timingSupported t then { r with state := .locked, count := 3, lastLocked := some t }
  else { r with state := .unsupported, count := 3 }

/-- A channel after one whole frame of timing `t` (R74, R75). -/
def ChannelRt.frame (t : Timing) (r : ChannelRt) : ChannelRt :=
  match r.state with
  | .noSignal => r.restart t
  | .locking => if r.timing = some t then r.count3 t else r.restart t
  | .locked | .unsupported => if r.timing = some t then r else r.restart t

/-- A channel after the first sign of a signal (R74, R75). -/
def ChannelRt.activity (r : ChannelRt) : ChannelRt :=
  match r.state with
  | .noSignal => { r with state := .locking, timing := none, count := 0 }
  | .locking | .locked | .unsupported => r

/-- A channel after the end of its signal (R75). -/
def ChannelRt.loss (r : ChannelRt) : ChannelRt :=
  { r with state := .noSignal, timing := none, count := 0 }

/-- The runtime record of channel `c` becomes `r`; a change of state raises VIDEO (R76). -/
def setChannel (c : Channel) (r : ChannelRt) (s : State) : State :=
  let s1 := s.setChannels (s.channels.set c r)
  if r.state = s.channels[c].state then s1 else raise .video s1

/-- CHANNEL_ACTIVITY. -/
def execChannelActivity (c : Channel) (s : State) : Host.Outcome State Fault Refusal :=
  .next (setChannel c s.channels[c].activity s)

/-- CHANNEL_FRAME. -/
def execChannelFrame (c : Channel) (t : Timing) (s : State) : Host.Outcome State Fault Refusal :=
  .next (setChannel c (s.channels[c].frame t) s)

/-- CHANNEL_LOSS. -/
def execChannelLoss (c : Channel) (s : State) : Host.Outcome State Fault Refusal :=
  .next (setChannel c s.channels[c].loss s)

end Sys2Proof.Machine
end

