-- ==== Sys2Proof/Machine/Compositor.lean ====
section
/-! DEFINITION. What the screen compositor computes: tile frames, lock blanking and composed frames (Chapter 4). -/

namespace Sys2Proof.Machine

/-- The channel a screen peeks at, if it has a peek record (R77). -/
def Screen.peeked (sc : Screen) : Option Channel :=
  match sc.peek with
  | none => none
  | some p => some p.channel

/-- The frame kinds of a screen's tiles under the assignment `a` (R88). -/
def kindsFor (s : State) (sc : ScreenNo) (a : Assignment) : List FrameKind :=
  frameKinds s.tables s.focus.focus (alerting s) s.screens[sc].peeked sc a

/-- One screen's record after its frame kinds are computed anew as `kinds` (R89): displayed at once without a display;
else pending when they differ from what is displayed, and no longer pending when they do not. -/
def Screen.takeKinds (kinds : List FrameKind) (sc : Screen) : Screen :=
  if sc.attached then
    { sc with pendingFrames := if kinds = sc.frames then none else some kinds }
  else { sc with frames := kinds, pendingFrames := none }

/-- The frame kinds of every screen are computed anew (R89). -/
def recomputeFrames (s : State) : State :=
  s.setScreens (Vector.ofFn fun sc : ScreenNo =>
    s.screens[sc].takeKinds (kindsFor s sc s.screens[sc].displayed))

/-- The value the lock state calls for (R90). -/
def blankCall (s : State) : Bool :=
  decide (s.lock.state ≠ .unlocked)

/-- After a change of the lock state an unattached screen takes the value called for at once (R90). -/
def syncBlanked (s : State) : State :=
  s.setScreens (Vector.ofFn fun sc : ScreenNo =>
    if s.screens[sc].attached then s.screens[sc] else { s.screens[sc] with blanked := blankCall s })

/-- What is drawn in a tile (R91): the picture of a LOCKED channel lies where R57 puts it, so that the picture under the
pointer is the picture the glide engine maps. -/
def tileContent (s : State) (f : Fit) (t : Tile) : TileContent :=
  match t.channel with
  | none => .black
  | some c =>
    match s.channels[c].state, s.channels[c].timing with
    | .locked, some tm => .picture c (fitPicture f t.w t.h tm.width tm.height)
    | _, _ => .noSignal

/-- The frame a screen composes from its fields (R91). A tile without a frame kind of its own draws no border. -/
def compose (s : State) (sc : ScreenNo) : Composed :=
  if s.screens[sc].blanked then .lockPattern
  else if s.tables.layout[sc].enabled then
    .tiles s.screens[sc].native
      ((screenTiles s sc).zipWith (fun t k => (t, tileContent s s.tables.layout[sc].fit t, k))
        (s.screens[sc].frames ++ List.replicate 4 .none))
  else .black

end Sys2Proof.Machine
end

