-- ==== Sys2Proof/Machine/Alerts.lean ====
section
/-! DEFINITION. The alert unit (Chapter 8): sources, the alert list, the choice of GO_ALERT. -/

namespace Sys2Proof.Machine

/-- The alert list becomes `l`; a change raises ALERT and has the tile frames recomputed (R135). -/
def setAlertList (l : List AlertEntry) (s : State) : State :=
  if l = s.alerts.list then s
  else recomputeFrames (raise .alert (s.setAlerts { s.alerts with list := l }))

/-- Computer `n` has an entry in the list (R135). -/
def hasEntry (l : List AlertEntry) (n : Computer) : Bool :=
  l.any fun e => decide (e.computer = n)

/-- The list without the entries of computer `n` that `p` holds of. -/
def dropEntries (n : Computer) (p : AlertEntry → Bool) (l : List AlertEntry) : List AlertEntry :=
  l.filter fun e => !(decide (e.computer = n) && p e)

/-- The alert condition of an indicator set under a computer table entry, for a computer whose indicators are known or
not (R133). -/
def alertCondition (e : ComputerEntry) (known : Bool) (ind : Indicators) : Bool :=
  known &&
    (match e.alertIndicator with
      | none => false
      | some i =>
        match e.alertSense with
        | .on => ind.has i
        | .off => !ind.has i)

/-- The list after a rising of computer `n`'s condition: an entry at the tail unless `n` is parked or has one (R133,
R134). -/
def riseList (s : State) (n : Computer) : List AlertEntry :=
  if s.tables.computer[n].parked || hasEntry s.alerts.list n then s.alerts.list
  else s.alerts.list ++ [⟨n, s.tables.computer[n].alertKind, .indicator⟩]

/-- The list after a falling of computer `n`'s condition: a LEVEL entry raised by the indicator leaves (R133, R134). -/
def fallList (s : State) (n : Computer) : List AlertEntry :=
  dropEntries n (fun e => decide (e.kind = .level ∧ e.raisedBy = .indicator)) s.alerts.list

/-- The source record of computer `n` replaced. -/
def setSource (n : Computer) (src : AlertSource) (s : State) : State :=
  s.setAlerts { s.alerts with sources := s.alerts.sources.set n src }

/-- An indicator report stored for computer `n` is taken up by comparison with the old condition (R133). -/
def takeIndicatorReport (n : Computer) (s : State) : State :=
  let new := alertCondition s.tables.computer[n] true s.ports[n].indicators
  let old := s.alerts.sources[n].condition
  let l := if new && !old then riseList s n else if old && !new then fallList s n else s.alerts.list
  setAlertList l (setSource n ⟨true, new⟩ s)

/-- The list after a fresh evaluation of computer `n` (R134). -/
def freshList (s : State) (n : Computer) : List AlertEntry :=
  if alertCondition s.tables.computer[n] s.alerts.sources[n].known s.ports[n].indicators then riseList s n
  else fallList s n

/-- The source record of computer `n` after a fresh evaluation (R134). -/
def freshSource (s : State) (n : Computer) : AlertSource :=
  let src := s.alerts.sources[n]
  { src with condition := alertCondition s.tables.computer[n] src.known s.ports[n].indicators }

/-- A fresh evaluation of computer `n` (R134). -/
def freshEvaluate (n : Computer) (s : State) : State :=
  setAlertList (freshList s n) (setSource n (freshSource s n) s)

/-- The acknowledgement of computer `n`: its LATCHED entry leaves (R137). -/
def acknowledge (n : Computer) (s : State) : State :=
  setAlertList (dropEntries n (fun e => decide (e.kind = .latched)) s.alerts.list) s

/-- Computer `n` is parked: its entry leaves, whatever its kind (R138). -/
def dropAlert (n : Computer) (s : State) : State :=
  setAlertList (dropEntries n (fun _ => true) s.alerts.list) s

/-- Port `n` has a bus reset or detaches: the source is no longer known and an INDICATOR entry leaves (R138). -/
def alertLinkLost (n : Computer) (s : State) : State :=
  setAlertList (dropEntries n (fun e => decide (e.raisedBy = .indicator)) s.alerts.list)
    (setSource n ⟨false, false⟩ s)

/-- The list after RAISE_ALERT by computer `n` (R136). -/
def raiseList (s : State) (n : Computer) : List AlertEntry :=
  if s.tables.computer[n].parked then s.alerts.list
  else if hasEntry s.alerts.list n then
    s.alerts.list.map fun e =>
      if e.computer = n ∧ e.kind = .level ∧ e.raisedBy = .indicator then ⟨n, .latched, .service⟩ else e
  else s.alerts.list ++ [⟨n, .latched, .service⟩]

/-- The entry with the least alert priority number, the one nearest the head among equals (R139). -/
def bestPriority (s : State) : List AlertEntry → Option Computer
  | [] => none
  | e :: l =>
    match bestPriority s l with
    | none => some e.computer
    | some c =>
      if s.tables.computer[e.computer].alertPriority ≤ s.tables.computer[c].alertPriority then some e.computer
      else some c

/-- The computer GO_ALERT chooses, none when the list is empty (R139). -/
def alertChoice (s : State) : Option Computer :=
  match s.tables.options.alertPolicy with
  | .oldest => s.alerts.list.head?.map AlertEntry.computer
  | .priority => bestPriority s s.alerts.list
  | .rotate => s.alerts.rotation.find? (hasEntry s.alerts.list)

/-- Under ROTATE the chosen computer moves to the end of the rotation order (R139). -/
def rotateTo (c : Computer) (s : State) : State :=
  if s.tables.options.alertPolicy = .rotate then
    s.setAlerts { s.alerts with rotation := s.alerts.rotation.filter (fun n => decide (n ≠ c)) ++ [c] }
  else s

/-- One computer's part in the desk reset of the alert unit: a fresh evaluation that raises nothing by itself (R141). -/
def freshQuiet (s : State) (n : Computer) : State :=
  let s1 := setSource n (freshSource s n) s
  s1.setAlerts { s1.alerts with list := freshList s n }

/-- The alert unit at a desk reset (R141): the list emptied and refilled in port order, the rotation order reset, and
ALERT raised once when the list differs from the one before. -/
def resetAlerts (s : State) : State :=
  let s1 := computers.foldl freshQuiet (s.setAlerts { s.alerts with list := [], rotation := computers })
  if s1.alerts.list = s.alerts.list then s1 else raise .alert s1

end Sys2Proof.Machine
end

