-- ==== Sys2Proof/Machine/Typeout.lean ====
section
/-! DEFINITION. The type-out unit (Chapter 7): starting, typing, pacing and ending a type-out. -/

namespace Sys2Proof.Machine

/-- The keys a pressed character holds: its key, and left Shift when its shift flag is yes (R123, R127). -/
def Pressed.keys (c : Pressed) : List Nat :=
  if c.shift then setInsert 225 [c.key] else [c.key]

/-- The belief set of `n` without the keys `ks`. -/
def eraseKeys (ks : List Nat) (b : Belief) : Belief :=
  { b with keys := setDiff b.keys ks }

/-- The pressed character is released when the type-out ends: the keys of it still in the target's belief set are taken
from it and told as R24 does (R130 step 1). -/
def releaseTyped (n : Computer) (c : Pressed) (s : State) : State :=
  let b := s.focus.beliefs[n]
  let held := b.keys.filter (fun k => decide (k ∈ c.keys))
  if held = [] then s
  else
    (s.setBelief n (eraseKeys c.keys b)).modPort n (Port.tellReleases s.now held (setDiff b.keys c.keys))

/-- Step 1 of R130, when a character is pressed. -/
def releaseIfPressed (s : State) : State :=
  match s.typeout.target, s.typeout.pacing with
  | some n, some pc =>
    match pc.pressed with
    | some c => releaseTyped n c s
    | none => s
  | _, _ => s

/-- The mailbox after a type-out has ended with outcome `e` (R130 steps 2 and 3). -/
def Typeout.ended (e : TypeEnd) (t : Typeout) : Typeout :=
  { t with
    state := .held
    sub := none
    target := none
    index := 0
    typed := 0
    skipped := 0
    pacing := none
    outcome := some ⟨e, t.typed, t.skipped⟩ }

/-- A type-out in progress ends with outcome `e` (R130); without one nothing happens (R129). -/
def endTypeout (e : TypeEnd) (s : State) : State :=
  if s.typeout.state = .typing then
    let s1 := releaseIfPressed s
    raise .typeout (s1.setTypeout (s1.typeout.ended e))
  else s

/-- The translation entry of a character, by the table as it stands (R123). A character outside the table is
untypeable; a valid text holds none (R122). -/
def translate (tb : Tables) (code : Nat) : TransEntry :=
  match transIndex code with
  | none => ⟨0, false⟩
  | some i => tb.translation[i]

/-- How many characters from the index on are untypeable before the next typeable one or the end (R127 step 2). -/
def skipCount (s : State) : Nat :=
  ((s.typeout.text.drop s.typeout.index).takeWhile (fun c => decide ((translate s.tables c).key = 0))).length

/-- Take up the character at the index (R127 steps 1 and 2): untypeable characters are passed over, and the end of the
text ends the type-out with COMPLETE. Otherwise the unit waits to press (log entries 6 and 7). -/
def takeUp (s : State) : State :=
  let k := skipCount s
  let s1 := s.setTypeout { s.typeout with index := s.typeout.index + k, skipped := s.typeout.skipped + k }
  if s1.typeout.text.length ≤ s1.typeout.index then endTypeout .complete s1 else s1

/-- Entry to ACTIVE: the pacing record is created, so the first character can be pressed at once (R126). -/
def enterActive (s : State) : State :=
  takeUp (s.setTypeout { s.typeout with sub := some .active, pacing := some ⟨none, s.now⟩ })

/-- Entry to WAITING_RELEASE: the two desk states are read, and an empty desk enters ACTIVE at once (R126). -/
def enterWaitingRelease (s : State) : State :=
  let s1 := s.setTypeout { s.typeout with sub := some .waitingRelease }
  if deskEmpty s1 then enterActive s1 else s1

/-- An all-released mark reaches the unit (R126). -/
def typeoutMark (s : State) : State :=
  if s.typeout.state = .typing ∧ s.typeout.sub = some .waitingRelease then enterActive s else s

/-- The wake of port `n` is refused or fails (R125). -/
def typeoutWakeLost (n : Computer) (s : State) : State :=
  if s.typeout.sub = some .waitingWake ∧ s.typeout.target = some n then endTypeout .cancelledWake s else s

/-- Port `n` leaves READY (R126, R129). -/
def typeoutLeftReady (n : Computer) (s : State) : State :=
  if (s.typeout.sub = some .waitingRelease ∨ s.typeout.sub = some .active) ∧ s.typeout.target = some n then
    endTypeout .cancelledLink s
  else s

/-- Port `n` has a bus reset or detaches: a type-out with that target ends in every sub-state (R125, R126, R144). -/
def typeoutLinkLost (n : Computer) (s : State) : State :=
  if s.typeout.target = some n then endTypeout .cancelledLink s else s

/-- Port `n` becomes READY (R125). -/
def typeoutReady (n : Computer) (s : State) : State :=
  if s.typeout.sub = some .waitingWake ∧ s.typeout.target = some n then enterWaitingRelease s else s

/-- The press of the character at the index on target `n` (R127 step 3). -/
def pressCharacter (n : Computer) (e : TransEntry) (s : State) : State :=
  let c : Pressed := ⟨e.key, e.shift, s.now + s.tables.options.typePacing / 2⟩
  let b := s.focus.beliefs[n]
  let b1 : Belief := { b with keys := c.keys.foldr setInsert b.keys }
  ((s.setBelief n b1).modPort n (Port.addSnapshot s.now b1.keys)).setTypeout { s.typeout with
    index := s.typeout.index + 1
    typed := s.typeout.typed + 1
    pacing := some ⟨some c, s.now + s.tables.options.typePacing⟩ }

/-- The press of the next typeable character, once the unit may press (R127). The text is taken up anew, by the
translation table as it now stands. -/
def pressNext (n : Computer) (s : State) : State :=
  let s1 := takeUp s
  if s1.typeout.sub = some .active then
    match s1.typeout.text[s1.typeout.index]? with
    | some code => pressCharacter n (translate s1.tables code) s1
    | none => s1
  else s1

/-- TYPE_OUT_PRESS (R127): in ACTIVE with no pressed character, when the target's key report queue is empty and the time
reaches next press allowed. In any other state the event does not arise (log entry 2: DESIGN CHOICE). -/
def doTypeOutPress (s : State) : State :=
  match s.typeout.sub, s.typeout.target, s.typeout.pacing with
  | some .active, some n, some ⟨none, due⟩ =>
    if s.ports[n].keyQueue = [] then pressNext n (s.advanceTo due) else s
  | _, _, _ => s

/-- The release of the pressed character `c` at its due time (R128): one snapshot of the reduced belief set. -/
def releaseDue (n : Computer) (c : Pressed) (next : Nat) (s : State) : State :=
  let b := s.focus.beliefs[n]
  let b1 := eraseKeys c.keys b
  takeUp (((s.setBelief n b1).modPort n (Port.addSnapshot s.now b1.keys)).setTypeout
    { s.typeout with pacing := some ⟨none, next⟩ })

/-- TYPE_OUT_RELEASE_DUE (R128). -/
def doTypeOutReleaseDue (s : State) : State :=
  match s.typeout.sub, s.typeout.target, s.typeout.pacing with
  | some .active, some n, some ⟨some c, next⟩ => releaseDue n c next (s.advanceTo c.releaseDue)
  | _, _, _ => s

/-- TYPE_OUT_PRESS. -/
def execTypeOutPress (s : State) : Host.Outcome State Fault Refusal :=
  .next (doTypeOutPress s)

/-- TYPE_OUT_RELEASE_DUE. -/
def execTypeOutReleaseDue (s : State) : Host.Outcome State Fault Refusal :=
  .next (doTypeOutReleaseDue s)

end Sys2Proof.Machine
end

