-- ==== Sys2Proof/Machine/Wake.lean ====
section
/-! DEFINITION. The wake of a port (Chapter 9, 9.8 and 9.9): requests, attempts, refusal, WAKE_ALL. -/

namespace Sys2Proof.Machine

/-- The checks a wake must pass: the computer allowed it and its table entry permits it (R154). -/
def wakeAllowed (n : Computer) (s : State) : Bool :=
  s.ports[n].remoteWake && s.tables.computer[n].wakePermitted

/-- The port of a refused wake (R154). -/
def Port.refuseWake (p : Port) : Port :=
  { p.dropHeldButtons with lastWake := .refused, deferred := false, pendingKeys := [] }

/-- A wake is refused (R154); a type-out waiting for it is cancelled (R125), after WAKE has been raised (log entry 48: DESIGN CHOICE:
DESIGN CHOICE). -/
def refuseWake (n : Computer) (s : State) : State :=
  typeoutWakeLost n (raise .wake (clearBelief n (s.modPort n Port.refuseWake)))

/-- The port at the start of attempt `k`: resume signalling for 10 ms (R155). -/
def Port.startAttempt (now k : Nat) (p : Port) : Port :=
  { p with
    link := .waking
    attempt := k
    phase := some .signalling
    attemptTimer := some (now + Config.signallingTime) }

/-- A wake starts: WAKING, attempt 1, event LINK (R155). -/
def startWake (n : Computer) (s : State) : State :=
  raise .link (s.modPort n (Port.startAttempt s.now 1))

/-- A wake request to port `n` (R154). -/
def wakeRequest (n : Computer) (s : State) : State :=
  if s.ports[n].link = .suspended then
    if wakeAllowed n s then
      if s.ports[n].deferred then s
      else if s.ports[n].settle.isSome then s.modPort n (fun p => { p with deferred := true })
      else startWake n s
    else refuseWake n s
  else s

/-- A deferred wake when the settle timer has run out: the checks are made again (R154). -/
def deferredWake (n : Computer) (s : State) : State :=
  let s1 := s.modPort n (fun p => { p with deferred := false })
  if wakeAllowed n s1 then startWake n s1 else refuseWake n s1

/-- SETTLE_TIMER_EXPIRY (R151, R154). -/
def doSettleExpiry (n : Computer) (s : State) : State :=
  match s.ports[n].settle with
  | none => s
  | some due =>
    let s1 := (s.advanceTo due).modPort n (fun p => { p with settle := none })
    if s1.ports[n].deferred then deferredWake n s1 else s1

/-- SIGNALLING_END (R155): the WAITING phase begins with the window of the desk options as it now stands. -/
def doSignallingEnd (n : Computer) (s : State) : State :=
  match s.ports[n].phase, s.ports[n].attemptTimer with
  | some .signalling, some due =>
    let s1 := s.advanceTo due
    s1.modPort n (fun p =>
      { p with phase := some .waiting, attemptTimer := some (s1.now + s1.tables.options.wakeWindow) })
  | _, _ => s

/-- The port of a failed wake (R157). -/
def Port.failWake (p : Port) : Port :=
  { p.dropHeldButtons with
    link := .suspended
    attempt := 0
    phase := none
    attemptTimer := none
    lastWake := .failed
    wakesFailed := countUp p.wakesFailed
    pendingKeys := [] }

/-- A wake has failed (R157). The change of state raises LINK (R159; log entry 9: DEDUCED), before WAKE (log entry
43: DESIGN CHOICE). -/
def failWake (n : Computer) (s : State) : State :=
  typeoutWakeLost n (raise .wake (raise .link (clearBelief n (s.modPort n Port.failWake))))

/-- The attempt of port `n` is the last: its number equals the wake attempts option (R155), or no attempt can follow it, an
attempt number being 0 to 8 (R142; log entry 8: DEDUCED). -/
def lastAttempt (n : Computer) (s : State) : Bool :=
  decide (s.ports[n].attempt = s.tables.options.wakeAttempts) || decide (Config.attemptMax ≤ s.ports[n].attempt)

/-- WAKE_WINDOW_EXPIRY (R155, R157): the next attempt, or failure after the last. -/
def doWakeWindowExpiry (n : Computer) (s : State) : State :=
  match s.ports[n].phase, s.ports[n].attemptTimer with
  | some .waiting, some due =>
    let s1 := s.advanceTo due
    if lastAttempt n s1 then failWake n s1
    else s1.modPort n (Port.startAttempt s1.now (s1.ports[n].attempt + 1))
  | _, _ => s

/-- Wake requests to the ports of the start list: one, then the rest when the stagger timer runs out, or all in turn
with a stagger of 0 (R158). -/
def issueWakes (l : List Computer) (s : State) : State :=
  match l with
  | [] => s.setWakeAll ⟨[], none⟩
  | n :: l =>
    let s1 := wakeRequest n s
    if l = [] then s1.setWakeAll ⟨[], none⟩
    else if s1.tables.options.wakeAllStagger = 0 then issueWakes l s1
    else s1.setWakeAll ⟨l, some (s1.now + s1.tables.options.wakeAllStagger)⟩

/-- The ports WAKE_ALL takes (R158). -/
def wakeAllList (s : State) : List Computer :=
  computers.filter fun n =>
    decide (s.ports[n].link = .suspended) && !s.tables.computer[n].parked && s.tables.computer[n].wakePermitted

/-- The action WAKE_ALL (R158). -/
def actWakeAll (s : State) : State :=
  if s.wakeAll.startList ≠ [] then s
  else if wakeAllList s = [] then s
  else issueWakes (wakeAllList s) s

/-- STAGGER_TIMER_EXPIRY (R158). -/
def doStaggerExpiry (s : State) : State :=
  match s.wakeAll.stagger with
  | none => s
  | some due =>
    let s1 := s.advanceTo due
    issueWakes s1.wakeAll.startList s1

/-- The action WAKE n, 0 standing for the focus computer (R106). -/
def actWake (n : Nat) (s : State) : State :=
  if n = 0 then
    match s.focus.focus with
    | none => s
    | some f => wakeRequest f s
  else
    match ofNum 8 n with
    | none => s
    | some c => wakeRequest c s

/-- SETTLE_TIMER_EXPIRY. -/
def execSettleTimerExpiry (n : Computer) (s : State) : Host.Outcome State Fault Refusal :=
  .next (doSettleExpiry n s)

/-- SIGNALLING_END. -/
def execSignallingEnd (n : Computer) (s : State) : Host.Outcome State Fault Refusal :=
  .next (doSignallingEnd n s)

/-- WAKE_WINDOW_EXPIRY. -/
def execWakeWindowExpiry (n : Computer) (s : State) : Host.Outcome State Fault Refusal :=
  .next (doWakeWindowExpiry n s)

/-- STAGGER_TIMER_EXPIRY. -/
def execStaggerTimerExpiry (s : State) : Host.Outcome State Fault Refusal :=
  .next (doStaggerExpiry s)

end Sys2Proof.Machine
end

