-- ==== Sys2Proof/Machine/Glide.lean ====
section
/-! DEFINITION. The glide engine (Chapter 3): absolute reports, seating, and the placement of a re-seat. -/

namespace Sys2Proof.Machine

/-! ### From the pointer to an absolute coordinate (R56 to R60) -/

/-- The tile the pointer lies on: the one named by the current tile, as the tiles now stand (R44). -/
def seatTile (s : State) : Option Tile :=
  match s.glide.seat with
  | none => none
  | some seat => (screenTiles s seat.screen).find? (fun t => decide (t.quad = seat.quad))

/-- A channel's known timing (R56). -/
def knownTiming (s : State) (c : Channel) : Option Timing :=
  if s.channels[c].state = .locked then s.channels[c].timing else s.channels[c].lastLocked

/-- The channels in ascending order. -/
abbrev channelNos : List Channel := [0, 1, 2, 3, 4, 5, 6, 7, 8, 9, 10, 11, 12, 13, 14, 15]

/-- The automatic desktop size of computer `n` on one axis (R59): the greatest of head origin plus source size over its
channels of known timing. -/
def autoSize (s : State) (n : Computer) (extent : ChannelEntry → Timing → Nat) : Nat :=
  channelNos.foldl (fun m c =>
    if s.tables.channel[c].owner = some n then
      match knownTiming s c with
      | none => m
      | some tm => max m (extent s.tables.channel[c] tm)
    else m) 0

/-- The desktop width of computer `n` (R59). -/
def desktopWidth (s : State) (n : Computer) : Nat :=
  if s.tables.computer[n].desktopWidth = 0 then autoSize s n (fun e tm => e.hx + tm.width)
  else s.tables.computer[n].desktopWidth

/-- The desktop height of computer `n` (R59). -/
def desktopHeight (s : State) (n : Computer) : Nat :=
  if s.tables.computer[n].desktopHeight = 0 then autoSize s n (fun e tm => e.hy + tm.height)
  else s.tables.computer[n].desktopHeight

/-- The absolute coordinates on computer `n` of pointer position (px, py) in tile `t` showing channel `c` with known
timing `tm` (R57 to R60). -/
def absoluteIn (s : State) (n : Computer) (t : Tile) (c : Channel) (tm : Timing) : Nat × Nat :=
  let pic := fitPicture s.tables.layout[t.screen].fit t.w t.h tm.width tm.height
  let u := pictureCoord (s.glide.px / 16) t.x pic.ox pic.w
  let v := pictureCoord (s.glide.py / 16) t.y pic.oy pic.h
  let cx := s.tables.channel[c].hx + sourceCoord u tm.width pic.w
  let cy := s.tables.channel[c].hy + sourceCoord v tm.height pic.h
  (absoluteCoord cx (desktopWidth s n), absoluteCoord cy (desktopHeight s n))

/-- The absolute coordinates at the pointer's present position, none while motion to the computer is withheld (R60,
R63). -/
def absoluteHere (s : State) (n : Computer) : Option (Nat × Nat) :=
  match seatTile s with
  | none => none
  | some t =>
    match t.channel with
    | none => none
    | some c =>
      match knownTiming s c with
      | none => none
      | some tm => some (absoluteIn s n t c tm)

/-- The position of a report while motion is withheld (R63). -/
def withheldPosition (s : State) (n : Computer) : Nat × Nat :=
  s.glide.lastAbs[n].getD (16384, 16384)

/-! ### Absolute reports (R61, R62, R64, R70) -/

/-- The link takes reports in this state: READY, SUSPENDED or WAKING (R61). -/
def LinkState.takesReports : LinkState → Bool
  | .ready | .suspended | .waking => true
  | .absent | .attaching | .stalled => false

/-- Hand computer `n` an absolute report at `pos` with its button part (R61); a report that is not discarded sets the
last absolute position (R64). -/
def handAbsolute (n : Computer) (pos : Nat × Nat) (wheel : Int) (s : State) : State :=
  let r : PtrReport := ⟨.absolute, pos.1, pos.2, s.focus.beliefs[n].buttons, wheel⟩
  if s.ports[n].link.takesReports then
    (s.modPort n (Port.takePointer s.now r)).setGlide
      { s.glide with lastAbs := s.glide.lastAbs.set n (some pos) }
  else s

/-- The report considered for the computer of the current tile after a motion item with wheel count `wheel` (R61,
R63), and with wheel 0 after a seat or re-seat (R70). -/
def considerReport (wheel : Int) (s : State) : State :=
  match s.glide.seat with
  | none => s
  | some seat =>
    match absoluteHere s seat.computer with
    | none => if wheel = 0 then s else handAbsolute seat.computer (withheldPosition s seat.computer) wheel s
    | some pos =>
      if s.glide.lastAbs[seat.computer] ≠ some pos ∨ wheel ≠ 0 then handAbsolute seat.computer pos wheel s else s

/-- After a seat or a re-seat: a position report in GLIDE (R70). -/
def considerPosition (s : State) : State :=
  if s.focus.mode = .glide then considerReport 0 s else s

/-- The absolute report that carries a button change to the focus computer in GLIDE (R62). -/
def buttonAbsolute (n : Computer) (s : State) : State :=
  handAbsolute n ((absoluteHere s n).getD (withheldPosition s n)) 0 s

/-! ### Locating and seating (R49, R66, R67, R69) -/

/-- The tile that contains a desk point, the first in scan order (R49). -/
def locate (s : State) (x y : Nat) : Option Tile :=
  (allTiles s).find? (fun t => t.contains x y)

/-- The first live tile of computer `n` in scan order (R48). -/
def firstLiveOf (s : State) (n : Computer) : Option Tile :=
  (allTiles s).find? (fun t => decide (liveOwner s t = some n))

/-- The first live tile of any computer (R48). -/
def firstLive (s : State) : Option Tile :=
  (allTiles s).find? (fun t => (liveOwner s t).isSome)

/-- The computer on whose live tile the pointer lies, as the tiles now stand (R27, R66). -/
def seatOwner (s : State) : Option Computer :=
  match seatTile s with
  | none => none
  | some t => liveOwner s t

/-- The pointer at a position, on a tile of computer `n`. -/
def placeAt (pos : Nat × Nat) (t : Tile) (n : Computer) (s : State) : State :=
  s.setGlide { s.glide with px := pos.1, py := pos.2, seat := some ⟨t.screen, t.quad, n⟩ }

/-- The mode becomes `m`; each entry into GLIDE clears the relative remainder (R36). -/
def setMode (m : PointerMode) (s : State) : State :=
  match m with
  | .glide => s.setFocus { s.focus with mode := .glide, rx := 0, ry := 0 }
  | .detached => s.setFocus { s.focus with mode := .detached }
  | .held => s.setFocus { s.focus with mode := .held }

/-- A tile of computer `n` at its remembered position, if that lies in a live tile of it (R66). -/
def rememberedTile (s : State) (n : Computer) : Option ((Nat × Nat) × Tile) :=
  match s.glide.remembered[n] with
  | none => none
  | some pos =>
    match locate s (pos.1 / 16) (pos.2 / 16) with
    | none => none
    | some t => if liveOwner s t = some n then some (pos, t) else none

/-- Step 5 of a focus change: the pointer is seated for `n` and the mode set (R66). -/
def seatFor (n : Option Computer) (s : State) : State :=
  match n with
  | none => setMode .detached s
  | some n =>
    if seatOwner s = some n then setMode .glide s
    else
      match rememberedTile s n with
      | some (pos, t) => setMode .glide (placeAt pos t n s)
      | none =>
        match firstLiveOf s n with
        | some t => setMode .glide (placeAt t.centre t n s)
        | none => setMode .detached s

/-- The pointer is seated at the centre of the first live tile, or unseated where it stands (R67). -/
def seatFirst (s : State) : State :=
  match firstLive s with
  | none => s.setGlide { s.glide with seat := none }
  | some t =>
    match liveOwner s t with
    | none => s
    | some n => placeAt t.centre t n s

/-- The mode as at power-on (R18): GLIDE on a live tile of the focus computer, else DETACHED. -/
def modeFromSeat (s : State) : State :=
  match seatOwner s with
  | none => setMode .detached s
  | some n => if s.focus.focus = some n then setMode .glide s else setMode .detached s

/-- The outcomes of a re-seat (R37). -/
inductive ReseatOutcome where
  | same
  | moved (n : Computer)
  | unseated
  deriving DecidableEq, Repr

/-- Step 1 of a re-seat: the live tile, with its owner, that the seated pointer's desk point lies in (R69). -/
def stayTile (s : State) : Option (Tile × Computer) :=
  match s.glide.seat with
  | none => none
  | some _ =>
    match locate s (s.glide.px / 16) (s.glide.py / 16) with
    | none => none
    | some t =>
      match liveOwner s t with
      | none => none
      | some n => some (t, n)

/-- Step 2 of a re-seat: the focus computer's first live tile, else the first of any computer (R69). -/
def newTile (s : State) : Option (Tile × Computer) :=
  let own : Option (Tile × Computer) :=
    match s.focus.focus with
    | none => none
    | some f =>
      match firstLiveOf s f with
      | none => none
      | some t => some (t, f)
  match own with
  | some tn => some tn
  | none =>
    match firstLive s with
    | none => none
    | some t =>
      match liveOwner s t with
      | none => none
      | some n => some (t, n)

/-- The placement of a re-seat and its outcome (R69). -/
def reseatPlace (s : State) : State × ReseatOutcome :=
  match stayTile s with
  | some (t, n) =>
    let seat : Seat := ⟨t.screen, t.quad, n⟩
    (s.setGlide { s.glide with seat := some seat }, if s.glide.seat = some seat then .same else .moved n)
  | none =>
    match newTile s with
    | some (t, n) => (placeAt t.centre t n s, .moved n)
    | none => (s.setGlide { s.glide with seat := none }, .unseated)

end Sys2Proof.Machine
end

