-- ==== Sys2Proof/Machine/Focus.lean ====
section
/-! DEFINITION. The focus controller (Chapter 2): focus changes, re-seat outcomes, the receivers of key and button
events, relative forwarding, broadcast and park. -/

namespace Sys2Proof.Machine

/-! ### Focus changes (R27, R28, R29) -/

/-- Step 2 of a focus change: the old focus computer's belief set is released unless it is a broadcast member (R27). -/
def releaseOldFocus (s : State) : State :=
  match s.focus.focus with
  | none => s
  | some f => if s.focus.broadcast[f] then s else releaseBelief f s

/-- The remembered position of computer `n` becomes `pos` (R65). -/
def remember (n : Computer) (pos : Nat × Nat) (s : State) : State :=
  s.setGlide { s.glide with remembered := s.glide.remembered.set n (some pos) }

/-- Step 3 of a focus change: the pointer's position is remembered when it lies on a live tile of the old focus computer
(R27). -/
def rememberHere (s : State) : State :=
  match s.focus.focus with
  | none => s
  | some f => if seatOwner s = some f then remember f (s.glide.px, s.glide.py) s else s

/-- Step 3 at a crossing: the position handed over is remembered (R28); a focus change by a re-seat hands over none. -/
def rememberHanded (handed : Option (Nat × Nat)) (s : State) : State :=
  match s.focus.focus, handed with
  | some f, some pos => remember f pos s
  | _, _ => s

/-- Step 4 of a focus change, with what the other blocks take up when the focus computer changes (R27, R29): the lamps
(R16) and the acknowledgement (R137). The relative remainder becomes (0, 0). -/
def setFocusTo (n : Option Computer) (s : State) : State :=
  let s1 := syncMirror (s.setFocus { s.focus with previous := s.focus.focus, focus := n, rx := 0, ry := 0 })
  match n with
  | none => s1
  | some n => acknowledge n s1

/-- Step 6 of a focus change (R27). -/
def wakeOnFocus (n : Option Computer) (s : State) : State :=
  match n with
  | none => s
  | some n =>
    if s.ports[n].link = .suspended ∧ s.tables.options.wakeOnFocus then wakeRequest n s else s

/-- Step 7 of a focus change (R27). -/
def announceFocus (s : State) : State :=
  recomputeFrames (raise .focus s)

/-- A focus change to `n` by R27, with the position report of R70 after the seating. A request for the focus computer
itself makes no change. -/
def focusChange (n : Option Computer) (s : State) : State :=
  if s.focus.focus = n then s
  else
    announceFocus (wakeOnFocus n (considerPosition (seatFor n (setFocusTo n
      (rememberHere (releaseOldFocus (endTypeout .cancelledFocus s)))))))

/-- A focus change to `n` with the pointer already placed: a crossing (R28), or the MOVED row of R37 and R38, which hand
over no position. -/
def focusChangePlaced (n : Computer) (handed : Option (Nat × Nat)) (s : State) : State :=
  if s.focus.focus = some n then s
  else
    announceFocus (wakeOnFocus (some n) (setFocusTo (some n)
      (rememberHanded handed (releaseOldFocus (endTypeout .cancelledFocus s)))))

/-! ### Re-seat outcomes and the end of HELD (R37, R38) -/

/-- The focus controller acts on a re-seat outcome (R37). -/
def actOnReseat (o : ReseatOutcome) (s : State) : State :=
  match o with
  | .same => s
  | .moved c =>
    if s.focus.focus = some c then setMode .glide s
    else if deskEmpty s then setMode .glide (focusChangePlaced c none s)
    else setMode .held s
  | .unseated => setMode .detached s

/-- A re-seat (R68, R69), the focus controller's answer (R37) and the position report of R70. -/
def reseat (s : State) : State :=
  let po := reseatPlace s
  considerPosition (actOnReseat po.2 po.1)

/-- The all-released mark reaches the focus controller (R38). -/
def focusMark (s : State) : State :=
  if s.focus.mode = .held then
    match seatOwner s with
    | none => s
    | some c => setMode .glide (focusChangePlaced c none s)
  else s

/-! ### Receivers of key events (R22, R23, R24) -/

/-- A press refused by the pending key queue is counted (R153). -/
def Port.dropPress (p : Port) : Port :=
  { p with pressesDropped := countUp p.pressesDropped }

/-- A press of key `k` handed to the pending key queue of port `n` (R22, R153). -/
def queuePress (n : Computer) (k : Nat) (s : State) : State :=
  let b := s.focus.beliefs[n]
  if s.ports[n].pressFits then
    (s.setBelief n { b with keys := setInsert k b.keys }).modPort n
      (fun p => { p with pendingKeys := p.pendingKeys ++ [.press k] })
  else s.modPort n Port.dropPress

/-- A press of key `k` for the READY port `n` (R22). -/
def sendPress (n : Computer) (k : Nat) (s : State) : State :=
  let b := s.focus.beliefs[n]
  let keys := setInsert k b.keys
  (s.setBelief n { b with keys := keys }).modPort n (Port.addSnapshot s.now keys)

/-- A press of key `k` for receiver `n` (R22); `isFocus` tells the focus computer from a broadcast member. -/
def deliverPress (n : Computer) (isFocus : Bool) (k : Nat) (s : State) : State :=
  if k ∈ s.focus.beliefs[n].keys then s
  else if s.ports[n].link = .ready then sendPress n k s
  else if isFocus && s.ports[n].queuesKeys then queuePress n k s
  else s

/-- A press for a focus computer whose port sleeps with no wake under way first asks for a wake, when wake on input is
set (R23, R25). -/
def wakeOnInput (n : Computer) (s : State) : State :=
  if s.ports[n].link = .suspended ∧ s.ports[n].deferred = false ∧ s.tables.options.wakeOnInput then wakeRequest n s
  else s

/-- A press of key `k` for the focus computer (R22, R23). -/
def pressForFocus (k : Nat) (s : State) : State :=
  match s.focus.focus with
  | none => s
  | some f => deliverPress f true k (wakeOnInput f s)

/-- A press of key `k` for the broadcast member `n`, unless it is the focus computer (R22). -/
def pressForMember (k : Nat) (s : State) (n : Computer) : State :=
  if s.focus.broadcast[n] ∧ s.focus.focus ≠ some n then deliverPress n false k s else s

/-- A desk key press reaches the focus controller (R22). -/
def focusKeyPress (k : Nat) (s : State) : State :=
  computers.foldl (pressForMember k) (pressForFocus k s)

/-- A release of key `k` at computer `n`, when its belief set holds the key (R24). -/
def releaseAt (k : Nat) (s : State) (n : Computer) : State :=
  let b := s.focus.beliefs[n]
  if k ∈ b.keys then
    let left := setErase k b.keys
    (s.setBelief n { b with keys := left }).modPort n (Port.tellReleases s.now [k] left)
  else s

/-- A desk key release reaches the focus controller, with its mark (R24). -/
def focusKeyRelease (k : Nat) (mark : Bool) (s : State) : State :=
  let s1 := computers.foldl (releaseAt k) s
  if mark then focusMark s1 else s1

/-! ### Button events (R25, R26) -/

/-- Computer `n` is told its button part after a change (R26). -/
def tellButtons (n : Computer) (s : State) : State :=
  if s.ports[n].link = .ready then
    if s.focus.focus = some n ∧ s.focus.mode = .glide then buttonAbsolute n s
    else s.modPort n (Port.addPointer s.now (stillReport s.focus.beliefs[n].buttons))
  else if s.ports[n].queuesKeys then s.modPort n (Port.holdButtons s.focus.beliefs[n].buttons)
  else s

/-- A button press of `b` for the focus computer `n`, after any wake request (R25). -/
def deliverButton (n : Computer) (b : Nat) (s : State) : State :=
  let bel := s.focus.beliefs[n]
  if b ∈ bel.buttons then s
  else if s.ports[n].link = .ready ∨ s.ports[n].queuesKeys then
    tellButtons n (s.setBelief n { bel with buttons := setInsert b bel.buttons })
  else s

/-- A button press reaches the focus controller: the focus computer alone receives it (R25). -/
def focusButtonPress (b : Nat) (s : State) : State :=
  match s.focus.focus with
  | none => s
  | some f => deliverButton f b (wakeOnInput f s)

/-- A release of button `b` at computer `n`, when its belief set holds it (R26). -/
def buttonReleaseAt (b : Nat) (s : State) (n : Computer) : State :=
  let bel := s.focus.beliefs[n]
  if b ∈ bel.buttons then tellButtons n (s.setBelief n { bel with buttons := setErase b bel.buttons }) else s

/-- A button release reaches the focus controller, with its mark (R26). -/
def focusButtonRelease (b : Nat) (mark : Bool) (s : State) : State :=
  let s1 := computers.foldl (buttonReleaseAt b) s
  if mark then focusMark s1 else s1

/-! ### Relative forwarding (R39, R40) -/

/-- The relative remainder becomes (0, 0). -/
def clearRemainder (s : State) : State :=
  s.setFocus { s.focus with rx := 0, ry := 0 }

/-- The count sent of a sum (R39). -/
def sentCount (a : Int) : Int :=
  clampInt (-127) 127 a

/-- The remainder a sum leaves (R39). -/
def leftCount (a : Int) : Int :=
  clampInt (-2047) 2047 (a - sentCount a)

/-- A motion item forwarded to the focus computer as relative counts (R39, R40). -/
def forwardRelative (dx dy wheel : Int) (s : State) : State :=
  match s.focus.focus with
  | none => clearRemainder s
  | some f =>
    if s.ports[f].link.takesReports then
      let ax := s.focus.rx + dx
      let ay := s.focus.ry + dy
      let s1 := s.setFocus { s.focus with rx := leftCount ax, ry := leftCount ay }
      if sentCount ax = 0 ∧ sentCount ay = 0 ∧ wheel = 0 then s1
      else
        s1.modPort f (Port.takePointer s.now
          ⟨.relative, sentCount ax, sentCount ay, s.focus.beliefs[f].buttons, wheel⟩)
    else clearRemainder s

/-! ### Gliding (R52 to R55) -/

/-- The two axes of a move (R52). -/
inductive Axis where
  | x
  | y
  deriving DecidableEq, Repr

/-- The pointer position on an axis. -/
def axisPos (a : Axis) (s : State) : Nat :=
  match a with
  | .x => s.glide.px
  | .y => s.glide.py

/-- The pointer with its position on an axis replaced. -/
def setAxis (a : Axis) (p : Nat) (s : State) : State :=
  match a with
  | .x => s.setGlide { s.glide with px := p }
  | .y => s.setGlide { s.glide with py := p }

/-- The desk point of the pointer with its position on an axis replaced (R52). -/
def axisPoint (a : Axis) (p : Nat) (s : State) : Nat × Nat :=
  match a with
  | .x => (p / 16, s.glide.py / 16)
  | .y => (s.glide.px / 16, p / 16)

/-- A crossing onto a live tile of computer `n` is permitted (R54). -/
def crossingPermitted (n : Computer) (s : State) : Bool :=
  decide (s.focus.focus = some n) ||
    (s.console.deskButtons.isEmpty &&
      (decide (s.ports[n].link = .ready) ||
        ((decide (s.ports[n].link = .suspended) || decide (s.ports[n].link = .waking)) &&
          s.tables.options.wakeOnGlide)))

/-- The edge of a tile in the direction of a move (R53). -/
def tileEdge (a : Axis) (step : Int) (t : Tile) : Nat :=
  match a with
  | .x => if step < 0 then 16 * t.x else 16 * (t.x + t.w) - 1
  | .y => if step < 0 then 16 * t.y else 16 * (t.y + t.h) - 1

/-- The glide engine's own wake request at a crossing onto a SUSPENDED computer (R54). -/
def wakeOnGlide (n : Computer) (s : State) : State :=
  if s.ports[n].link = .suspended then wakeRequest n s else s

/-- A crossing of the pointer to `p` on axis `a`, onto tile `t` of computer `n` (R53, R55). -/
def cross (a : Axis) (p : Nat) (t : Tile) (n : Computer) (s : State) : State :=
  let old := (s.glide.px, s.glide.py)
  let s1 := setAxis a p s
  let s2 := s1.setGlide { s1.glide with seat := some ⟨t.screen, t.quad, n⟩ }
  if s.focus.focus = some n then s2 else focusChangePlaced n (some old) (wakeOnGlide n s2)

/-- The target of an axis move, clamped to the desk (R52). -/
def moveTarget (p : Nat) (step : Int) : Nat :=
  (clampInt 0 Config.deskMax (p + step)).toNat

/-- One axis move (R52, R53). -/
def moveAxis (a : Axis) (step : Int) (s : State) : State :=
  match seatTile s with
  | none => s
  | some t =>
    let target := moveTarget (axisPos a s) step
    let point := axisPoint a target s
    if t.contains point.1 point.2 then setAxis a target s
    else
      match locate s point.1 point.2 with
      | none => setAxis a (tileEdge a step t) s
      | some t1 =>
        match liveOwner s t1 with
        | none => setAxis a (tileEdge a step t) s
        | some n =>
          if crossingPermitted n s then cross a target t1 n s else setAxis a (tileEdge a step t) s

/-- A motion item in GLIDE: x, then y, then the report (R51, R52, R61). -/
def glideMotion (dx dy wheel : Int) (c : ConsoleNo) (s : State) : State :=
  considerReport wheel
    (moveAxis .y (scaleStep s.tables.pointer[c] dy) (moveAxis .x (scaleStep s.tables.pointer[c] dx) s))

/-- A motion item is used according to the mode (R35). -/
def motionItem (dx dy wheel : Int) (c : ConsoleNo) (s : State) : State :=
  match s.focus.mode with
  | .glide => glideMotion dx dy wheel c s
  | .detached | .held => forwardRelative dx dy wheel s

/-! ### Focus actions (R30, R31) -/

/-- The computer may be reached by FOCUS_NEXT and FOCUS_PREV (R31). -/
def reachable (s : State) (n : Computer) : Bool :=
  !s.tables.computer[n].parked && decide (s.ports[n].link ≠ .absent)

/-- The computers after `n` in port order, wrapping, without `n` itself (R31). -/
def after (n : Computer) : List Computer :=
  (computers.filter fun m => decide (n < m)) ++ (computers.filter fun m => decide (m < n))

/-- The search order of FOCUS_NEXT (R31). -/
def nextOrder (f : Option Computer) : List Computer :=
  match f with
  | none => computers
  | some n => after n

/-- The search order of FOCUS_PREV (R31). -/
def prevOrder (f : Option Computer) : List Computer :=
  (match f with
    | none => computers
    | some n => after n).reverse

/-- A focus change to the computer found, if one was. -/
def focusFound (found : Option Computer) (s : State) : State :=
  match found with
  | none => s
  | some n => focusChange (some n) s

/-- The action FOCUS_NEXT (R31). -/
def actFocusNext (s : State) : State :=
  focusFound ((nextOrder s.focus.focus).find? (reachable s)) s

/-- The action FOCUS_PREV (R31). -/
def actFocusPrev (s : State) : State :=
  focusFound ((prevOrder s.focus.focus).find? (reachable s)) s

/-- The action FOCUS n (R30, R108). -/
def actFocus (n : Nat) (s : State) : State :=
  match ofNum 8 n with
  | none => s
  | some c => if s.tables.computer[c].parked then s else focusChange (some c) s

/-- The action FOCUS_BACK (R30). -/
def actFocusBack (s : State) : State :=
  match s.focus.previous with
  | none => s
  | some c => if s.tables.computer[c].parked then s else focusChange (some c) s

/-! ### Broadcast (R34) -/

/-- The broadcast set with the membership of `n` as given; the change raises FOCUS (R34). -/
def setBroadcast (n : Computer) (member : Bool) (s : State) : State :=
  raise .focus (s.setFocus { s.focus with broadcast := s.focus.broadcast.set n member })

/-- Computer `n` is removed from the broadcast set if it is a member (R34): its belief set is released unless it is the
focus computer, also when a chord runs the removal, where the table of R111 would keep the modifiers held (log entry
45: DEDUCED). -/
def removeBroadcast (n : Computer) (s : State) : State :=
  if s.focus.broadcast[n] then
    setBroadcast n false (if s.focus.focus = some n then s else releaseBelief n s)
  else s

/-- The action BROADCAST_TOGGLE n (R34, R108). -/
def actBroadcastToggle (n : Nat) (s : State) : State :=
  match ofNum 8 n with
  | none => s
  | some c =>
    if s.focus.broadcast[c] then removeBroadcast c s
    else if s.tables.computer[c].parked then s
    else setBroadcast c true s

/-- The action BROADCAST_CLEAR (R34). -/
def actBroadcastClear (s : State) : State :=
  computers.foldl (fun s n => removeBroadcast n s) s

/-! ### Park (R32, R33) -/

/-- Step 2 of a park: focus leaves the parked computer (R32). -/
def leaveParked (n : Computer) (s : State) : State :=
  if s.focus.focus = some n then focusChange ((nextOrder s.focus.focus).find? (reachable s)) s else s

/-- Steps 1 to 3 of a park, the parked field being set already (R32). -/
def parkSteps (n : Computer) (s : State) : State :=
  dropAlert n (leaveParked n (removeBroadcast n s))

/-- The action PARK_TOGGLE n (R32, R33, R108): a change of the computer table, then its consequences, one re-seat, and
the tile frames (R89). After an unpark the fresh evaluation follows the re-seat (log entry 13: DEDUCED). -/
def actParkToggle (n : Nat) (s : State) : State :=
  match ofNum 8 n with
  | none => s
  | some c =>
    let e := s.tables.computer[c]
    let s1 := changeTables { s.tables with computer := s.tables.computer.set c { e with parked := !e.parked } } s
    if e.parked then recomputeFrames (freshEvaluate c (reseat s1))
    else recomputeFrames (reseat (parkSteps c s1))

/-! ### Lock and desk reset (R41, R42) -/

/-- Every belief set is released (R21, R41). -/
def releaseAllBeliefs (s : State) : State :=
  computers.foldl (fun s n => releaseBelief n s) s

/-- The focus controller at a lock (R41): every belief set is released, also when a chord runs the lock, where the table of
R111 would keep the modifiers held (log entry 45: DEDUCED). -/
def focusAtLock (s : State) : State :=
  clearRemainder (releaseAllBeliefs s)

/-- The focus controller at a desk reset (R42), with the removal of the remembered positions and the seating of R67, and
the position report of R70. -/
def focusAtDeskReset (s : State) : State :=
  let s1 := releaseAllBeliefs s
  let s2 := syncMirror (s1.setFocus { s1.focus with
    broadcast := Vector.replicate 8 false
    focus := initialFocus s1.tables
    previous := none
    rx := 0
    ry := 0 })
  let s3 := seatFirst (s2.setGlide { s2.glide with remembered := Vector.replicate 8 none })
  raise .focus (considerPosition (modeFromSeat s3))

/-! ### GO_ALERT (R139, R140) -/

/-- GO_ALERT once computer `c` has been chosen (R140). -/
def goToAlert (c : Computer) (s : State) : State :=
  if s.focus.focus = some c then acknowledge c s else focusChange (some c) s

/-- The action GO_ALERT (R139, R140). -/
def actGoAlert (s : State) : State :=
  match alertChoice s with
  | none => s
  | some c => goToAlert c (rotateTo c s)

end Sys2Proof.Machine
end

