-- ==== Sys2Proof/Machine/Screens.lean ====
section
/-! DEFINITION. Screens and assignments (Chapter 4): requested, pending and displayed assignments, presets, peeks, display
attach and detach, frame starts, table-write consequences of the compositor. -/

namespace Sys2Proof.Machine

/-! ### Setting an assignment (R82) -/

/-- The displayed assignment of screen `sc` becomes `a` at once on a screen with no display attached, with its frame kinds
computed anew by R88 (R82). The re-seat is the caller's. -/
def putDisplayed (sc : ScreenNo) (a : Assignment) (s : State) : State :=
  s.modScreen sc fun r => { r with displayed := a, frames := kindsFor s sc a, pendingFrames := none }

/-- The assignment `a` for a screen whether or not it has a peek record: pending with a display attached, else displayed
at once with its re-seat (R82, R86). -/
def assignScreen (sc : ScreenNo) (a : Assignment) (s : State) : State :=
  if s.screens[sc].attached then s.modScreen sc (fun r => { r with pendingAssignment := some a })
  else reseat (putDisplayed sc a s)

/-- The requested assignment of screen `sc` is set to `a` (R82): a peek takes it as its saved base. -/
def setRequested (sc : ScreenNo) (a : Assignment) (s : State) : State :=
  match s.screens[sc].peek with
  | some p => s.modScreen sc (fun r => { r with peek := some { p with base := a } })
  | none => assignScreen sc a s

/-! ### SHOW and PRESET (R83, R85) -/

/-- A channel argument 0 to 16, 0 an empty tile (R83). -/
def channelArg (c : Nat) : Option (Option Channel) :=
  if c = 0 then some none
  else
    match ofNum 16 c with
    | none => none
    | some ch => some (some ch)

/-- The action SHOW s c (R83, R108). -/
def actShow (sn c : Nat) (s : State) : State :=
  match ofNum 8 sn, channelArg c with
  | some sc, some ch =>
    if s.tables.assignment[sc] = .single ch then s
    else
      setRequested sc (.single ch)
        (changeTables { s.tables with assignment := s.tables.assignment.set sc (.single ch) } s)
  | _, _ => s

/-- Entry s of preset p, `p` and `s` counted from 0 (R84). -/
def presetEntry (tb : Tables) (p : Fin 4) (sc : ScreenNo) : Assignment :=
  tb.preset[8 * p.val + sc.val]

/-- One screen of a PRESET: the requested assignment is set when its entry changed from the one in `old` (R85). -/
def presetScreen (old : Tables) (p : Fin 4) (s : State) (sc : ScreenNo) : State :=
  if old.assignment[sc] = presetEntry old p sc then s else setRequested sc (presetEntry old p sc) s

/-- The action PRESET p (R85, R108): one change of the assignment table. -/
def actPreset (n : Nat) (s : State) : State :=
  match ofNum 4 n with
  | none => s
  | some p =>
    let entries := Vector.ofFn (presetEntry s.tables p)
    if s.tables.assignment = entries then s
    else screenNos.foldl (presetScreen s.tables p) (changeTables { s.tables with assignment := entries } s)

/-! ### Peeks (R86, R87) -/

/-- A peek's full time in ms (R86). -/
def peekTime (s : State) : Nat :=
  s.tables.options.peekDuration * 1000

/-- A peek on a screen with no peek record starts (R86). -/
def startPeek (sc : ScreenNo) (c : Channel) (s : State) : State :=
  let s1 := s.modScreen sc (fun r => { r with peek := some ⟨c, peekTime s, s.tables.assignment[sc]⟩ })
  raise .screen (recomputeFrames (assignScreen sc (.single (some c)) s1))

/-- A PEEK on a screen with the peek record `p` (R86): the channel already peeked only restarts the timer. -/
def retargetPeek (sc : ScreenNo) (c : Channel) (p : Peek) (s : State) : State :=
  let s1 := s.modScreen sc (fun r => { r with peek := some { p with channel := c, remaining := peekTime s } })
  if p.channel = c then s1 else assignScreen sc (.single (some c)) s1

/-- The peek record of screen `sc` is removed and the tile frames computed anew (R87). -/
def closePeek (sc : ScreenNo) (s : State) : State :=
  raise .screen (recomputeFrames (s.modScreen sc (fun r => { r with peek := none })))

/-- The peek on screen `sc` ends (R87): its saved base is set as R82 does for a screen without a peek record. -/
def endPeek (sc : ScreenNo) (s : State) : State :=
  match s.screens[sc].peek with
  | none => s
  | some p => closePeek sc (assignScreen sc p.base s)

/-- The action PEEK s c (R86, R108). -/
def actPeek (sn c : Nat) (s : State) : State :=
  match ofNum 8 sn, channelArg c with
  | some sc, some ch =>
    if s.lock.state ≠ .unlocked then s
    else
      match ch, s.screens[sc].peek with
      | none, _ => endPeek sc s
      | some c, none => startPeek sc c s
      | some c, some p => retargetPeek sc c p s
  | _, _ => s

/-- Every peek ends (R87). -/
def endAllPeeks (s : State) : State :=
  screenNos.foldl (fun s sc => endPeek sc s) s

/-- A peek ends at a desk reset (R92): as R87, but the re-seat of a base displayed at once waits until the pointer has
been seated. -/
def endPeekQuiet (s : State) (sc : ScreenNo) : State :=
  match s.screens[sc].peek with
  | none => s
  | some p =>
    closePeek sc
      (if s.screens[sc].attached then s.modScreen sc (fun r => { r with pendingAssignment := some p.base })
       else putDisplayed sc p.base s)

/-- The screens whose re-seat a desk reset makes after the seating: those with a peek and no display (R92). -/
def quietScreens (s : State) : List ScreenNo :=
  screenNos.filter fun sc => s.screens[sc].peek.isSome && !s.screens[sc].attached

/-- PEEK_EXPIRY (R87): the remaining time runs out. -/
def doPeekExpiry (sc : ScreenNo) (s : State) : State :=
  match s.screens[sc].peek with
  | none => s
  | some p => endPeek sc (s.elapse p.remaining)

/-! ### Displays (R78, R79) -/

/-- The screen's record at a detach, before any pending field is taken (R79 step 1). The output stops. -/
def Screen.unplug (e : LayoutEntry) (r : Screen) : Screen :=
  { r with attached := false, reported := none, native := nativeSize e none, composed := none }

/-- Step 2 of a detach: a pending assignment is displayed at once and a re-seat is made (R79). The step computes no frame
kinds (log entry 10: DEDUCED). -/
def displayPending (sc : ScreenNo) (s : State) : State :=
  match s.screens[sc].pendingAssignment with
  | none => s
  | some a => reseat (s.modScreen sc fun r => { r with displayed := a, pendingAssignment := none })

/-- Step 3 of a detach: pending frames are displayed at once, and the screen takes the blanking called for (R79). -/
def settleFrames (sc : ScreenNo) (s : State) : State :=
  s.modScreen sc fun r =>
    { r with frames := r.pendingFrames.getD r.frames, pendingFrames := none, blanked := blankCall s }

/-- DISPLAY_DETACH (R79). -/
def doDisplayDetach (sc : ScreenNo) (s : State) : State :=
  if s.screens[sc].attached then
    reseat (raise .screen (settleFrames sc (displayPending sc
      (s.modScreen sc (Screen.unplug s.tables.layout[sc])))))
  else s

/-- DISPLAY_ATTACH (R78). -/
def doDisplayAttach (sc : ScreenNo) (preferred : Option (Nat × Nat)) (s : State) : State :=
  let s1 := doDisplayDetach sc s
  reseat (raise .screen (s1.modScreen sc fun r =>
    { r with attached := true, reported := preferred, native := nativeSize s1.tables.layout[sc] preferred }))

/-! ### Frame starts (R80) -/

/-- Steps 1 and 2 of a frame start (R80). -/
def takePending (sc : ScreenNo) (s : State) : State :=
  match s.screens[sc].pendingAssignment with
  | some a =>
    s.modScreen sc fun r =>
      { r with displayed := a, pendingAssignment := none, frames := kindsFor s sc a, pendingFrames := none }
  | none => s.modScreen sc fun r => { r with frames := r.pendingFrames.getD r.frames, pendingFrames := none }

/-- Steps 3 and 4 of a frame start (R80). -/
def composeScreen (sc : ScreenNo) (s : State) : State :=
  let s1 := s.modScreen sc fun r => { r with blanked := blankCall s }
  s1.modScreen sc fun r => { r with composed := some (compose s1 sc) }

/-- FRAME_START (R80). An output without a display produces no frame starts (R79). -/
def doFrameStart (sc : ScreenNo) (s : State) : State :=
  if s.screens[sc].attached then
    let s1 := composeScreen sc (takePending sc s)
    if s.screens[sc].pendingAssignment.isSome then reseat s1 else s1
  else s

/-! ### Consequences of a layout write (R92) -/

/-- One screen after a write of the layout table that replaced `old` (R91, R92): native size recomputed, and frame kinds
when the screen becomes enabled or disabled. -/
def layoutScreen (old : Tables) (s : State) (sc : ScreenNo) : Screen :=
  let r : Screen := { s.screens[sc] with native := nativeSize s.tables.layout[sc] s.screens[sc].reported }
  if old.layout[sc].enabled = s.tables.layout[sc].enabled then r
  else r.takeKinds (kindsFor s sc r.displayed)

/-- The consequences of a write of the layout table (R92). -/
def afterLayout (old : Tables) (s : State) : State :=
  reseat (s.setScreens (Vector.ofFn (layoutScreen old s)))

/-! ### The commands -/

/-- DISPLAY_ATTACH. -/
def execDisplayAttach (sc : ScreenNo) (preferred : Option (Nat × Nat)) (s : State) :
    Host.Outcome State Fault Refusal :=
  .next (doDisplayAttach sc preferred s)

/-- DISPLAY_DETACH. -/
def execDisplayDetach (sc : ScreenNo) (s : State) : Host.Outcome State Fault Refusal :=
  .next (doDisplayDetach sc s)

/-- FRAME_START. -/
def execFrameStart (sc : ScreenNo) (s : State) : Host.Outcome State Fault Refusal :=
  .next (doFrameStart sc s)

/-- PEEK_EXPIRY. -/
def execPeekExpiry (sc : ScreenNo) (s : State) : Host.Outcome State Fault Refusal :=
  .next (doPeekExpiry sc s)

end Sys2Proof.Machine
end

