-- ==== Sys2Proof/Machine/Lock.lean ====
section
/-! DEFINITION. The lock unit (Chapter 6): locking, the unlock sequence, lockout. -/

namespace Sys2Proof.Machine

/-- The lock record replaced; an unattached screen takes the blanking it calls for at once (R90). -/
def setLockRecord (l : Lock) (s : State) : State :=
  syncBlanked (s.setLock l)

/-- The matcher ends command mode and clears the double-tap candidate (R107). -/
def clearMatcher (s : State) : State :=
  s.setMatcher ⟨false, none, none⟩

/-- The console is locked (R116 steps 1 to 6). -/
def lockConsole (s : State) : State :=
  raise .lock (focusAtLock (endAllPeeks (clearMatcher (endTypeout .cancelledLock
    (setLockRecord ⟨.locked, 0, 0, none⟩ s)))))

/-- The action LOCK (R116). -/
def actLock (s : State) : State :=
  match s.lock.state, s.tables.unlock with
  | .unlocked, some _ => lockConsole s
  | _, _ => s

/-- The console unlocks (R118). -/
def unlockConsole (s : State) : State :=
  raise .lock (setLockRecord ⟨.unlocked, 0, 0, none⟩ s)

/-- The action UNLOCK (R120). -/
def actUnlock (s : State) : State :=
  match s.lock.state with
  | .unlocked => s
  | .locked | .lockout => unlockConsole s

/-- A failed attempt (R117, R119): the fifth enters LOCKOUT, any other leaves `progress` as given. -/
def failAttempt (progress : Nat) (s : State) : State :=
  let failures := s.lock.failures + 1
  if Config.lockoutFailures ≤ failures then
    raise .lock (setLockRecord ⟨.lockout, 0, Config.lockoutFailures, some (s.now + Config.lockoutTime)⟩ s)
  else raise .lock (setLockRecord { s.lock with progress := progress, failures := failures } s)

/-- A desk key press compared with the unlock sequence (R117). -/
def comparePress (sequence : List Nat) (k : Nat) (s : State) : State :=
  if sequence[s.lock.progress]? = some k then
    if s.lock.progress + 1 < sequence.length then s.setLock { s.lock with progress := s.lock.progress + 1 }
    else unlockConsole s
  else if s.lock.progress = 0 then s
  else failAttempt (if sequence.head? = some k then 1 else 0) s

/-- A desk key press withheld in LOCKED (R115, R117). Without a sequence nothing is compared; a locked console holds one
(R114). -/
def lockedPress (k : Nat) (s : State) : State :=
  match s.tables.unlock with
  | none => s
  | some sequence => comparePress sequence k s

/-- LOCKOUT_TIMER_EXPIRY (R119). -/
def doLockoutExpiry (s : State) : State :=
  match s.lock.timer with
  | none => s
  | some due => raise .lock (setLockRecord ⟨.locked, 0, 0, none⟩ (s.advanceTo due))

/-- LOCKOUT_TIMER_EXPIRY. -/
def execLockoutTimerExpiry (s : State) : Host.Outcome State Fault Refusal :=
  .next (doLockoutExpiry s)

end Sys2Proof.Machine
end

