-- ==== Sys2Proof/Machine/Hotkeys.lean ====
section
/-! DEFINITION. The hotkey matcher (Chapter 5): chords, double taps, command mode, and the actions. -/

namespace Sys2Proof.Machine

/-! ### Actions (R105, R108) -/

/-- The action TYPE_TEXT (R124). -/
def actTypeText (s : State) : State :=
  if s.lock.state = .unlocked ∧ s.typeout.state = .held then
    match s.focus.focus with
    | none => s
    | some f =>
      let start : TypeSub → State := fun sub =>
        raise .typeout (s.setTypeout { s.typeout with
          state := .typing, sub := some sub, target := some f, index := 0, typed := 0, skipped := 0 })
      match s.ports[f].link with
      | .ready => enterWaitingRelease (start .waitingRelease)
      | .suspended | .waking => wakeRequest f (start .waitingWake)
      | .absent | .attaching | .stalled => s
  else s

/-- The action COMMAND (R103). -/
def actCommand (s : State) : State :=
  if s.lock.state = .unlocked then
    s.setMatcher ⟨true, some (s.now + s.tables.options.commandTimeout), none⟩
  else s

/-- An action runs with its arguments (R105): out-of-range arguments make it have no effect (R108), and an argument the
action does not take is ignored. -/
def runAction (a : Action) (arg1 arg2 : Nat) (s : State) : State :=
  match a with
  | .nothing => s
  | .focus => actFocus arg1 s
  | .focusNext => actFocusNext s
  | .focusPrev => actFocusPrev s
  | .focusBack => actFocusBack s
  | .broadcastToggle => actBroadcastToggle arg1 s
  | .broadcastClear => actBroadcastClear s
  | .showChannel => actShow arg1 arg2 s
  | .peek => actPeek arg1 arg2 s
  | .preset => actPreset arg1 s
  | .parkToggle => actParkToggle arg1 s
  | .wake => actWake arg1 s
  | .wakeAll => actWakeAll s
  | .lock => actLock s
  | .typeText => actTypeText s
  | .goAlert => actGoAlert s
  | .command => actCommand s

/-! ### The matcher (R96 to R102) -/

/-- A modifier requirement, with whether the left and the right member are held (R96). -/
def Requirement.met (r : Requirement) (l rt : Bool) : Bool :=
  match r with
  | .neither => !l && !rt
  | .left => l && !rt
  | .right => rt && !l
  | .either => l || rt
  | .any => true

/-- The modifiers of a CHORD entry are satisfied by the desk key state (R96). -/
def modifiersMet (e : HotkeyEntry) (keys : List Nat) : Bool :=
  e.ctrlReq.met (keys.contains 224) (keys.contains 228) &&
    e.shiftReq.met (keys.contains 225) (keys.contains 229) &&
    e.altReq.met (keys.contains 226) (keys.contains 230) &&
    e.metaReq.met (keys.contains 227) (keys.contains 231)

/-- The first enabled entry of a kind with key `k`, in entry order (R98, R100, R102). -/
def findEntry (tb : Tables) (kind : HotkeyKind) (k : Nat) : Option HotkeyEntry :=
  tb.hotkey.toList.find? fun e => e.enabled && decide (e.kind = kind) && decide (e.key = k)

/-- The first enabled CHORD entry that a press of `k` matches (R98). -/
def findChord (tb : Tables) (keys : List Nat) (k : Nat) : Option HotkeyEntry :=
  tb.hotkey.toList.find? fun e =>
    e.enabled && decide (e.kind = .chord) && decide (e.key = k) && modifiersMet e keys

/-- The action of a found entry runs; without an entry none does (R98, R100, R102). -/
def runEntry (e : Option HotkeyEntry) (s : State) : State :=
  match e with
  | none => s
  | some e => runAction e.action e.arg1 e.arg2 s

/-- A press of `k` is the second tap of the candidate (R100). A press that comes together with the window's running out is
taken first (R101). -/
def secondTap (k : Nat) (s : State) : Bool :=
  match s.matcher.candidate with
  | none => false
  | some c => decide (c.key = k) && c.released && decide (s.now ≤ c.expiry)

/-- The double-tap candidate replaced. -/
def setCandidate (c : Option Candidate) (s : State) : State :=
  s.setMatcher { s.matcher with candidate := c }

/-- The candidate after a press of `k` that no hotkey takes (R99). -/
def candidateOf (k : Nat) (s : State) : Option Candidate :=
  if (findEntry s.tables .doubleTap k).isSome ∧ s.console.deskKeys = [k] then
    some ⟨k, false, s.now + s.tables.options.doubleTapWindow⟩
  else none

/-- A press that is not a hotkey goes to the type-out unit, which it cancels (R129), and then to the focus controller
(R110). -/
def handOnPress (k : Nat) (s : State) : State :=
  focusKeyPress k (endTypeout .cancelledKey s)

/-- A press in command mode (R102). -/
def followerPress (k : Nat) (s : State) : State :=
  runEntry (findEntry s.tables .follower k) (s.setMatcher ⟨false, none, none⟩)

/-- The matcher decides a press of `k` (R97). -/
def matcherPress (k : Nat) (s : State) : State :=
  if s.matcher.commandMode then followerPress k s
  else
    match findChord s.tables s.console.deskKeys k with
    | some e => runEntry (some e) (setCandidate none s)
    | none =>
      if secondTap k s then runEntry (findEntry s.tables .doubleTap k) (setCandidate none s)
      else handOnPress k (setCandidate (candidateOf k s) s)

/-- The candidate after a release of `k` (R101). -/
def releaseCandidate (k : Nat) (c : Option Candidate) : Option Candidate :=
  match c with
  | none => none
  | some c => some (if c.key = k then { c with released := true } else c)

/-- The mark of a release reaches the type-out unit (R126). -/
def markTypeout (mark : Bool) (s : State) : State :=
  if mark then typeoutMark s else s

/-- The matcher hands a release on, mark included, after updating the candidate (R97, R101, R110), at the
detach of a keyboard too (log entry 41: DEDUCED). -/
def matcherRelease (k : Nat) (mark : Bool) (s : State) : State :=
  focusKeyRelease k mark (markTypeout mark (setCandidate (releaseCandidate k s.matcher.candidate) s))

/-! ### Timers of the matcher (R101, R104) -/

/-- DOUBLE_TAP_WINDOW_EXPIRY (R101). -/
def doDoubleTapExpiry (s : State) : State :=
  match s.matcher.candidate with
  | none => s
  | some c => setCandidate none (s.advanceTo c.expiry)

/-- COMMAND_TIMER_EXPIRY (R104). -/
def doCommandExpiry (s : State) : State :=
  match s.matcher.commandTimer with
  | none => s
  | some due =>
    let s1 := s.advanceTo due
    s1.setMatcher { s1.matcher with commandMode := false, commandTimer := none }

/-- DOUBLE_TAP_WINDOW_EXPIRY. -/
def execDoubleTapWindowExpiry (s : State) : Host.Outcome State Fault Refusal :=
  .next (doDoubleTapExpiry s)

/-- COMMAND_TIMER_EXPIRY. -/
def execCommandTimerExpiry (s : State) : Host.Outcome State Fault Refusal :=
  .next (doCommandExpiry s)

end Sys2Proof.Machine
end

