-- ==== Sys2Proof/Machine/Operands.lean ====
section
/-! DEFINITION. What the port logic makes of what a console device sends: the class of a device (R2), the key set of a
key report (R6) and the quantities of a pointer report (R11). -/

namespace Sys2Proof.Machine

/-- The record of a console port after a device attaches (R2). A hub, and a device that cannot be read or configured, is
UNSUPPORTED whatever it declares (log entry 17: DEDUCED). -/
def classify (d : DeviceDescription) : ConsolePort :=
  if !d.usable || d.hub then .unsupported
  else if d.keyboard then .keyboard [] Indicators.none none
  else if d.relativePointer then .pointer []
  else .unsupported

/-- The modifiers of a report, bit i of the byte for key 224 + i (R6). -/
def modifierKeys (m : Byte) : List Nat :=
  ([0, 1, 2, 3, 4, 5, 6, 7].filter (bit m)).map (224 + ·)

/-- The keys of a report's list: empty slots skipped, a key counted once (R6). -/
def listedKeys (r : KeyInput) : List Nat :=
  setOf ((r.keys.map BitVec.toNat).filter fun k => decide (k ≠ 0))

/-- The key set of a report, or none for a rollover indication (R6). -/
def reduceKeys (r : KeyInput) : Option (List Nat) :=
  if r.rollover || decide (Config.rolloverLimit < ((listedKeys r).filter fun k => !isModifier k).length) then none
  else some (setOf (listedKeys r ++ modifierKeys r.modifiers))

/-- The button set of a report: buttons beyond the fifth are not used (R11). -/
def reduceButtons (r : PointerInput) : List Nat :=
  setOf (r.buttons.filter fun b => decide (1 ≤ b ∧ b ≤ 5))

/-- A motion count clamped (R11). -/
def clampMotion (d : Int) : Int :=
  clampInt (-2047) 2047 d

/-- A wheel count clamped (R11). -/
def clampWheel (d : Int) : Int :=
  clampInt (-127) 127 d

/-- The releases of a change from set `o` to set `n`: keys before modifiers, each group ascending (R8). Keys 232 to 255
go with the keys below 224 (log entry 37: DEDUCED). -/
def keyReleases (o n : List Nat) : List Nat :=
  (setDiff o n).filter (fun k => !isModifier k) ++ (setDiff o n).filter isModifier

/-- The presses of a change from set `o` to set `n`: modifiers before keys, each group ascending (R8; log entry 37: DEDUCED). -/
def keyPresses (o n : List Nat) : List Nat :=
  (setDiff n o).filter isModifier ++ (setDiff n o).filter (fun k => !isModifier k)

end Sys2Proof.Machine
end

