-- ==== Sys2Proof/Machine/Console.lean ====
section
/-! DEFINITION. The console input unit (Chapter 1) and the lock unit's filter (R115): reports, attach, detach, indicator
outputs. -/

namespace Sys2Proof.Machine

/-! ### What the lock unit hands on (R115) -/

/-- An all-released mark handed on alone: to the type-out unit, then to the focus controller (R115). -/
def markAlone (mark : Bool) (s : State) : State :=
  if mark then focusMark (typeoutMark s) else s

/-- A desk key press at the lock unit (R115). -/
def lockKeyPress (k : Nat) (s : State) : State :=
  match s.lock.state with
  | .unlocked => matcherPress k s
  | .locked => lockedPress k s
  | .lockout => s

/-- A desk key release at the lock unit (R115). -/
def lockKeyRelease (k : Nat) (mark : Bool) (s : State) : State :=
  match s.lock.state with
  | .unlocked => matcherRelease k mark s
  | .locked | .lockout => markAlone mark s

/-- A button press at the lock unit (R115). -/
def lockButtonPress (b : Nat) (s : State) : State :=
  match s.lock.state with
  | .unlocked => focusButtonPress b s
  | .locked | .lockout => s

/-- A button release at the lock unit (R115): the mark to the type-out unit, the release to the focus controller. -/
def lockButtonRelease (b : Nat) (mark : Bool) (s : State) : State :=
  match s.lock.state with
  | .unlocked => focusButtonRelease b mark (markTypeout mark s)
  | .locked | .lockout => markAlone mark s

/-- A motion item at the lock unit (R115). -/
def lockMotion (dx dy wheel : Int) (c : ConsoleNo) (s : State) : State :=
  match s.lock.state with
  | .unlocked => motionItem dx dy wheel c s
  | .locked | .lockout => s

/-! ### The desk key state and the desk button state (R9, R12, R15) -/

/-- The last key set of a console port (R1). -/
def ConsolePort.keys : ConsolePort → List Nat
  | .keyboard keys _ _ => keys
  | .none | .pointer _ | .unsupported => []

/-- The last button set of a console port (R1). -/
def ConsolePort.buttons : ConsolePort → List Nat
  | .pointer buttons => buttons
  | .none | .keyboard _ _ _ | .unsupported => []

/-- The console ports in order. -/
abbrev consoleNos : List ConsoleNo := [0, 1, 2, 3]

/-- Another console keyboard holds key `k` (R9). -/
def heldElsewhere (c : ConsoleNo) (k : Nat) (s : State) : Bool :=
  consoleNos.any fun d => decide (d ≠ c) && s.console.ports[d].keys.contains k

/-- Another console pointer holds button `b` (R12). -/
def buttonElsewhere (c : ConsoleNo) (b : Nat) (s : State) : Bool :=
  consoleNos.any fun d => decide (d ≠ c) && s.console.ports[d].buttons.contains b

/-- A key released from the device on port `c`: when no other keyboard holds it, it leaves the desk key state and its
release is handed to the lock unit with its mark (R9, R10, R15). -/
def deviceRelease (c : ConsoleNo) (s : State) (k : Nat) : State :=
  if heldElsewhere c k s then s
  else
    let s1 := s.setConsole { s.console with deskKeys := setErase k s.console.deskKeys }
    lockKeyRelease k (deskEmpty s1) s1

/-- A key pressed on a device: when the desk key state lacks it, it enters and its press is handed to the lock unit (R9,
R10). -/
def devicePress (s : State) (k : Nat) : State :=
  if k ∈ s.console.deskKeys then s
  else lockKeyPress k (s.setConsole { s.console with deskKeys := setInsert k s.console.deskKeys })

/-- A button released from the device on port `c` (R12, R13, R15). -/
def deviceButtonRelease (c : ConsoleNo) (s : State) (b : Nat) : State :=
  if buttonElsewhere c b s then s
  else
    let s1 := s.setConsole { s.console with deskButtons := setErase b s.console.deskButtons }
    lockButtonRelease b (deskEmpty s1) s1

/-- A button pressed on a device (R12, R13). -/
def deviceButtonPress (s : State) (b : Nat) : State :=
  if b ∈ s.console.deskButtons then s
  else lockButtonPress b (s.setConsole { s.console with deskButtons := setInsert b s.console.deskButtons })

/-- The record of console port `c` changed by `f`. -/
def modConsolePort (c : ConsoleNo) (f : ConsolePort → ConsolePort) (s : State) : State :=
  s.setConsole { s.console with ports := s.console.ports.set c (f s.console.ports[c]) }

/-- A KEYBOARD record with its last key set replaced. -/
def ConsolePort.setKeys (n : List Nat) : ConsolePort → ConsolePort
  | .keyboard _ shown inFlight => .keyboard n shown inFlight
  | p => p

/-- A POINTER record with its last button set replaced. -/
def ConsolePort.setButtons (n : List Nat) : ConsolePort → ConsolePort
  | .pointer _ => .pointer n
  | p => p

/-- A key set `n` arrives from the keyboard on port `c`, whose last key set is `o` (R8). -/
def takeKeySet (c : ConsoleNo) (o n : List Nat) (s : State) : State :=
  modConsolePort c (ConsolePort.setKeys n)
    ((keyPresses o n).foldl devicePress ((keyReleases o n).foldl (deviceRelease c) s))

/-- The motion item of a pointer report, when it carries anything (R13). -/
def reportMotion (dx dy wheel : Int) (c : ConsoleNo) (s : State) : State :=
  if dx = 0 ∧ dy = 0 ∧ wheel = 0 then s else lockMotion dx dy wheel c s

/-- The button set `n` and motion of a report arrive from the pointer on port `c`, whose last button set is `o` (R12,
R13). -/
def takeButtons (c : ConsoleNo) (o n : List Nat) (dx dy wheel : Int) (s : State) : State :=
  modConsolePort c (ConsolePort.setButtons n)
    ((setDiff n o).foldl deviceButtonPress
      (reportMotion dx dy wheel c ((setDiff o n).foldl (deviceButtonRelease c) s)))

/-! ### Attach and detach (R2 to R5) -/

/-- CONSOLE_DETACH (R4, R5). Its key releases reach the matcher as any others do (log entry 41: DEDUCED). R5 gives the
button releases no order; they come in ascending button number, as R13 has it (log entry 44: DESIGN CHOICE). -/
def doConsoleDetach (c : ConsoleNo) (s : State) : State :=
  match s.console.ports[c] with
  | .none => s
  | .keyboard o _ _ => modConsolePort c (fun _ => .none) (takeKeySet c o [] s)
  | .pointer o => modConsolePort c (fun _ => .none) (takeButtons c o [] 0 0 0 s)
  | .unsupported => modConsolePort c (fun _ => .none) s

/-- CONSOLE_ATTACH (R2, R3, R17): at an occupied port the old device is detached first; when a keyboard attaches, an
output of the mirrored value starts at each keyboard where one is due (log entry 11: DEDUCED). -/
def doConsoleAttach (c : ConsoleNo) (d : DeviceDescription) (s : State) : State :=
  let s1 := modConsolePort c (fun _ => classify d) (doConsoleDetach c s)
  match classify d with
  | .keyboard _ _ _ => s1.setConsole s1.console.startOutputs
  | .none | .pointer _ | .unsupported => s1

/-! ### Reports (R6 to R8, R11 to R14) -/

/-- KEYBOARD_REPORT: a report from a port of another class, and a rollover indication, are ignored (R7, R8, R14). -/
def doKeyboardReport (c : ConsoleNo) (r : KeyInput) (s : State) : State :=
  match s.console.ports[c], reduceKeys r with
  | .keyboard o _ _, some n => takeKeySet c o n s
  | _, _ => s

/-- POINTER_REPORT: a report from a port of another class is ignored (R11, R13, R14). -/
def doPointerReport (c : ConsoleNo) (r : PointerInput) (s : State) : State :=
  match s.console.ports[c] with
  | .pointer o => takeButtons c o (reduceButtons r) (clampMotion r.dx) (clampMotion r.dy) (clampWheel r.wheel) s
  | .none | .keyboard _ _ _ | .unsupported => s

/-! ### Indicator outputs (R17) -/

/-- The indicator output in flight at console port `c` ended (R17): the keyboard holds `keys`, showed `shown` and was
sent `sent`. An accepted output is followed by another when the mirrored value has changed since. -/
def endOutput (c : ConsoleNo) (keys : List Nat) (shown sent : Indicators) (how : OutputEnd) (s : State) : State :=
  match how with
  | .accepted =>
    let s1 := modConsolePort c (fun _ => .keyboard keys sent none) s
    s1.setConsole (s1.console.startOutputAt c)
  | .refused | .failed => modConsolePort c (fun _ => .keyboard keys shown none) s

/-- INDICATOR_OUTPUT_END (R17). The ending of an output abandoned at a detach is ignored (R4). -/
def doIndicatorOutputEnd (c : ConsoleNo) (how : OutputEnd) (abandoned : Bool) (s : State) : State :=
  match abandoned, s.console.ports[c] with
  | false, .keyboard keys shown (some sent) => endOutput c keys shown sent how s
  | _, _ => s

/-! ### The commands -/

/-- CONSOLE_ATTACH. -/
def execConsoleAttach (c : ConsoleNo) (d : DeviceDescription) (s : State) : Host.Outcome State Fault Refusal :=
  .next (doConsoleAttach c d s)

/-- CONSOLE_DETACH. -/
def execConsoleDetach (c : ConsoleNo) (s : State) : Host.Outcome State Fault Refusal :=
  .next (doConsoleDetach c s)

/-- KEYBOARD_REPORT. -/
def execKeyboardReport (c : ConsoleNo) (r : KeyInput) (s : State) : Host.Outcome State Fault Refusal :=
  .next (doKeyboardReport c r s)

/-- POINTER_REPORT. -/
def execPointerReport (c : ConsoleNo) (r : PointerInput) (s : State) : Host.Outcome State Fault Refusal :=
  .next (doPointerReport c r s)

/-- INDICATOR_OUTPUT_END. -/
def execIndicatorOutputEnd (c : ConsoleNo) (how : OutputEnd) (abandoned : Bool) (s : State) :
    Host.Outcome State Fault Refusal :=
  .next (doIndicatorOutputEnd c how abandoned s)

end Sys2Proof.Machine
end

