-- ==== Sys2Proof/Machine/Layouts.lean ====
section
/-! DEFINITION. Byte layouts (Chapter 11): the codes of names, table entries written and read, reply and notification
frames, and the status record. -/

namespace Sys2Proof.Machine

/-! ### Codes -/

/-- A yes/no field; any other value is an invalid code (R176). -/
def boolOf (b : Byte) : Option Bool :=
  if b = 0 then some false else if b = 1 then some true else none

/-- The code of a status (R177). -/
def Status.code : Status → Byte
  | .ok => 0
  | .okAdjusted => 1
  | .partialRead => 2
  | .notReady => 3
  | .badRequest => 4
  | .noAuthority => 5
  | .badIndex => 6
  | .badValue => 7
  | .frozen => 8
  | .stale => 9
  | .busy => 10
  | .locked => 11
  | .unreadable => 12
  | .storeFailed => 13

/-- The table of an identifier (11.2). -/
def tableOf (b : Byte) : Option TableId :=
  if b = 0 then none
  else
    [TableId.computer, .options, .layout, .assignment, .preset, .channel, .pointer, .hotkey, .translation,
      .unlock][b.toNat - 1]?

/-- The identifier of a table (11.2). -/
def TableId.code : TableId → Nat
  | .computer => 1
  | .options => 2
  | .layout => 3
  | .assignment => 4
  | .preset => 5
  | .channel => 6
  | .pointer => 7
  | .hotkey => 8
  | .translation => 9
  | .unlock => 10

/-- The number of entries of a table (R164). -/
def TableId.count : TableId → Nat
  | .computer | .layout | .assignment => 8
  | .options | .unlock => 1
  | .preset | .hotkey => 32
  | .channel => 16
  | .pointer => 4
  | .translation => 97

/-- The entry size of a table (11.2). -/
def TableId.size : TableId → Nat
  | .computer => 12
  | .options => 18
  | .layout => 14
  | .assignment | .preset | .channel => 5
  | .pointer => 3
  | .hotkey => 10
  | .translation => 2
  | .unlock => 17

/-- The codes of an alert indicator field (11.2). -/
def indicatorOf (b : Byte) : Option (Option Indicator) :=
  [none, some .num, some .caps, some .scroll, some .compose, some .kana][b.toNat]?

/-- The code of an alert indicator field (11.2). -/
def indicatorCode : Option Indicator → Byte
  | none => 0
  | some .num => 1
  | some .caps => 2
  | some .scroll => 3
  | some .compose => 4
  | some .kana => 5

/-- The codes of an alert sense (11.2). -/
def senseOf (b : Byte) : Option Sense :=
  [Sense.on, .off][b.toNat]?

/-- The code of an alert sense (11.2). -/
def Sense.code : Sense → Byte
  | .on => 0
  | .off => 1

/-- The codes of an alert kind (11.2). -/
def alertKindOf (b : Byte) : Option AlertKind :=
  [AlertKind.level, .latched][b.toNat]?

/-- The code of an alert kind (11.2). -/
def AlertKind.code : AlertKind → Byte
  | .level => 0
  | .latched => 1

/-- The codes of an alert policy (11.2). -/
def policyOf (b : Byte) : Option AlertPolicy :=
  [AlertPolicy.oldest, .priority, .rotate][b.toNat]?

/-- The code of an alert policy (11.2). -/
def AlertPolicy.code : AlertPolicy → Byte
  | .oldest => 0
  | .priority => 1
  | .rotate => 2

/-- The codes of a fit (11.2). -/
def fitOf (b : Byte) : Option Fit :=
  [Fit.fit, .fill][b.toNat]?

/-- The code of a fit (11.2). -/
def Fit.code : Fit → Byte
  | .fit => 0
  | .fill => 1

/-- The codes of a hotkey kind (11.2). -/
def hotkeyKindOf (b : Byte) : Option HotkeyKind :=
  [HotkeyKind.chord, .doubleTap, .follower][b.toNat]?

/-- The code of a hotkey kind (11.2). -/
def HotkeyKind.code : HotkeyKind → Byte
  | .chord => 0
  | .doubleTap => 1
  | .follower => 2

/-- The codes of a modifier requirement (11.2). -/
def requirementOf (b : Byte) : Option Requirement :=
  [Requirement.neither, .left, .right, .either, .any][b.toNat]?

/-- The code of a modifier requirement (11.2). -/
def Requirement.code : Requirement → Byte
  | .neither => 0
  | .left => 1
  | .right => 2
  | .either => 3
  | .any => 4

/-- The hotkey action of a code: 0 to 16 in the order of R105 (R177). UNLOCK, 17, is none of them (R94). -/
def actionOf (b : Byte) : Option Action :=
  [Action.nothing, .focus, .focusNext, .focusPrev, .focusBack, .broadcastToggle, .broadcastClear, .showChannel,
    .peek, .preset, .parkToggle, .wake, .wakeAll, .lock, .typeText, .goAlert, .command][b.toNat]?

/-- The code of a hotkey action (R177). -/
def Action.code : Action → Byte
  | .nothing => 0
  | .focus => 1
  | .focusNext => 2
  | .focusPrev => 3
  | .focusBack => 4
  | .broadcastToggle => 5
  | .broadcastClear => 6
  | .showChannel => 7
  | .peek => 8
  | .preset => 9
  | .parkToggle => 10
  | .wake => 11
  | .wakeAll => 12
  | .lock => 13
  | .typeText => 14
  | .goAlert => 15
  | .command => 16

/-- A computer number 0 to 8, 0 for none (R72). -/
def computerOf (b : Byte) : Option (Option Computer) :=
  if b = 0 then some none
  else
    match ofNum 8 b.toNat with
    | none => none
    | some n => some (some n)

/-- A channel number 0 to 16, 0 for an empty tile (R81). -/
def channelOf (b : Byte) : Option (Option Channel) :=
  channelArg b.toNat

/-- The number of an index that may be absent, as a byte. -/
def numByte {n : Nat} (i : Option (Fin n)) : Byte :=
  byte (numOr0 i)

/-- A value, if it lies in a range. -/
def inRange (lo hi n : Nat) : Option Nat :=
  if lo ≤ n ∧ n ≤ hi then some n else none

/-! ### Table entries as written: none when a field lies outside its values -/

/-- A computer table entry (11.2, R162, R132). -/
def parseComputer (l : List Byte) : Option ComputerEntry :=
  match l with
  | [mg, md, pk, w0, w1, h0, h1, ai, sn, ak, pr, wp] => do
    let manager ← boolOf mg
    let mayDeposit ← boolOf md
    let parked ← boolOf pk
    let desktopWidth ← inRange 0 32767 (word w0 w1)
    let desktopHeight ← inRange 0 32767 (word h0 h1)
    let alertIndicator ← indicatorOf ai
    let alertSense ← senseOf sn
    let alertKind ← alertKindOf ak
    let alertPriority ← inRange 0 7 pr.toNat
    let wakePermitted ← boolOf wp
    some ⟨manager, mayDeposit, parked, desktopWidth, desktopHeight, alertIndicator, alertSense, alertKind,
      alertPriority, wakePermitted⟩
  | _ => none

/-- The desk options record (11.2, R163): numbers are clamped, an invalid code refuses the write. The flag says that a
number was clamped. -/
def parseOptions (l : List Byte) : Option (Options × Bool) :=
  match l with
  | [d0, d1, c0, c1, pd, wa, w0, w1, s0, s1, tp, wf, wg, wi, ap, ff, fc, sl] => do
    let wakeOnFocus ← boolOf wf
    let wakeOnGlide ← boolOf wg
    let wakeOnInput ← boolOf wi
    let alertPolicy ← policyOf ap
    let focusFrame ← boolOf ff
    let startLocked ← boolOf sl
    let doubleTapWindow := clampNat 150 1000 (word d0 d1)
    let commandTimeout := clampNat 500 10000 (word c0 c1)
    let peekDuration := clampNat 1 60 pd.toNat
    let wakeAttempts := clampNat 1 8 wa.toNat
    let wakeWindow := clampNat 100 2000 (word w0 w1)
    let wakeAllStagger := clampNat 0 2000 (word s0 s1)
    let typePacing := clampNat 8 128 tp.toNat
    let initialFocus := clampNat 0 8 fc.toNat
    let clamped := !decide (doubleTapWindow = word d0 d1 ∧ commandTimeout = word c0 c1 ∧ peekDuration = pd.toNat ∧
      wakeAttempts = wa.toNat ∧ wakeWindow = word w0 w1 ∧ wakeAllStagger = word s0 s1 ∧ typePacing = tp.toNat ∧
      initialFocus = fc.toNat)
    some (⟨doubleTapWindow, commandTimeout, peekDuration, wakeAttempts, wakeWindow, wakeAllStagger, typePacing,
      wakeOnFocus, wakeOnGlide, wakeOnInput, alertPolicy, focusFrame, ofNum 8 initialFocus, startLocked⟩, clamped)
  | _ => none

/-- A native size field: 0, or 320 to 16384 (R45). -/
def nativeOf (n : Nat) : Option Nat :=
  if n = 0 then some 0 else inRange 320 16384 n

/-- A layout entry (11.2, R45, R46): its field ranges, and both native sizes 0 or neither, in a disabled entry too (log entry
39: DEDUCED). -/
def parseLayout (l : List Byte) : Option LayoutEntry :=
  match l with
  | [en, x0, x1, y0, y1, w0, w1, h0, h1, ft, nw0, nw1, nh0, nh1] => do
    let enabled ← boolOf en
    let x ← inRange 0 32767 (word x0 x1)
    let y ← inRange 0 32767 (word y0 y1)
    let w ← inRange 320 16384 (word w0 w1)
    let h ← inRange 320 16384 (word h0 h1)
    let fitting ← fitOf ft
    let nativeW ← nativeOf (word nw0 nw1)
    let nativeH ← nativeOf (word nh0 nh1)
    if (nativeW = 0 ↔ nativeH = 0) then some ⟨enabled, x, y, w, h, fitting, nativeW, nativeH⟩ else none
  | _ => none

/-- An assignment or preset entry (11.2, R81, R178). -/
def parseAssignment (l : List Byte) : Option Assignment :=
  match l with
  | [m, b1, b2, b3, b4] => do
    let c1 ← channelOf b1
    let c2 ← channelOf b2
    let c3 ← channelOf b3
    let c4 ← channelOf b4
    if m = 0 then (if b2 = 0 ∧ b3 = 0 ∧ b4 = 0 then some (.single c1) else none)
    else if m = 1 then some (.quad c1 c2 c3 c4)
    else none
  | _ => none

/-- A channel table entry (11.2, R72). -/
def parseChannel (l : List Byte) : Option ChannelEntry :=
  match l with
  | [ow, x0, x1, y0, y1] => do
    let owner ← computerOf ow
    let hx ← inRange 0 16383 (word x0 x1)
    let hy ← inRange 0 16383 (word y0 y1)
    some ⟨owner, hx, hy⟩
  | _ => none

/-- A pointer device entry (11.2, R50). -/
def parsePointer (l : List Byte) : Option PointerEntry :=
  match l with
  | [g, t, a] => if g = 0 then none else some ⟨g.toNat, t.toNat, a.toNat⟩
  | _ => none

/-- A hotkey entry (11.2, R93, R94). -/
def parseHotkey (l : List Byte) : Option HotkeyEntry :=
  match l with
  | [en, kd, c, sh, al, mt, key, ac, a1, a2] => do
    let enabled ← boolOf en
    let kind ← hotkeyKindOf kd
    let ctrlReq ← requirementOf c
    let shiftReq ← requirementOf sh
    let altReq ← requirementOf al
    let metaReq ← requirementOf mt
    let action ← actionOf ac
    if enabled = true ∧ key = 0 then none
    else some ⟨enabled, kind, ctrlReq, shiftReq, altReq, metaReq, key.toNat, action, a1.toNat, a2.toNat⟩
  | _ => none

/-- A translation entry (11.2, R123). -/
def parseTranslation (l : List Byte) : Option TransEntry :=
  match l with
  | [key, sh] => do
    let shift ← boolOf sh
    some ⟨key.toNat, shift⟩
  | _ => none

/-- The unlock sequence entry (11.2, R114, R178): a length of 0 is the empty list, and key bytes beyond the length are
ignored. -/
def parseUnlock (l : List Byte) : Option (Option (List Nat)) :=
  match l with
  | [] => none
  | len :: keys =>
    if len = 0 then some none
    else if len.toNat < 4 ∨ 16 < len.toNat then none
    else if (0 : Byte) ∈ keys.take len.toNat then none
    else some (some ((keys.take len.toNat).map BitVec.toNat))

/-! ### Table entries as read (11.2) -/

/-- A computer table entry's bytes. -/
def ComputerEntry.bytes (e : ComputerEntry) : List Byte :=
  [boolByte e.manager, boolByte e.mayDeposit, boolByte e.parked] ++ bytes2 e.desktopWidth ++ bytes2 e.desktopHeight ++
    [indicatorCode e.alertIndicator, e.alertSense.code, e.alertKind.code, byte e.alertPriority,
      boolByte e.wakePermitted]

/-- The desk options record's bytes. -/
def Options.bytes (o : Options) : List Byte :=
  bytes2 o.doubleTapWindow ++ bytes2 o.commandTimeout ++ [byte o.peekDuration, byte o.wakeAttempts] ++
    bytes2 o.wakeWindow ++ bytes2 o.wakeAllStagger ++
    [byte o.typePacing, boolByte o.wakeOnFocus, boolByte o.wakeOnGlide, boolByte o.wakeOnInput, o.alertPolicy.code,
      boolByte o.focusFrame, numByte o.initialFocus, boolByte o.startLocked]

/-- A layout entry's bytes. -/
def LayoutEntry.bytes (e : LayoutEntry) : List Byte :=
  [boolByte e.enabled] ++ bytes2 e.x ++ bytes2 e.y ++ bytes2 e.w ++ bytes2 e.h ++ [e.fit.code] ++ bytes2 e.nativeW ++
    bytes2 e.nativeH

/-- An assignment entry's bytes; in SINGLE bytes 2 to 4 are 0 (R178). -/
def Assignment.bytes : Assignment → List Byte
  | .single c => [0, numByte c, 0, 0, 0]
  | .quad c1 c2 c3 c4 => [1, numByte c1, numByte c2, numByte c3, numByte c4]

/-- A channel table entry's bytes. -/
def ChannelEntry.bytes (e : ChannelEntry) : List Byte :=
  [numByte e.owner] ++ bytes2 e.hx ++ bytes2 e.hy

/-- A pointer device entry's bytes. -/
def PointerEntry.bytes (e : PointerEntry) : List Byte :=
  [byte e.gain, byte e.threshold, byte e.acceleration]

/-- A hotkey entry's bytes. -/
def HotkeyEntry.bytes (e : HotkeyEntry) : List Byte :=
  [boolByte e.enabled, e.kind.code, e.ctrlReq.code, e.shiftReq.code, e.altReq.code, e.metaReq.code, byte e.key,
    e.action.code, byte e.arg1, byte e.arg2]

/-- A translation entry's bytes. -/
def TransEntry.bytes (e : TransEntry) : List Byte :=
  [byte e.key, boolByte e.shift]

/-- The bytes of entry `i` (counted from 1) of a table, none when it cannot be read: an index outside the table, and the
unlock sequence (R164). -/
def readEntry (tb : Tables) (t : TableId) (i : Nat) : Option (List Byte) :=
  if i = 0 then none
  else
    match t with
    | .computer => tb.computer[i - 1]?.map ComputerEntry.bytes
    | .options => if i = 1 then some tb.options.bytes else none
    | .layout => tb.layout[i - 1]?.map LayoutEntry.bytes
    | .assignment => tb.assignment[i - 1]?.map Assignment.bytes
    | .preset => tb.preset[i - 1]?.map Assignment.bytes
    | .channel => tb.channel[i - 1]?.map ChannelEntry.bytes
    | .pointer => tb.pointer[i - 1]?.map PointerEntry.bytes
    | .hotkey => tb.hotkey[i - 1]?.map HotkeyEntry.bytes
    | .translation => tb.translation[i - 1]?.map TransEntry.bytes
    | .unlock => none

/-! ### Reply and notification frames (R176) -/

/-- A reply frame. -/
def Reply.frame (r : Reply) : List Byte :=
  [r.command, r.tag, r.status.code, byte r.generation] ++ bytes2 r.results.length ++ r.results

/-- A notification frame. -/
def Notification.frame (n : Notification) : List Byte :=
  bytes2 n.kinds.toNat ++ [byte n.generation, 0]

/-! ### The status record (11.3) -/

/-- The code of a lock state. -/
def LockState.code : LockState → Byte
  | .unlocked => 0
  | .locked => 1
  | .lockout => 2

/-- The code of a pointer mode. -/
def PointerMode.code : PointerMode → Byte
  | .glide => 0
  | .detached => 1
  | .held => 2

/-- The code of a console port class. -/
def ConsolePort.code : ConsolePort → Byte
  | .none => 0
  | .keyboard _ _ _ => 1
  | .pointer _ => 2
  | .unsupported => 3

/-- The code of a mailbox state. -/
def MailState.code : MailState → Byte
  | .empty => 0
  | .held => 1
  | .typing => 2

/-- The code of a sub-state. -/
def subCode : Option TypeSub → Byte
  | none => 0
  | some .waitingWake => 1
  | some .waitingRelease => 2
  | some .active => 3

/-- The code of a type-out outcome. -/
def TypeEnd.code : TypeEnd → Byte
  | .complete => 1
  | .cancelledKey => 2
  | .cancelledFocus => 3
  | .cancelledLock => 4
  | .cancelledWake => 5
  | .cancelledLink => 6

/-- The code of an alert entry's kind and source. -/
def AlertEntry.code (e : AlertEntry) : Byte :=
  match e.kind, e.raisedBy with
  | .level, _ => 0
  | .latched, .indicator => 1
  | .latched, .service => 2

/-- The code of a channel state. -/
def ChannelState.code : ChannelState → Byte
  | .noSignal => 0
  | .locking => 1
  | .locked => 2
  | .unsupported => 3

/-- The code of a link state. -/
def LinkState.code : LinkState → Byte
  | .absent => 0
  | .attaching => 1
  | .ready => 2
  | .suspended => 3
  | .waking => 4
  | .stalled => 5

/-- The code of a wake outcome. -/
def WakeOutcome.code : WakeOutcome → Byte
  | .none => 0
  | .done => 1
  | .failed => 2
  | .refused => 3
  | .aborted => 4

/-- The code of a save outcome. -/
def SaveOutcome.code : SaveOutcome → Byte
  | .none => 0
  | .ok => 1
  | .storeFailed => 2

/-- The code of a settings source. -/
def SettingsSource.code : SettingsSource → Byte
  | .stored => 0
  | .defaulted => 1

/-- The desk-wide fields up to the console port classes, offsets 0 to 25. -/
def statusDesk (s : State) : List Byte :=
  [s.mgmt.source.code, boolByte s.mgmt.saving.isSome, s.mgmt.lastSave.code, 0] ++ bytes2 s.mgmt.freezeSet.toNat ++
    [byte s.mgmt.generation, s.lock.state.code, byte s.lock.failures, boolByte s.tables.unlock.isSome,
      boolByte s.matcher.commandMode, numByte s.focus.focus, numByte s.focus.previous, s.focus.mode.code,
      byte (computers.foldl (fun a n => if s.focus.broadcast[n] then a + 2 ^ n.val else a) 0),
      (match s.glide.seat with | none => 0 | some t => byte (num t.screen)),
      (match s.glide.seat with | none => 0 | some t => byte t.quad.val), 0] ++
    bytes2 (s.glide.px / 16) ++ bytes2 (s.glide.py / 16) ++
    [s.console.ports[0].code, s.console.ports[1].code, s.console.ports[2].code, s.console.ports[3].code]

/-- The mailbox and outcome fields, offsets 26 to 43. -/
def statusMail (t : Typeout) : List Byte :=
  [t.state.code, subCode t.sub] ++ bytes2 t.text.length ++ [numByte t.depositor, numByte t.target] ++ bytes2 t.index ++
    bytes2 t.typed ++ bytes2 t.skipped ++
    (match t.outcome with
      | none => [0, 0, 0, 0, 0, 0]
      | some o => [o.ending.code, 0] ++ bytes2 o.typed ++ bytes2 o.skipped)

/-- The alert fields, offsets 44 to 71. -/
def statusAlerts (a : Alerts) : List Byte :=
  [byte a.list.length] ++ a.rotation.map (fun n => byte (num n)) ++
    ((a.list.flatMap fun e : AlertEntry => [byte (num e.computer), e.code]) ++ List.replicate 16 0).take 16 ++ [0, 0, 0]

/-- One screen's record, 12 bytes. -/
def statusScreen (r : Screen) : List Byte :=
  [boolByte r.attached, boolByte r.peek.isSome] ++ bytes2 r.native.1 ++ bytes2 r.native.2 ++ r.displayed.bytes ++ [0]

/-- One channel's record, 10 bytes; the timing is 0 when absent. -/
def statusChannel (r : ChannelRt) : List Byte :=
  [r.state.code, 0] ++
    (match r.timing with
      | none => [0, 0, 0, 0, 0, 0, 0, 0]
      | some t => bytes2 t.width ++ bytes2 t.height ++ bytes4 t.refresh)

/-- One port's record, 16 bytes. -/
def statusPort (p : Port) : List Byte :=
  [p.link.code, boolByte p.remoteWake, p.lastWake.code, byte p.keyQueue.length, byte p.pointerQueue.length,
    byte p.pendingKeys.length, 0, 0] ++ bytes2 p.keyOverruns ++ bytes2 p.pointerOverruns ++ bytes2 p.pressesDropped ++
    bytes2 p.wakesFailed

/-- The status record, 456 bytes (11.3). -/
def statusRecord (s : State) : List Byte :=
  statusDesk s ++ statusMail s.typeout ++ statusAlerts s.alerts ++
    screenNos.flatMap (fun i => statusScreen s.screens[i]) ++
    channelNos.flatMap (fun i => statusChannel s.channels[i]) ++
    computers.flatMap (fun i => statusPort s.ports[i])

end Sys2Proof.Machine
end

