-- ==== Sys2Proof/Machine/Ports.lean ====
section
/-! DEFINITION. The link events of a computer port (Chapter 9): attach, configure, bus reset, detach, indicator reports,
polls, stall, suspend and resume. -/

namespace Sys2Proof.Machine

/-! ### Bus reset, detach, attach, configure (R143, R144) -/

/-- A wake is in flight or deferred at the port (R144). -/
def Port.wakeUnderWay (p : Port) : Bool :=
  decide (p.link = .waking) || (decide (p.link = .suspended) && p.deferred)

/-- The port after a bus reset or a detach has put it in `link` (R144 steps 2, 3, 5 and 6, R172). -/
def Port.linkLost (link : LinkState) (p : Port) : Port :=
  { p with
    link := link
    settle := none
    deferred := false
    attempt := 0
    phase := none
    attemptTimer := none
    stall := none
    lastWake := if p.wakeUnderWay then .aborted else p.lastWake
    keyQueue := []
    pointerQueue := []
    held := none
    pendingKeys := []
    indicators := Indicators.none
    slot := .empty
    notification := none }

/-- A bus reset (`link` ATTACHING) or a detach (`link` ABSENT) at port `n` (R144). Events are raised after the port's
state has changed, when it can take no notification. -/
def loseLink (n : Computer) (link : LinkState) (s : State) : State :=
  if s.ports[n].link = .absent then s
  else
    let aborted := s.ports[n].wakeUnderWay
    let s1 := s.modPort n (Port.linkLost link)
    let s2 := if aborted then raise .wake s1 else s1
    raise .link (typeoutLinkLost n (syncMirror (alertLinkLost n (clearBelief n s2))))

/-- COMPUTER_ATTACH (R143); LINK at the change of state (R159). -/
def doComputerAttach (n : Computer) (s : State) : State :=
  raise .link (clearBelief n ((loseLink n .absent s).modPort n (fun p => { p with link := .attaching })))

/-- CONFIGURE (R143); LINK at the change of state (R159). -/
def doConfigure (n : Computer) (remoteWake : Bool) (s : State) : State :=
  match s.ports[n].link with
  | .absent => s
  | .attaching => raise .link (s.modPort n (fun p => { p with link := .ready, remoteWake := remoteWake }))
  | .ready | .suspended | .waking | .stalled => s.modPort n (fun p => { p with remoteWake := remoteWake })

/-! ### Indicator reports (R145) -/

/-- INDICATOR_REPORT (R145): stored, then taken up by the alert unit and the console lamps. -/
def doIndicatorReport (n : Computer) (lamps : Byte) (s : State) : State :=
  if s.ports[n].link = .ready ∨ s.ports[n].link = .stalled then
    syncMirror (takeIndicatorReport n (s.modPort n (fun p => { p with indicators := Indicators.ofByte lamps })))
  else s

/-! ### Polls (R146, R149, R150, R179) -/

/-- The modifier byte of a snapshot (R179). -/
def modifierByte (keys : List Nat) : Byte :=
  BitVec.ofNat 8
    (keys.foldl (fun a k => if isModifier k then a + 2 ^ (k - 224) else a) 0)

/-- The 64 bytes of a snapshot report (R179). -/
def snapshotBytes (keys : List Nat) : List Byte :=
  let others := (keys.filter fun k => !isModifier k).map byte
  [modifierByte keys, 0] ++ (others ++ List.replicate 62 0).take 62

/-- The byte of a button set: bit i for button i + 1 (R179). -/
def buttonByte (buttons : List Nat) : Byte :=
  BitVec.ofNat 8 (buttons.foldl (fun a b => a + 2 ^ (b - 1)) 0)

/-- The 7 bytes of a pointer report (R179). -/
def pointerBytes (r : PtrReport) : List Byte :=
  match r.kind with
  | .absolute => [1, buttonByte r.buttons] ++ bytes2 r.x.toNat ++ bytes2 r.y.toNat ++ [signedByte r.wheel]
  | .relative => [2, buttonByte r.buttons, signedByte r.x, signedByte r.y, signedByte r.wheel, 0, 0]

/-- The stall timer after a poll of a READY port (R149). -/
def Port.restall (now : Nat) (p : Port) : Port :=
  { p with
    stall := if p.keyQueue = [] ∧ p.pointerQueue = [] then none else some (now + Config.stallTime) }

/-- A keyboard poll takes the oldest snapshot, or is answered "no change" (R146). -/
def Port.pollKeys (now : Nat) (p : Port) : Port :=
  match p.keyQueue with
  | [] => { p.restall now with keyAnswer := some .noChange }
  | keys :: l => { { p with keyQueue := l }.restall now with keyAnswer := some (.report (snapshotBytes keys)) }

/-- A pointer poll takes the oldest report, or is answered "no change" (R146). -/
def Port.pollPointer (now : Nat) (p : Port) : Port :=
  match p.pointerQueue with
  | [] => { p.restall now with pointerAnswer := some .noChange }
  | r :: l => { { p with pointerQueue := l }.restall now with pointerAnswer := some (.report (pointerBytes r)) }

/-- KEYBOARD_POLL (R146, R150). -/
def doKeyboardPoll (n : Computer) (s : State) : State :=
  match s.ports[n].link with
  | .ready => s.modPort n (Port.pollKeys s.now)
  | .stalled => raise .link (s.modPort n (fun p => { p with link := .ready }.pollKeys s.now))
  | .attaching | .suspended | .waking => s.modPort n (fun p => { p with keyAnswer := some .noChange })
  | .absent => s

/-- POINTER_POLL (R146, R150). -/
def doPointerPoll (n : Computer) (s : State) : State :=
  match s.ports[n].link with
  | .ready => s.modPort n (Port.pollPointer s.now)
  | .stalled => raise .link (s.modPort n (fun p => { p with link := .ready }.pollPointer s.now))
  | .attaching | .suspended | .waking => s.modPort n (fun p => { p with pointerAnswer := some .noChange })
  | .absent => s

/-- The port on entry to STALLED (R150). -/
def Port.stallOut (p : Port) : Port :=
  { p with link := .stalled, stall := none, keyQueue := [[]], pointerQueue := [stillReport []] }

/-- STALL_TIMER_EXPIRY (R150). -/
def doStallExpiry (n : Computer) (s : State) : State :=
  match s.ports[n].stall with
  | none => s
  | some due =>
    raise .link (typeoutLeftReady n (clearBelief n ((s.advanceTo due).modPort n Port.stallOut)))

/-! ### Suspend and resume (R151, R156) -/

/-- The port on entry to SUSPENDED from READY or STALLED (R151, R152, R172). -/
def Port.suspendAt (now : Nat) (p : Port) : Port :=
  { p with
    link := .suspended
    keyQueue := []
    pointerQueue := []
    stall := none
    settle := some (now + Config.settleTime)
    deferred := false
    held := none
    notification := none }

/-- SUSPEND (R151). -/
def doSuspend (n : Computer) (s : State) : State :=
  if s.ports[n].link = .ready ∨ s.ports[n].link = .stalled then
    raise .link (typeoutLeftReady n (clearBelief n (s.modPort n (Port.suspendAt s.now))))
  else s

/-- The replay of the pending key queue: after each event a snapshot of the replay set (R156 step 2). -/
def Port.replay (now : Nat) (keys : List Nat) : List KeyEvent → Port → Port
  | [], p => p
  | .press k :: l, p => Port.replay now (setInsert k keys) l (p.addSnapshot now (setInsert k keys))
  | .release k :: l, p => Port.replay now (setErase k keys) l (p.addSnapshot now (setErase k keys))

/-- The port after a resume (R156 steps 1 to 4). -/
def Port.resumeAt (now : Nat) (p : Port) : Port :=
  let p1 : Port :=
    { p with
      link := .ready
      settle := none
      deferred := false
      attempt := 0
      phase := none
      attemptTimer := none
      lastWake := if p.wakeUnderWay then .done else p.lastWake
      pendingKeys := []
      held := none }
  let p2 := Port.replay now [] p.pendingKeys p1
  match p.held with
  | none => p2
  | some r => p2.addPointer now r

/-- RESUME (R156). -/
def doResume (n : Computer) (s : State) : State :=
  if s.ports[n].link = .waking ∨ s.ports[n].link = .suspended then
    let s1 := s.modPort n (Port.resumeAt s.now)
    let s2 := if s.ports[n].wakeUnderWay then raise .wake s1 else s1
    typeoutReady n (raise .link s2)
  else s

/-! ### The commands -/

/-- COMPUTER_ATTACH. -/
def execComputerAttach (n : Computer) (s : State) : Host.Outcome State Fault Refusal :=
  .next (doComputerAttach n s)

/-- CONFIGURE. -/
def execConfigure (n : Computer) (remoteWake : Bool) (s : State) : Host.Outcome State Fault Refusal :=
  .next (doConfigure n remoteWake s)

/-- COMPUTER_BUS_RESET (R144). -/
def execComputerBusReset (n : Computer) (s : State) : Host.Outcome State Fault Refusal :=
  .next (loseLink n .attaching s)

/-- COMPUTER_DETACH (R144). -/
def execComputerDetach (n : Computer) (s : State) : Host.Outcome State Fault Refusal :=
  .next (loseLink n .absent s)

/-- INDICATOR_REPORT. -/
def execIndicatorReport (n : Computer) (lamps : Byte) (s : State) : Host.Outcome State Fault Refusal :=
  .next (doIndicatorReport n lamps s)

/-- KEYBOARD_POLL. -/
def execKeyboardPoll (n : Computer) (s : State) : Host.Outcome State Fault Refusal :=
  .next (doKeyboardPoll n s)

/-- POINTER_POLL. -/
def execPointerPoll (n : Computer) (s : State) : Host.Outcome State Fault Refusal :=
  .next (doPointerPoll n s)

/-- STALL_TIMER_EXPIRY. -/
def execStallTimerExpiry (n : Computer) (s : State) : Host.Outcome State Fault Refusal :=
  .next (doStallExpiry n s)

/-- SUSPEND. -/
def execSuspend (n : Computer) (s : State) : Host.Outcome State Fault Refusal :=
  .next (doSuspend n s)

/-- RESUME. -/
def execResume (n : Computer) (s : State) : Host.Outcome State Fault Refusal :=
  .next (doResume n s)

end Sys2Proof.Machine
end

