-- ==== Sys2Proof/Machine/Management.lean ====
section
/-! DEFINITION. The management unit and the settings store (Chapter 10): requests and replies, authority, table access,
events, desk reset, save, power-on reset; and the commands that carry an action. -/

namespace Sys2Proof.Machine

/-! ### Requests and replies (R160, R161, R177) -/

/-- The authority a command needs (R161). -/
inductive Authority where
  | any
  | deposit
  | manager
  deriving DecidableEq, Repr

/-- Computer `n` has an authority, by the computer table as it stands (R161). -/
def hasAuthority (a : Authority) (n : Computer) (s : State) : Bool :=
  match a with
  | .any => true
  | .deposit => s.tables.computer[n].manager || s.tables.computer[n].mayDeposit
  | .manager => s.tables.computer[n].manager

/-- The link takes requests, reply reads and notification takes: READY or STALLED (R160, R172). -/
def LinkState.servesRequests : LinkState → Bool
  | .ready | .stalled => true
  | .absent | .attaching | .suspended | .waking => false

/-- The frame's length field agrees with its parameter bytes and with `want`, the length the command calls for, and the
frame is not too long (R161, R177). `lead` counts parameter bytes the row itself stands for: the action code. -/
def frameFits (r : Request) (lead want : Nat) : Bool :=
  decide (r.length.toNat = lead + r.params.length ∧ r.length.toNat = want ∧ 6 + r.length.toNat ≤ Config.requestMax)

/-- The reply slot of port `p` takes a complete reply with the generation as it now stands (R160). -/
def putReply (p : Computer) (command tag : Byte) (st : Status) (results : List Byte) (s : State) : State :=
  s.modPort p (fun q => { q with slot := .ready ⟨command, tag, st, s.mgmt.generation, results⟩ })

/-- The reply slot of port `p` replaced. -/
def setSlot (p : Computer) (slot : ReplySlot) (s : State) : State :=
  s.modPort p (fun q => { q with slot := slot })

/-- Write the reply a command's body gave, if it gave one; a SAVE in flight has none yet (R160). -/
def answer (command : Byte) (r : Request) (o : State × Option (Status × List Byte)) : State :=
  match o.2 with
  | none => o.1
  | some (st, results) => putReply r.port command r.tag st results o.1

/-- A request is taken (R160, R161): in READY or STALLED whatever the slot held is discarded, and the frame and the
authority are checked before the command's own `body`. -/
def serve (command : Byte) (r : Request) (formed : Bool) (a : Authority)
    (body : State → State × Option (Status × List Byte)) (s : State) : State :=
  if s.ports[r.port].link.servesRequests then
    let s1 := setSlot r.port .empty s
    if !formed then putReply r.port command r.tag .badRequest [] s1
    else if !hasAuthority a r.port s1 then putReply r.port command r.tag .noAuthority [] s1
    else answer command r (body s1)
  else s

/-- A body that changes the state and answers OK with no results. -/
def okBody (f : State → State) (s : State) : State × Option (Status × List Byte) :=
  (f s, some (.ok, []))

/-! ### Actions (R105, R109, R168) -/

/-- The two argument bytes of an ACTION request run the action; the reply is OK whatever the owner finds (R168). -/
def actionBody (run : Nat → Nat → State → State) (r : Request) (s : State) : State × Option (Status × List Byte) :=
  match r.params with
  | [a1, a2] => okBody (run a1.toNat a2.toNat) s
  | _ => (s, some (.badRequest, []))

/-- An ACTION request: three parameter bytes, the action code first, from a manager (R161, R177). -/
def serveAction (r : Request) (body : State → State × Option (Status × List Byte)) (s : State) : State :=
  serve 4 r (frameFits r 1 3) .manager body s

/-- An action from a hotkey or from an ACTION request (R109). -/
def callAction (a : ActionCall) (run : Nat → Nat → State → State) (s : State) : State :=
  match a with
  | .hotkey a1 a2 => run a1.toNat a2.toNat s
  | .request r => serveAction r (actionBody run r) s

/-- TYPE_TEXT by request is refused with LOCKED while the lock unit is not UNLOCKED (R168). -/
def typeTextBody (r : Request) (s : State) : State × Option (Status × List Byte) :=
  if s.lock.state = .unlocked then actionBody (fun _ _ => actTypeText) r s else (s, some (.locked, []))

/-- TYPE_TEXT from a hotkey or a request (R124, R168). -/
def callTypeText (a : ActionCall) (s : State) : State :=
  match a with
  | .hotkey _ _ => actTypeText s
  | .request r => serveAction r (typeTextBody r) s

/-! ### STATUS and TABLE_READ (R164, R168) -/

/-- The entries from index `first` on, at most `n` of them, up to the first that cannot be read (R164). -/
def readRun (tb : Tables) (t : TableId) : Nat → Nat → List (List Byte)
  | _, 0 => []
  | first, n + 1 =>
    match readEntry tb t first with
    | none => []
    | some e => e :: readRun tb t (first + 1) n

/-- The parameters of a TABLE_READ: table, first index, count 0 to 16 (R164, R177). -/
def readArgs (r : Request) : Option (TableId × Nat × Nat) :=
  match r.params with
  | [t, first, count] =>
    match tableOf t with
    | none => none
    | some t => if count.toNat ≤ Config.readMax then some (t, first.toNat, count.toNat) else none
  | _ => none

/-- The answer to a TABLE_READ (R164). -/
def readAnswer (tb : Tables) (t : TableId) (first count : Nat) : Status × List Byte :=
  let entries := readRun tb t first (if count = 0 then Config.readMax else count)
  let st : Status := if entries = [] then .unreadable else if entries.length < count then .partialRead else .ok
  (st, [byte t.code, byte first, byte entries.length] ++ entries.flatten)

/-- The body of TABLE_READ (R164). -/
def readBody (r : Request) (s : State) : State × Option (Status × List Byte) :=
  match readArgs r with
  | none => (s, some (.badRequest, []))
  | some (t, first, count) => (s, some (readAnswer s.tables t first count))

/-! ### TABLE_WRITE (R165, R166) -/

/-- Parameter bytes cut into `n` entries of a size. -/
def chunks (size : Nat) : Nat → List Byte → List (List Byte)
  | 0, _ => []
  | n + 1, l => l.take size :: chunks size n (l.drop size)

/-- A write: the table, the first index and the entries as written. -/
structure WriteArgs where
  table : TableId
  first : Nat
  entries : List (List Byte)
  deriving DecidableEq, Repr

/-- The parameters of a TABLE_WRITE: table, first index, count 1 to 4 and that many entries (R165, R177). -/
def writeArgs (r : Request) : Option WriteArgs :=
  match r.params with
  | t :: first :: count :: rest =>
    match tableOf t with
    | none => none
    | some t =>
      if 1 ≤ count.toNat ∧ count.toNat ≤ 4 ∧ rest.length = count.toNat * t.size then
        some ⟨t, first.toNat, chunks t.size count.toNat rest⟩
      else none
  | _ => none

/-- Every entry parsed, or none when one fails. -/
def parseAll {α : Type} (parse : List Byte → Option α) : List (List Byte) → Option (List α)
  | [] => some []
  | e :: l =>
    match parse e, parseAll parse l with
    | some a, some as => some (a :: as)
    | _, _ => none

/-- A table with entries replaced from place `i` (counted from 0) on. -/
def setEntries {α : Type} {n : Nat} (v : Vector α n) (i : Nat) : List α → Vector α n
  | [] => v
  | a :: l => setEntries (v.setIfInBounds i a) (i + 1) l

/-- The table with the entries of a write parsed and replaced. -/
def writeEntries {α : Type} {n : Nat} (parse : List Byte → Option α) (v : Vector α n) (w : WriteArgs) :
    Option (Vector α n) :=
  match parseAll parse w.entries with
  | none => none
  | some l => some (setEntries v (w.first - 1) l)

/-- At least one computer holds manager authority (R162). -/
def hasManager (v : Vector ComputerEntry 8) : Bool :=
  v.toList.any ComputerEntry.manager

/-- An enabled entry stays on the desk (R46). -/
def onDesk (e : LayoutEntry) : Bool :=
  !e.enabled || (decide (e.x + e.w ≤ 32768) && decide (e.y + e.h ≤ 32768))

/-- No two enabled entries overlap (R46). -/
def noOverlap : List LayoutEntry → Bool
  | [] => true
  | a :: l => l.all (fun b => !(a.enabled && b.enabled && layoutOverlap a b)) && noOverlap l

/-- The layout table as a whole is valid (R46). -/
def layoutValid (v : Vector LayoutEntry 8) : Bool :=
  v.toList.all onDesk && noOverlap v.toList

/-- The tables that would result from a write, with whether a desk option was clamped; none when the owner's validation
fails (R165 step 5). -/
def resultingTables (w : WriteArgs) (s : State) : Option (Tables × Bool) :=
  let tb := s.tables
  match w.table with
  | .computer =>
    match writeEntries parseComputer tb.computer w with
    | some v => if hasManager v then some ({ tb with computer := v }, false) else none
    | none => none
  | .options =>
    match w.entries with
    | [e] =>
      match parseOptions e with
      | some (o, clamped) => some ({ tb with options := o }, clamped)
      | none => none
    | _ => none
  | .layout =>
    match writeEntries parseLayout tb.layout w with
    | some v => if layoutValid v then some ({ tb with layout := v }, false) else none
    | none => none
  | .assignment => (writeEntries parseAssignment tb.assignment w).map fun v => ({ tb with assignment := v }, false)
  | .preset => (writeEntries parseAssignment tb.preset w).map fun v => ({ tb with preset := v }, false)
  | .channel => (writeEntries parseChannel tb.channel w).map fun v => ({ tb with channel := v }, false)
  | .pointer => (writeEntries parsePointer tb.pointer w).map fun v => ({ tb with pointer := v }, false)
  | .hotkey => (writeEntries parseHotkey tb.hotkey w).map fun v => ({ tb with hotkey := v }, false)
  | .translation => (writeEntries parseTranslation tb.translation w).map fun v => ({ tb with translation := v }, false)
  | .unlock =>
    match w.entries with
    | [e] =>
      match parseUnlock e with
      | some none => if s.lock.state = .unlocked then some ({ tb with unlock := none }, false) else none
      | some (some keys) => some ({ tb with unlock := some keys }, false)
      | none => none
    | _ => none

/-- The parked field of computer `n` differs between two tables. -/
def parkedChanged (old new : Tables) (n : Computer) : Bool :=
  old.computer[n].parked != new.computer[n].parked

/-- The alert indicator or the alert sense of computer `n` differs between two tables (R132). -/
def sourceChanged (old new : Tables) (n : Computer) : Bool :=
  decide (old.computer[n].alertIndicator ≠ new.computer[n].alertIndicator ∨
    old.computer[n].alertSense ≠ new.computer[n].alertSense)

/-- One computer whose parked field a write may have changed: steps 1 to 3 of R32, or the changes of R33 (R166; log entry
13: DEDUCED). -/
def afterParked (old : Tables) (s : State) (n : Computer) : State :=
  if parkedChanged old s.tables n then
    if s.tables.computer[n].parked then parkSteps n s else freshEvaluate n s
  else s

/-- One computer whose alert source a write may have changed (R134, R166). -/
def afterSource (old : Tables) (s : State) (n : Computer) : State :=
  if sourceChanged old s.tables n then freshEvaluate n s else s

/-- The consequences of a write of the computer table that replaced `old` (R166). Fresh evaluations are made in ascending
order, which the rules give for the parked fields alone (log entry 42: DESIGN CHOICE). -/
def afterComputer (old : Tables) (s : State) : State :=
  let any := computers.any (parkedChanged old s.tables)
  let s1 := computers.foldl (afterParked old) s
  let s2 := if any then reseat s1 else s1
  let s3 := computers.foldl (afterSource old) s2
  if any then recomputeFrames s3 else s3

/-- The consequences of a write of the channel table (R72, R166). -/
def afterChannel (old : Tables) (s : State) : State :=
  if channelNos.any (fun c => decide (old.channel[c].owner ≠ s.tables.channel[c].owner)) then
    reseat (recomputeFrames s)
  else s

/-- The requested assignment of each written screen is set, in order (R81, R166), each with the re-seat that R82 gives a
screen without a display (log entry 40: DESIGN CHOICE). -/
def afterAssignment (w : WriteArgs) (s : State) : State :=
  (screenNos.filter fun sc => decide (w.first ≤ num sc ∧ num sc < w.first + w.entries.length)).foldl
    (fun s sc => setRequested sc s.tables.assignment[sc] s) s

/-- A successful write of the unlock sequence in LOCKED sets progress to 0 (R114). -/
def afterUnlock (s : State) : State :=
  if s.lock.state = .locked then s.setLock { s.lock with progress := 0 } else s

/-- The consequences of a write that replaced `old` (R166). -/
def afterWrite (w : WriteArgs) (old : Tables) (s : State) : State :=
  match w.table with
  | .computer => afterComputer old s
  | .options => if old.options.focusFrame = s.tables.options.focusFrame then s else recomputeFrames s
  | .layout => afterLayout old s
  | .assignment => afterAssignment w s
  | .channel => afterChannel old s
  | .hotkey => setCandidate none s
  | .unlock => afterUnlock s
  | .preset | .pointer | .translation => s

/-- The table is in the freeze set (R169). -/
def isFrozen (t : TableId) (s : State) : Bool :=
  s.mgmt.freezeSet.getLsbD (t.code - 1)

/-- The request carries an expected generation that differs from the counter (R165). -/
def isStale (r : Request) (s : State) : Bool :=
  bit r.flags 0 && decide (r.expected.toNat ≠ s.mgmt.generation)

/-- Every written index lies in the table (R165). -/
def indexInside (w : WriteArgs) : Bool :=
  decide (1 ≤ w.first ∧ w.first + w.entries.length ≤ w.table.count + 1)

/-- A write that passed the frame and authority checks (R165). -/
def writeTable (r : Request) (w : WriteArgs) (s : State) : State × Status :=
  if s.mgmt.saving.isSome then (s, .busy)
  else if isFrozen w.table s then (s, .frozen)
  else if isStale r s then (s, .stale)
  else if !indexInside w then (s, .badIndex)
  else
    match resultingTables w s with
    | none => (s, .badValue)
    | some (tb, clamped) => (afterWrite w s.tables (changeTables tb s), if clamped then .okAdjusted else .ok)

/-- The body of TABLE_WRITE. -/
def writeBody (r : Request) (s : State) : State × Option (Status × List Byte) :=
  match writeArgs r with
  | none => (s, some (.badRequest, []))
  | some w =>
    let o := writeTable r w s
    (o.1, some (o.2, []))

/-! ### The mailbox (R122) -/

/-- A character the mailbox can hold (R121). -/
def validCharacter (c : Nat) : Bool :=
  decide (c = 9) || decide (c = 10) || (decide (32 ≤ c) && decide (c ≤ 126))

/-- A text is valid: 1 to 256 characters, each one the mailbox can hold (R122). -/
def validText (t : List Nat) : Bool :=
  decide (1 ≤ t.length ∧ t.length ≤ 256) && t.all validCharacter

/-- The mailbox with a deposited text (R122). -/
def depositInto (text : List Nat) (n : Computer) (t : Typeout) : Typeout :=
  { t with
    state := .held, sub := none, text := text, depositor := some n, target := none, index := 0, typed := 0,
    skipped := 0, pacing := none }

/-- The body of DEPOSIT_TEXT (R122). -/
def depositBody (r : Request) (s : State) : State × Option (Status × List Byte) :=
  let text := r.params.map BitVec.toNat
  if s.typeout.state = .typing then (s, some (.busy, []))
  else if validText text then okBody (fun s => raise .typeout (s.setTypeout (depositInto text r.port s.typeout))) s
  else (s, some (.badValue, []))

/-- The body of CLEAR_TEXT (R122). -/
def clearBody (s : State) : State × Option (Status × List Byte) :=
  if s.typeout.state = .typing then (s, some (.busy, []))
  else
    okBody (fun s => raise .typeout (s.setTypeout { s.typeout with state := .empty, text := [], depositor := none })) s

/-! ### EVENTS and FREEZE (R169, R171) -/

/-- The summary of computer `n` replaced, with the notification the change brings (R172). -/
def setSummary (n : Computer) (v : EventSet) (s : State) : State :=
  (s.setMgmt { s.mgmt with summaries := s.mgmt.summaries.set n v }).modPort n
    (Port.announce (s.mgmt.summaries[n] &&& s.mgmt.masks[n]) (v &&& s.mgmt.masks[n]) s.mgmt.generation)

/-- The mask of computer `n` replaced, with the notification the change brings (R172). -/
def setMask (n : Computer) (v : EventSet) (s : State) : State :=
  (s.setMgmt { s.mgmt with masks := s.mgmt.masks.set n v }).modPort n
    (Port.announce (s.mgmt.summaries[n] &&& s.mgmt.masks[n]) (s.mgmt.summaries[n] &&& v) s.mgmt.generation)

/-- The parameters of EVENTS: the kinds to clear, and the new mask if one is given. A bit that names no kind is a bad
request, in the mask field too (R176; log entry 15: DEDUCED). Of the flags byte bit 0 alone is read, and the others, of
which the spec says nothing, are ignored (log entry 47: DESIGN CHOICE). -/
def eventsArgs (r : Request) : Option (EventSet × Option EventSet) :=
  match r.params with
  | [fl, c0, c1, m0, m1] =>
    if word c0 c1 < 512 ∧ word m0 m1 < 512 then
      some (BitVec.ofNat 9 (word c0 c1), if bit fl 0 then some (BitVec.ofNat 9 (word m0 m1)) else none)
    else none
  | _ => none

/-- The body of EVENTS (R171): the reply carries the summary as it stood. -/
def eventsBody (r : Request) (s : State) : State × Option (Status × List Byte) :=
  match eventsArgs r with
  | none => (s, some (.badRequest, []))
  | some (clear, mask) =>
    let s1 := setSummary r.port (s.mgmt.summaries[r.port] &&& ~~~clear) s
    let s2 := match mask with
      | none => s1
      | some m => setMask r.port m s1
    (s2, some (.ok, bytes2 s.mgmt.summaries[r.port].toNat))

/-- The parameters of FREEZE: a set of tables; a bit that names none is a bad request (R176). -/
def freezeArgs (r : Request) : Option TableSet :=
  match r.params with
  | [t0, t1] => if word t0 t1 < 1024 then some (BitVec.ofNat 10 (word t0 t1)) else none
  | _ => none

/-- The body of FREEZE (R169). -/
def freezeBody (r : Request) (s : State) : State × Option (Status × List Byte) :=
  match freezeArgs r with
  | none => (s, some (.badRequest, []))
  | some t => okBody (fun s => s.setMgmt { s.mgmt with freezeSet := s.mgmt.freezeSet ||| t }) s

/-! ### SAVE (R174) -/

/-- The body of SAVE (R174): the tables are copied into the image, and the store holds no valid image from now on. -/
def saveBody (r : Request) (s : State) : State × Option (Status × List Byte) :=
  if s.mgmt.saving.isSome then (s, some (.busy, []))
  else
    (setSlot r.port (.inProgress r.tag)
      ((s.setMgmt { s.mgmt with saving := some ⟨r.port, s.tables⟩ }).setStore none), none)

/-- The reply of a save that completed, if the requester's slot still holds the SAVE (R174). -/
def replySave (p : Computer) (st : Status) (s : State) : State :=
  match s.ports[p].slot with
  | .inProgress tag => putReply p 11 tag st [] s
  | .empty | .ready _ => s

/-- SAVE_COMPLETION (R174). Without a save in flight there is nothing to complete. -/
def doSaveCompletion (confirmed : Bool) (s : State) : State :=
  match s.mgmt.saving with
  | none => s
  | some sv =>
    if confirmed then
      replySave sv.requester .ok
        ((s.setMgmt { s.mgmt with saving := none, lastSave := .ok }).setStore (some sv.image))
    else
      replySave sv.requester .storeFailed
        ((s.setMgmt { s.mgmt with saving := none, lastSave := .storeFailed }).setStore none)

/-! ### DESK_RESET (R173) -/

/-- A port's counters set to 0 (R159). -/
def Port.zeroCounters (p : Port) : Port :=
  { p with keyOverruns := 0, pointerOverruns := 0, pressesDropped := 0, wakesFailed := 0 }

/-- The desk reset (R173 steps 1 to 7), with the re-seats R92 defers until the pointer has been seated. -/
def deskReset (s : State) : State :=
  let s3 := screenNos.foldl endPeekQuiet (clearMatcher (endTypeout .cancelledFocus s))
  let s4 := (quietScreens s).foldl (fun s _ => reseat s) (focusAtDeskReset s3)
  let s5 := resetAlerts s4
  let s6 := (s5.setPorts (Vector.ofFn fun n : Computer => s5.ports[n].zeroCounters)).setWakeAll ⟨[], none⟩
  recomputeFrames s6

/-! ### REPLY_READ and NOTIFICATION_TAKE (R160, R172) -/

/-- The answer to a reply read and the slot afterwards (R160). -/
def readSlot (generation : Nat) (slot : ReplySlot) : Reply × ReplySlot :=
  match slot with
  | .ready r => (r, .empty)
  | .inProgress tag => (⟨11, tag, .notReady, generation, []⟩, .inProgress tag)
  | .empty => (⟨0, 0, .notReady, generation, []⟩, .empty)

/-- REPLY_READ (R160). -/
def doReplyRead (p : Computer) (s : State) : State :=
  if s.ports[p].link.servesRequests then
    s.modPort p (fun q =>
      { q with
        slot := (readSlot s.mgmt.generation q.slot).2
        replyOut := some (readSlot s.mgmt.generation q.slot).1.frame })
  else s

/-- NOTIFICATION_TAKE (R172). -/
def doNotificationTake (p : Computer) (s : State) : State :=
  if s.ports[p].link.servesRequests then
    match s.ports[p].notification with
    | none => s
    | some n => s.modPort p (fun q => { q with notification := none, notificationOut := some n.frame })
  else s

/-! ### POWER_ON_RESET (R175) -/

/-- POWER_ON_RESET (R175). -/
def doPowerOn (storeAnswers : Bool) (s : State) : State :=
  match storeAnswers, s.store with
  | true, some image => State.powerOn image .stored s.store s.pending
  | _, _ => State.powerOn defaultTables .defaulted s.store s.pending

/-! ### The commands -/

/-- POWER_ON_RESET. -/
def execPowerOnReset (storeAnswers : Bool) (s : State) : Host.Outcome State Fault Refusal :=
  .next (doPowerOn storeAnswers s)

/-- NONE (R105). -/
def execNoAction (a : ActionCall) (s : State) : Host.Outcome State Fault Refusal :=
  .next (callAction a (fun _ _ s => s) s)

/-- FOCUS (R30). -/
def execFocus (a : ActionCall) (s : State) : Host.Outcome State Fault Refusal :=
  .next (callAction a (fun a1 _ => actFocus a1) s)

/-- FOCUS_NEXT (R31). -/
def execFocusNext (a : ActionCall) (s : State) : Host.Outcome State Fault Refusal :=
  .next (callAction a (fun _ _ => actFocusNext) s)

/-- FOCUS_PREV (R31). -/
def execFocusPrev (a : ActionCall) (s : State) : Host.Outcome State Fault Refusal :=
  .next (callAction a (fun _ _ => actFocusPrev) s)

/-- FOCUS_BACK (R30). -/
def execFocusBack (a : ActionCall) (s : State) : Host.Outcome State Fault Refusal :=
  .next (callAction a (fun _ _ => actFocusBack) s)

/-- BROADCAST_TOGGLE (R34). -/
def execBroadcastToggle (a : ActionCall) (s : State) : Host.Outcome State Fault Refusal :=
  .next (callAction a (fun a1 _ => actBroadcastToggle a1) s)

/-- BROADCAST_CLEAR (R34). -/
def execBroadcastClear (a : ActionCall) (s : State) : Host.Outcome State Fault Refusal :=
  .next (callAction a (fun _ _ => actBroadcastClear) s)

/-- SHOW (R83). -/
def execShowChannel (a : ActionCall) (s : State) : Host.Outcome State Fault Refusal :=
  .next (callAction a actShow s)

/-- PEEK (R86). -/
def execPeek (a : ActionCall) (s : State) : Host.Outcome State Fault Refusal :=
  .next (callAction a actPeek s)

/-- PRESET (R85). -/
def execPreset (a : ActionCall) (s : State) : Host.Outcome State Fault Refusal :=
  .next (callAction a (fun a1 _ => actPreset a1) s)

/-- PARK_TOGGLE (R32). -/
def execParkToggle (a : ActionCall) (s : State) : Host.Outcome State Fault Refusal :=
  .next (callAction a (fun a1 _ => actParkToggle a1) s)

/-- WAKE (R106). -/
def execWake (a : ActionCall) (s : State) : Host.Outcome State Fault Refusal :=
  .next (callAction a (fun a1 _ => actWake a1) s)

/-- WAKE_ALL (R158). -/
def execWakeAll (a : ActionCall) (s : State) : Host.Outcome State Fault Refusal :=
  .next (callAction a (fun _ _ => actWakeAll) s)

/-- LOCK (R116). -/
def execLock (a : ActionCall) (s : State) : Host.Outcome State Fault Refusal :=
  .next (callAction a (fun _ _ => actLock) s)

/-- TYPE_TEXT (R124). -/
def execTypeText (a : ActionCall) (s : State) : Host.Outcome State Fault Refusal :=
  .next (callTypeText a s)

/-- GO_ALERT (R139). -/
def execGoAlert (a : ActionCall) (s : State) : Host.Outcome State Fault Refusal :=
  .next (callAction a (fun _ _ => actGoAlert) s)

/-- COMMAND (R103). -/
def execCommand (a : ActionCall) (s : State) : Host.Outcome State Fault Refusal :=
  .next (callAction a (fun _ _ => actCommand) s)

/-- UNLOCK (R120). -/
def execUnlock (r : Request) (s : State) : Host.Outcome State Fault Refusal :=
  .next (serveAction r (actionBody (fun _ _ => actUnlock) r) s)

/-- STATUS (R168). -/
def execStatus (r : Request) (s : State) : Host.Outcome State Fault Refusal :=
  .next (serve 1 r (frameFits r 0 0) .any (fun s => (s, some (.ok, statusRecord s))) s)

/-- TABLE_READ (R164). -/
def execTableRead (r : Request) (s : State) : Host.Outcome State Fault Refusal :=
  .next (serve 2 r (frameFits r 0 3 && (readArgs r).isSome) .any (readBody r) s)

/-- TABLE_WRITE (R165). -/
def execTableWrite (r : Request) (s : State) : Host.Outcome State Fault Refusal :=
  .next (serve 3 r (frameFits r 0 r.params.length && (writeArgs r).isSome) .manager (writeBody r) s)

/-- DEPOSIT_TEXT (R122): any length of text within the frame is a length the command calls for (R177). -/
def execDepositText (r : Request) (s : State) : Host.Outcome State Fault Refusal :=
  .next (serve 5 r (frameFits r 0 r.params.length) .deposit (depositBody r) s)

/-- CLEAR_TEXT (R122). -/
def execClearText (r : Request) (s : State) : Host.Outcome State Fault Refusal :=
  .next (serve 6 r (frameFits r 0 0) .deposit clearBody s)

/-- RAISE_ALERT (R136). -/
def execRaiseAlert (r : Request) (s : State) : Host.Outcome State Fault Refusal :=
  .next (serve 7 r (frameFits r 0 0) .any (okBody fun s => setAlertList (raiseList s r.port) s) s)

/-- WITHDRAW_ALERT (R136). -/
def execWithdrawAlert (r : Request) (s : State) : Host.Outcome State Fault Refusal :=
  .next (serve 8 r (frameFits r 0 0) .any (okBody (dropAlert r.port)) s)

/-- EVENTS (R171). -/
def execEvents (r : Request) (s : State) : Host.Outcome State Fault Refusal :=
  .next (serve 9 r (frameFits r 0 5 && (eventsArgs r).isSome) .manager (eventsBody r) s)

/-- FREEZE (R169). -/
def execFreeze (r : Request) (s : State) : Host.Outcome State Fault Refusal :=
  .next (serve 10 r (frameFits r 0 2 && (freezeArgs r).isSome) .manager (freezeBody r) s)

/-- SAVE (R174). -/
def execSave (r : Request) (s : State) : Host.Outcome State Fault Refusal :=
  .next (serve 11 r (frameFits r 0 0) .manager (saveBody r) s)

/-- SAVE_COMPLETION (R174). -/
def execSaveCompletion (confirmed : Bool) (s : State) : Host.Outcome State Fault Refusal :=
  .next (doSaveCompletion confirmed s)

/-- DESK_RESET (R173). -/
def execDeskReset (r : Request) (s : State) : Host.Outcome State Fault Refusal :=
  .next (serve 12 r (frameFits r 0 0) .manager (okBody deskReset) s)

/-- REPLY_READ. -/
def execReplyRead (p : Computer) (s : State) : Host.Outcome State Fault Refusal :=
  .next (doReplyRead p s)

/-- NOTIFICATION_TAKE. -/
def execNotificationTake (p : Computer) (s : State) : Host.Outcome State Fault Refusal :=
  .next (doNotificationTake p s)

/-- UNKNOWN_COMMAND_REQUEST (R161): BAD_REQUEST, changing the port's reply slot alone. -/
def execUnknownCommandRequest (r : Request) (code : Byte) (s : State) : Host.Outcome State Fault Refusal :=
  .next (serve code r false .any (fun s => (s, none)) s)

end Sys2Proof.Machine
end

