-- ==== Sys2Proof/Machine/Dispatch.lean ====
section
/-! DEFINITION. One arm per command: each calls the command's meaning. -/

namespace Sys2Proof.Machine

/-- The effect of a command on everything but the queue of waiting commands. -/
def exec (i : Instr) (s : State) : Host.Outcome State Fault Refusal :=
  match i with
  | .powerOnReset storeAnswers => Sys2Proof.Machine.execPowerOnReset storeAnswers s
  | .consoleAttach c d => Sys2Proof.Machine.execConsoleAttach c d s
  | .consoleDetach c => Sys2Proof.Machine.execConsoleDetach c s
  | .keyboardReport c r => Sys2Proof.Machine.execKeyboardReport c r s
  | .pointerReport c r => Sys2Proof.Machine.execPointerReport c r s
  | .indicatorOutputEnd c how abandoned => Sys2Proof.Machine.execIndicatorOutputEnd c how abandoned s
  | .doubleTapWindowExpiry => Sys2Proof.Machine.execDoubleTapWindowExpiry s
  | .commandTimerExpiry => Sys2Proof.Machine.execCommandTimerExpiry s
  | .lockoutTimerExpiry => Sys2Proof.Machine.execLockoutTimerExpiry s
  | .noAction a => Sys2Proof.Machine.execNoAction a s
  | .focus a => Sys2Proof.Machine.execFocus a s
  | .focusNext a => Sys2Proof.Machine.execFocusNext a s
  | .focusPrev a => Sys2Proof.Machine.execFocusPrev a s
  | .focusBack a => Sys2Proof.Machine.execFocusBack a s
  | .broadcastToggle a => Sys2Proof.Machine.execBroadcastToggle a s
  | .broadcastClear a => Sys2Proof.Machine.execBroadcastClear a s
  | .showChannel a => Sys2Proof.Machine.execShowChannel a s
  | .peek a => Sys2Proof.Machine.execPeek a s
  | .preset a => Sys2Proof.Machine.execPreset a s
  | .parkToggle a => Sys2Proof.Machine.execParkToggle a s
  | .wake a => Sys2Proof.Machine.execWake a s
  | .wakeAll a => Sys2Proof.Machine.execWakeAll a s
  | .lock a => Sys2Proof.Machine.execLock a s
  | .typeText a => Sys2Proof.Machine.execTypeText a s
  | .goAlert a => Sys2Proof.Machine.execGoAlert a s
  | .command a => Sys2Proof.Machine.execCommand a s
  | .unlock r => Sys2Proof.Machine.execUnlock r s
  | .channelActivity c => Sys2Proof.Machine.execChannelActivity c s
  | .channelFrame c t => Sys2Proof.Machine.execChannelFrame c t s
  | .channelLoss c => Sys2Proof.Machine.execChannelLoss c s
  | .displayAttach sc preferred => Sys2Proof.Machine.execDisplayAttach sc preferred s
  | .displayDetach sc => Sys2Proof.Machine.execDisplayDetach sc s
  | .frameStart sc => Sys2Proof.Machine.execFrameStart sc s
  | .peekExpiry sc => Sys2Proof.Machine.execPeekExpiry sc s
  | .typeOutPress => Sys2Proof.Machine.execTypeOutPress s
  | .typeOutReleaseDue => Sys2Proof.Machine.execTypeOutReleaseDue s
  | .computerAttach p => Sys2Proof.Machine.execComputerAttach p s
  | .configure p remoteWake => Sys2Proof.Machine.execConfigure p remoteWake s
  | .computerBusReset p => Sys2Proof.Machine.execComputerBusReset p s
  | .computerDetach p => Sys2Proof.Machine.execComputerDetach p s
  | .indicatorReport p lamps => Sys2Proof.Machine.execIndicatorReport p lamps s
  | .keyboardPoll p => Sys2Proof.Machine.execKeyboardPoll p s
  | .pointerPoll p => Sys2Proof.Machine.execPointerPoll p s
  | .stallTimerExpiry p => Sys2Proof.Machine.execStallTimerExpiry p s
  | .suspend p => Sys2Proof.Machine.execSuspend p s
  | .settleTimerExpiry p => Sys2Proof.Machine.execSettleTimerExpiry p s
  | .signallingEnd p => Sys2Proof.Machine.execSignallingEnd p s
  | .wakeWindowExpiry p => Sys2Proof.Machine.execWakeWindowExpiry p s
  | .resume p => Sys2Proof.Machine.execResume p s
  | .staggerTimerExpiry => Sys2Proof.Machine.execStaggerTimerExpiry s
  | .status r => Sys2Proof.Machine.execStatus r s
  | .tableRead r => Sys2Proof.Machine.execTableRead r s
  | .tableWrite r => Sys2Proof.Machine.execTableWrite r s
  | .depositText r => Sys2Proof.Machine.execDepositText r s
  | .clearText r => Sys2Proof.Machine.execClearText r s
  | .raiseAlert r => Sys2Proof.Machine.execRaiseAlert r s
  | .withdrawAlert r => Sys2Proof.Machine.execWithdrawAlert r s
  | .events r => Sys2Proof.Machine.execEvents r s
  | .freeze r => Sys2Proof.Machine.execFreeze r s
  | .save r => Sys2Proof.Machine.execSave r s
  | .saveCompletion confirmed => Sys2Proof.Machine.execSaveCompletion confirmed s
  | .deskReset r => Sys2Proof.Machine.execDeskReset r s
  | .replyRead p => Sys2Proof.Machine.execReplyRead p s
  | .notificationTake p => Sys2Proof.Machine.execNotificationTake p s
  | .unknownCommandRequest r code => Sys2Proof.Machine.execUnknownCommandRequest r code s

end Sys2Proof.Machine
end

