-- ==== Sys2Proof/Machine/Step.lean ====
section
/-! DEFINITION. One step of the part: the command at the front of the queue, or the passing of a millisecond. -/

namespace Sys2Proof.Machine

/-- `s` with its queue of waiting commands replaced. -/
def State.setPending (s : State) (v : List Instr) : State :=
  { s with pending := v }

/-- One step: the command at the front of the queue is taken with the rest of the queue left; on an empty queue 1 ms
passes (log entry 1: DESIGN CHOICE). -/
def step (s : State) : Host.Outcome State Fault Refusal :=
  match s.pending with
  | [] => .next (s.elapse 1)
  | c :: rest => exec c (s.setPending rest)

/-- `s` with the command a word spells put at the front of its queue; `s` itself where the word spells none. -/
def State.withFetchWord (s : State) (nbits w : Nat) : State :=
  match decodeTableWord nbits w with
  | none => s
  | some c => s.setPending (c :: s.pending)

end Sys2Proof.Machine
end

