-- ==== Sys2Proof/Safety.lean ====
section
/-! DEFINITION. What a sound state of the part is: the laws its chapters say hold between any two of its steps. -/

namespace Sys2Proof.Machine

/-! ### The console (R9, R12, R16) -/

/-- The desk states are the unions of the devices' last sets, and the mirrored value agrees with its source. -/
structure ConsoleSafe (s : State) : Prop where
  /-- The desk key state is the union of the last key sets (R9). -/
  keys : ∀ k, k ∈ s.console.deskKeys ↔ ∃ c : ConsoleNo, k ∈ s.console.ports[c].keys
  /-- The desk button state is the union of the last button sets (R12). -/
  buttons : ∀ b, b ∈ s.console.deskButtons ↔ ∃ c : ConsoleNo, b ∈ s.console.ports[c].buttons
  /-- The mirrored indicator value agrees with its source (R16). -/
  mirrored : s.console.mirrored = mirrorSource s
  /-- A device's last sets hold no duplicates (R6, R12); the model keeps them in ascending order. -/
  sets : ∀ c : ConsoleNo, s.console.ports[c].keys.Pairwise (· < ·) ∧ s.console.ports[c].buttons.Pairwise (· < ·)

/-! ### Parked computers and the alert list (R32, R135, R139) -/

/-- A parked computer holds nothing, the alert list has one entry a computer, and the rotation order names each computer
once. -/
structure ParkSafe (s : State) : Prop where
  /-- The focus computer is never a parked computer (R32). -/
  focus : ∀ n, s.focus.focus = some n → s.tables.computer[n].parked = false
  /-- The broadcast set contains no parked computer (R32). -/
  broadcast : ∀ n : Computer, s.focus.broadcast[n] = true → s.tables.computer[n].parked = false
  /-- The alert list holds no entry for a parked computer (R135). -/
  alerts : ∀ e ∈ s.alerts.list, s.tables.computer[e.computer].parked = false
  /-- The alert list holds at most one entry per computer (R135). -/
  single : (s.alerts.list.map AlertEntry.computer).Nodup
  /-- The rotation order is a list of the eight computers, each once (R139). -/
  rotation : s.alerts.rotation.Perm computers

/-! ### The tables and the lock (R46, R113, R114, R162, R163, R167) -/

/-- The fields of a computer table entry lie in their ranges (R132, R162). -/
def ComputerEntry.Ok (e : ComputerEntry) : Prop :=
  e.desktopWidth ≤ 32767 ∧ e.desktopHeight ≤ 32767 ∧ e.alertPriority ≤ 7

/-- The desk options lie in their ranges (R163). -/
def Options.Ok (o : Options) : Prop :=
  (150 ≤ o.doubleTapWindow ∧ o.doubleTapWindow ≤ 1000) ∧ (500 ≤ o.commandTimeout ∧ o.commandTimeout ≤ 10000) ∧
    (1 ≤ o.peekDuration ∧ o.peekDuration ≤ 60) ∧ (1 ≤ o.wakeAttempts ∧ o.wakeAttempts ≤ 8) ∧
    (100 ≤ o.wakeWindow ∧ o.wakeWindow ≤ 2000) ∧ o.wakeAllStagger ≤ 2000 ∧ (8 ≤ o.typePacing ∧ o.typePacing ≤ 128)

/-- A native size field is 0, or 320 to 16384 (R45). -/
def nativeOk (n : Nat) : Prop :=
  n = 0 ∨ (320 ≤ n ∧ n ≤ 16384)

/-- The fields of a layout entry lie in their ranges, with both native sizes 0 or neither (R45, R46). -/
def LayoutEntry.Ok (e : LayoutEntry) : Prop :=
  e.x ≤ 32767 ∧ e.y ≤ 32767 ∧ (320 ≤ e.w ∧ e.w ≤ 16384) ∧ (320 ≤ e.h ∧ e.h ≤ 16384) ∧ nativeOk e.nativeW ∧
    nativeOk e.nativeH ∧ (e.nativeW = 0 ↔ e.nativeH = 0)

/-- A head origin lies in its range (R72). -/
def ChannelEntry.Ok (e : ChannelEntry) : Prop :=
  e.hx ≤ 16383 ∧ e.hy ≤ 16383

/-- The fields of a pointer device entry lie in their ranges (R50). -/
def PointerEntry.Ok (e : PointerEntry) : Prop :=
  (1 ≤ e.gain ∧ e.gain ≤ 255) ∧ e.threshold ≤ 255 ∧ e.acceleration ≤ 255

/-- The fields of a hotkey entry lie in their ranges, an enabled entry having a key (R93, R94). -/
def HotkeyEntry.Ok (e : HotkeyEntry) : Prop :=
  e.key ≤ 255 ∧ e.arg1 ≤ 255 ∧ e.arg2 ≤ 255 ∧ (e.enabled = true → e.key ≠ 0)

/-- An unlock sequence is 4 to 16 keys, each 1 to 255 (R114). -/
def sequenceOk (q : List Nat) : Prop :=
  4 ≤ q.length ∧ q.length ≤ 16 ∧ ∀ k ∈ q, 1 ≤ k ∧ k ≤ 255

/-- The ten tables hold what their owners' rules allow. -/
structure Tables.Ok (tb : Tables) : Prop where
  computer : ∀ n : Computer, tb.computer[n].Ok
  /-- At least one computer holds manager authority (R162). -/
  manager : ∃ n : Computer, tb.computer[n].manager = true
  options : tb.options.Ok
  layout : ∀ sc : ScreenNo, tb.layout[sc].Ok
  /-- No enabled screen leaves the desk and no two of them overlap (R46). -/
  desk : layoutValid tb.layout = true
  channel : ∀ c : Channel, tb.channel[c].Ok
  pointer : ∀ c : ConsoleNo, tb.pointer[c].Ok
  hotkey : ∀ i : Fin 32, tb.hotkey[i].Ok
  translation : ∀ i : Fin 97, tb.translation[i].key ≤ 255
  unlock : ∀ q, tb.unlock = some q → sequenceOk q

/-- The tables in force, in the store and being saved are valid; the lock record is legal and a locked console holds a
sequence; the generation is in range. -/
structure TablesSafe (s : State) : Prop where
  live : s.tables.Ok
  stored : ∀ image, s.store = some image → image.Ok
  saving : ∀ sv, s.mgmt.saving = some sv → sv.image.Ok
  /-- A console that is LOCKED or in LOCKOUT holds a sequence with which it can be unlocked (R114). -/
  sequence : s.lock.state ≠ .unlocked → s.tables.unlock.isSome = true
  /-- Progress stays short of the sequence in LOCKED, and is 0 in the other states (R113). -/
  progress : ∀ q, s.tables.unlock = some q → s.lock.state = .locked → s.lock.progress < q.length
  idle : s.lock.state ≠ .locked → s.lock.progress = 0
  /-- Five failures lead to LOCKOUT, in which the lockout timer runs (R113, R119). -/
  failures : s.lock.failures ≤ 5
  lockout : s.lock.failures = 5 ↔ s.lock.state = .lockout
  timer : s.lock.timer.isSome = true ↔ s.lock.state = .lockout
  /-- The generation counter takes the values 0 to 63 (R167). -/
  generation : s.mgmt.generation ≤ 63

/-! ### The computer ports, the belief sets and the mailbox (R19, R121, R127, R142 to R159) -/

/-- The replay set of a queue of key events, from the set `keys` on (R156). -/
def replaySet (keys : List Nat) : List KeyEvent → List Nat
  | [] => keys
  | .press k :: l => replaySet (setInsert k keys) l
  | .release k :: l => replaySet (setErase k keys) l

/-- Every queued press is of a key not held and every queued release of one held, from the set `keys` on (R153). -/
def replayLegal (keys : List Nat) : List KeyEvent → Prop
  | [] => True
  | .press k :: l => k ∉ keys ∧ replayLegal (setInsert k keys) l
  | .release k :: l => k ∈ keys ∧ replayLegal (setErase k keys) l

/-- One port with the belief set of its computer. -/
structure PortSafe (p : Port) (b : Belief) : Prop where
  /-- A key report queue never holds more than 16 reports (R147). -/
  keyQueue : p.keyQueue.length ≤ 16
  /-- A pointer report queue never holds more than 4 reports (R148). -/
  pointerQueue : p.pointerQueue.length ≤ 4
  /-- Queued events and queued presses without a queued release together never exceed 32 (R153). -/
  pending : p.pendingKeys.length + unreleased p.pendingKeys ≤ 32
  legal : replayLegal [] p.pendingKeys
  /-- While keys are queued, the belief set holds what the replay will leave held (R153, R156). -/
  queued : p.queuesKeys = true → b.keys = replaySet [] p.pendingKeys
  notQueued : p.queuesKeys = false → p.pendingKeys = []
  /-- A computer whose port neither is READY nor queues keys has been told of nothing held (R19, R20). -/
  forgotten : p.link ≠ .ready → p.queuesKeys = false → b = ⟨[], []⟩
  /-- Neither part of a belief set holds duplicates (R19). -/
  keySet : b.keys.Pairwise (· < ·)
  buttonSet : b.buttons.Pairwise (· < ·)
  /-- An attempt is in progress in WAKING and in no other state (R142). -/
  attempt : p.attempt ≤ 8 ∧ (p.link = .waking ↔ 1 ≤ p.attempt) ∧ (p.link = .waking ↔ p.phase.isSome = true) ∧
    (p.link = .waking ↔ p.attemptTimer.isSome = true)
  /-- The settle timer runs only in SUSPENDED, and a wake is deferred only while it runs (R142, R154). -/
  settle : (p.settle.isSome = true → p.link = .suspended) ∧ (p.deferred = true → p.settle.isSome = true)
  /-- The stall timer runs in READY while any report is queued (R149). -/
  stall : p.stall.isSome = true ↔ p.link = .ready ∧ (p.keyQueue ≠ [] ∨ p.pointerQueue ≠ [])
  /-- Reports are queued in READY and STALLED only, and held in SUSPENDED and WAKING only (R151, R152). -/
  queues : p.link ≠ .ready → p.link ≠ .stalled → p.keyQueue = [] ∧ p.pointerQueue = []
  held : p.held.isSome = true → p.link = .suspended ∨ p.link = .waking
  /-- A counter stays at 65535 once it is there (R159). -/
  counters : p.keyOverruns ≤ 65535 ∧ p.pointerOverruns ≤ 65535 ∧ p.pressesDropped ≤ 65535 ∧ p.wakesFailed ≤ 65535

/-- The port of the type-out's target is in the state its sub-state waits for (R124 to R126). -/
def targetReady (sub : TypeSub) (p : Port) : Prop :=
  match sub with
  | .waitingWake => p.wakeUnderWay = true
  | .waitingRelease | .active => p.link = .ready

/-- The mailbox record is legal (R121, R127). -/
structure MailSafe (s : State) : Prop where
  sub : s.typeout.state = .typing ↔ s.typeout.sub.isSome = true
  target : s.typeout.state = .typing ↔ s.typeout.target.isSome = true
  port : ∀ sub n, s.typeout.sub = some sub → s.typeout.target = some n → targetReady sub s.ports[n]
  pacing : s.typeout.sub = some .active ↔ s.typeout.pacing.isSome = true
  /-- The index always equals typed count plus skipped count (R127). -/
  index : s.typeout.index = s.typeout.typed + s.typeout.skipped ∧ s.typeout.index ≤ s.typeout.text.length
  idle : s.typeout.state ≠ .typing → s.typeout.index = 0
  empty : s.typeout.state = .empty ↔ s.typeout.text = []
  /-- The text is at most 256 characters, each one the mailbox can hold (R121). -/
  text : s.typeout.text.length ≤ 256 ∧ ∀ c ∈ s.typeout.text, validCharacter c = true

/-- What computers have been told is held is held (R19): at the console, or by the type-out ACTIVE for the computer. A
console that is not UNLOCKED has told nobody of anything (R41, R115). -/
structure ToldSafe (s : State) : Prop where
  keys : ∀ n : Computer, ∀ k ∈ s.focus.beliefs[n].keys, k ∈ s.console.deskKeys ∨
    (s.typeout.state = .typing ∧ s.typeout.sub = some .active ∧ s.typeout.target = some n ∧
      ∃ pc ch, s.typeout.pacing = some pc ∧ pc.pressed = some ch ∧ (k = ch.key ∨ (ch.shift = true ∧ k = 225)))
  buttons : ∀ n : Computer, ∀ b ∈ s.focus.beliefs[n].buttons, b ∈ s.console.deskButtons
  locked : s.lock.state ≠ .unlocked → s.typeout.state ≠ .typing ∧ ∀ n : Computer, s.focus.beliefs[n] = ⟨[], []⟩

/-- Every port with its belief set, and the mailbox, are legal, and the belief sets hold what is held. -/
structure PortsSafe (s : State) : Prop where
  ports : ∀ n : Computer, PortSafe s.ports[n] s.focus.beliefs[n]
  mail : MailSafe s
  told : ToldSafe s

/-! ### The desk pointer (R35, R44) -/

/-- When a live tile exists the pointer lies inside one, and otherwise it is unseated and the mode is DETACHED (R44); in
GLIDE that tile is the focus computer's (R35). -/
structure PointerSafe (s : State) : Prop where
  seated : ∀ seat, s.glide.seat = some seat → ∃ t, seatTile s = some t ∧ liveOwner s t = some seat.computer ∧
    t.contains (s.glide.px / 16) (s.glide.py / 16) = true
  unseated : s.glide.seat = none → firstLive s = none ∧ s.focus.mode = .detached
  glide : s.focus.mode = .glide → ∃ seat, s.glide.seat = some seat ∧ s.focus.focus = some seat.computer
  position : s.glide.px ≤ 524287 ∧ s.glide.py ≤ 524287

/-! ### The commands that are requests (R105, R161, R177) -/

/-- The sixteen actions a hotkey and an ACTION request share but for TYPE_TEXT, which a request may be refused (R105,
R168). -/
def sharedActions : List (ActionCall → Instr) :=
  [.noAction, .focus, .focusNext, .focusPrev, .focusBack, .broadcastToggle, .broadcastClear, .showChannel, .peek,
    .preset, .parkToggle, .wake, .wakeAll, .lock, .goAlert, .command]

/-- The command that stands for a hotkey action (R105). -/
def actionRow : Action → ActionCall → Instr
  | .nothing => .noAction
  | .focus => .focus
  | .focusNext => .focusNext
  | .focusPrev => .focusPrev
  | .focusBack => .focusBack
  | .broadcastToggle => .broadcastToggle
  | .broadcastClear => .broadcastClear
  | .showChannel => .showChannel
  | .peek => .peek
  | .preset => .preset
  | .parkToggle => .parkToggle
  | .wake => .wake
  | .wakeAll => .wakeAll
  | .lock => .lock
  | .typeText => .typeText
  | .goAlert => .goAlert
  | .command => .command

/-- The request in an action call. -/
def callRequest : ActionCall → Option Request
  | .hotkey _ _ => none
  | .request r => some r

/-- The request a command is, with its command code and the authority it needs (R161, R177); none for a command that is
no request. -/
def requestOf (i : Instr) : Option (Byte × Authority × Request) :=
  match i with
  | .noAction a | .focus a | .focusNext a | .focusPrev a | .focusBack a | .broadcastToggle a | .broadcastClear a
  | .showChannel a | .peek a | .preset a | .parkToggle a | .wake a | .wakeAll a | .lock a | .typeText a | .goAlert a
  | .command a => (callRequest a).map fun r => (4, .manager, r)
  | .unlock r => some (4, .manager, r)
  | .status r => some (1, .any, r)
  | .tableRead r => some (2, .any, r)
  | .tableWrite r => some (3, .manager, r)
  | .depositText r => some (5, .deposit, r)
  | .clearText r => some (6, .deposit, r)
  | .raiseAlert r => some (7, .any, r)
  | .withdrawAlert r => some (8, .any, r)
  | .events r => some (9, .manager, r)
  | .freeze r => some (10, .manager, r)
  | .save r => some (11, .manager, r)
  | .deskReset r => some (12, .manager, r)
  | .unknownCommandRequest r code => some (code, .any, r)
  | _ => none

/-- The length field of a frame agrees with its parameter bytes, `lead` of which the row itself stands for, and the frame
holds at most 300 bytes (R177). -/
def lengthAgrees (r : Request) (lead : Nat) : Prop :=
  r.length.toNat = lead + r.params.length ∧ r.length.toNat ≤ 294

/-- The parameters of a request frame are ones its command calls for (R161, R177): its length is right, and its codes name
tables and event kinds. -/
def formedRequest (i : Instr) (r : Request) : Prop :=
  match i with
  | .status _ | .clearText _ | .raiseAlert _ | .withdrawAlert _ | .save _ | .deskReset _ =>
    lengthAgrees r 0 ∧ r.params.length = 0
  | .depositText _ => lengthAgrees r 0
  | .tableRead _ =>
    lengthAgrees r 0 ∧ ∃ t first count : Byte, r.params = [t, first, count] ∧ 1 ≤ t.toNat ∧ t.toNat ≤ 10 ∧
      count.toNat ≤ 16
  | .tableWrite _ =>
    lengthAgrees r 0 ∧ ∃ t first count : Byte, ∃ entries : List Byte, ∃ table : TableId,
      r.params = t :: first :: count :: entries ∧ tableOf t = some table ∧ 1 ≤ count.toNat ∧ count.toNat ≤ 4 ∧
      entries.length = count.toNat * table.size
  | .events _ =>
    lengthAgrees r 0 ∧ ∃ flags c0 c1 m0 m1 : Byte, r.params = [flags, c0, c1, m0, m1] ∧ word c0 c1 < 512 ∧
      word m0 m1 < 512
  | .freeze _ => lengthAgrees r 0 ∧ ∃ t0 t1 : Byte, r.params = [t0, t1] ∧ word t0 t1 < 1024
  | .unknownCommandRequest _ _ => False
  | _ => lengthAgrees r 1 ∧ r.params.length = 2

/-- The state in which the reply slot of the requesting port has taken a reply with status `st` and nothing else has
changed (R160). -/
def replied (command : Byte) (r : Request) (st : Status) (results : List Byte) (s : State) : State :=
  s.modPort r.port fun p => { p with slot := .ready ⟨command, r.tag, st, s.mgmt.generation, results⟩ }

/-- The port takes requests (R160). -/
def takesRequests (s : State) (p : Computer) : Prop :=
  s.ports[p].link = .ready ∨ s.ports[p].link = .stalled

/-! ### Words the statements share -/

/-- The summaries of `t` are those of `s` after an event of kind `e`: every manager, and no other computer, has taken it
(R171). -/
def tookEvent (e : EventKind) (s t : State) : Prop :=
  ∀ n : Computer, t.mgmt.summaries[n] =
    if s.tables.computer[n].manager then s.mgmt.summaries[n] ||| e.bit else s.mgmt.summaries[n]

/-- Every manager has the kind `e` in its summary (R171). -/
def announced (e : EventKind) (t : State) : Prop :=
  ∀ n : Computer, t.tables.computer[n].manager = true → t.mgmt.summaries[n] &&& e.bit = e.bit

/-- The report `r` from the keyboard on port `c` gives the key set `n`, which presses `k` there and changes nothing else;
no console keyboard held `k` (R8, R9). -/
structure PressAlone (c : ConsoleNo) (r : KeyInput) (k : Nat) (n : List Nat) (s : State) : Prop where
  keyboard : ∃ o shown flight, s.console.ports[c] = .keyboard o shown flight ∧ setDiff o n = [] ∧ setDiff n o = [k]
  reduced : reduceKeys r = some n
  fresh : k ∉ s.console.deskKeys

/-- The key set `m` is `o` with the first of the changes made that lead to `n`, in the order of R8: releases before presses,
modifiers last among the releases and first among the presses, each group ascending. Keys 232 to 255 go with the keys below
224 (log entry 37). -/
def firstKeyChange (o n m : List Nat) : Prop :=
  let modifier := fun (k : Nat) => 224 ≤ k ∧ k ≤ 231
  let before := fun (k x : Nat) => (modifier k ↔ modifier x) ∧ k < x
  (∃ k ∈ o, k ∉ n ∧ (∀ x ∈ o, x ∉ n → x = k ∨ before k x ∨ (¬ modifier k ∧ modifier x)) ∧
    ∀ x, x ∈ m ↔ x ∈ o ∧ x ≠ k) ∨
  ((∀ x ∈ o, x ∈ n) ∧ ∃ k ∈ n, k ∉ o ∧ (∀ x ∈ n, x ∉ o → x = k ∨ before k x ∨ (modifier k ∧ ¬ modifier x)) ∧
    ∀ x, x ∈ m ↔ x ∈ o ∨ x = k)

/-- The console's state with the last key set of port `c` become `n` (R8). -/
def keySetTaken (c : ConsoleNo) (n : List Nat) (t : State) : State :=
  { t with console := { t.console with ports := t.console.ports.set c (t.console.ports[c].setKeys n) } }

/-- The state with key `k` entered in the desk key state (R9). -/
def keyEntered (k : Nat) (s : State) : State :=
  { s with console := { s.console with deskKeys := setInsert k s.console.deskKeys } }

/-- The report `r` from the keyboard on port `c` gives the key set `n`, which releases `k` there and changes nothing else;
no other console keyboard holds `k` (R8, R9). -/
structure ReleaseAlone (c : ConsoleNo) (r : KeyInput) (k : Nat) (n : List Nat) (s : State) : Prop where
  keyboard : ∃ o shown flight, s.console.ports[c] = .keyboard o shown flight ∧ setDiff o n = [k] ∧ setDiff n o = []
  reduced : reduceKeys r = some n
  elsewhere : ∀ d : ConsoleNo, d ≠ c → k ∉ s.console.ports[d].keys

/-- The state with key `k` gone from the desk key state (R9). -/
def keyLeft (k : Nat) (s : State) : State :=
  { s with console := { s.console with deskKeys := setErase k s.console.deskKeys } }

/-- A pointer report that carries no motion and no wheel (R11). -/
def motionless (r : PointerInput) : Prop :=
  r.dx = 0 ∧ r.dy = 0 ∧ r.wheel = 0

/-- The motionless report `r` from the pointer on port `c` gives the button set `n`, which presses `b` there and changes
nothing else; no console pointer held `b` (R12, R13). -/
structure ButtonPressAlone (c : ConsoleNo) (r : PointerInput) (b : Nat) (n : List Nat) (s : State) : Prop where
  pointer : ∃ o, s.console.ports[c] = .pointer o ∧ setDiff o n = [] ∧ setDiff n o = [b]
  reduced : reduceButtons r = n
  still : motionless r
  fresh : b ∉ s.console.deskButtons

/-- The motionless report `r` from the pointer on port `c` gives the button set `n`, which releases `b` there and changes
nothing else; no other console pointer holds `b` (R12, R13). -/
structure ButtonReleaseAlone (c : ConsoleNo) (r : PointerInput) (b : Nat) (n : List Nat) (s : State) : Prop where
  pointer : ∃ o, s.console.ports[c] = .pointer o ∧ setDiff o n = [b] ∧ setDiff n o = []
  reduced : reduceButtons r = n
  still : motionless r
  elsewhere : ∀ d : ConsoleNo, d ≠ c → b ∉ s.console.ports[d].buttons

/-- The console's state with the last button set of port `c` become `n` and the desk button state `desk` (R12). -/
def buttonSetTaken (c : ConsoleNo) (n desk : List Nat) (t : State) : State :=
  { t with console := { t.console with
      ports := t.console.ports.set c (t.console.ports[c].setButtons n)
      deskButtons := desk } }

/-- No release that carries the all-released mark is waited for: the type-out does not, and the mode is not HELD (R38,
R126). -/
def noMarkAwaited (s : State) : Prop :=
  s.typeout.sub ≠ some .waitingRelease ∧ s.focus.mode ≠ .held

/-- No enabled CHORD or DOUBLE_TAP entry has key `k`, and no first tap of it waits: a press of `k` outside command mode is
no hotkey (R98 to R100). -/
def noHotkey (k : Nat) (s : State) : Prop :=
  s.matcher.commandMode = false ∧
    (∀ i : Fin 32, s.tables.hotkey[i].enabled = true → s.tables.hotkey[i].key = k →
      s.tables.hotkey[i].kind = .follower) ∧
    ∀ cand, s.matcher.candidate = some cand → cand.key ≠ k

/-- No hotkey takes a press of `k`: command mode is off, no enabled CHORD entry matches it, and it is no second tap of the
candidate (R98, R100; that a tap at the very expiry still counts is log entry 29). -/
def notTaken (k : Nat) (s : State) : Prop :=
  s.matcher.commandMode = false ∧
    (∀ i : Fin 32, ¬ (s.tables.hotkey[i].enabled = true ∧ s.tables.hotkey[i].kind = .chord ∧ s.tables.hotkey[i].key = k ∧
      modifiersMet s.tables.hotkey[i] (setInsert k s.console.deskKeys) = true)) ∧
    ∀ cand, s.matcher.candidate = some cand → cand.key = k → cand.released = true → cand.expiry < s.now

/-- The double-tap candidate after a press of `k` that no hotkey takes: `k` with a window that runs from now, when `k` is
the key of an enabled DOUBLE_TAP entry and no other key is held, else none (R99). -/
def firstTap (k : Nat) (s : State) : Option Candidate :=
  if (∃ i : Fin 32, s.tables.hotkey[i].enabled = true ∧ s.tables.hotkey[i].kind = .doubleTap ∧
      s.tables.hotkey[i].key = k) ∧ setInsert k s.console.deskKeys = [k] then
    some ⟨k, false, s.now + s.tables.options.doubleTapWindow⟩
  else none

/-- The position an absolute report of a button change to computer `n` carries: the pointer's, or, while motion to `n` is
withheld, the last one sent, at first the middle (R62, R63). -/
def buttonPosition (n : Computer) (s : State) : Nat × Nat :=
  (absoluteHere s n).getD (s.glide.lastAbs[n].getD (16384, 16384))

/-- The pointer report `r` from port `c` leaves the buttons of its device as they were (R12). -/
def buttonsSame (c : ConsoleNo) (r : PointerInput) (s : State) : Prop :=
  s.console.ports[c] = .pointer (reduceButtons r)

/-- The report `r` from the pointer on port `c` is motion or wheel alone, and the part is in GLIDE and UNLOCKED with the
pointer in the tile `t` and `f` the focus computer (R13, R35, R44). -/
structure Gliding (c : ConsoleNo) (r : PointerInput) (s : State) (t : Tile) (f : Computer) : Prop where
  tables : s.tables.Ok
  unlocked : s.lock.state = .unlocked
  mode : s.focus.mode = .glide
  focus : s.focus.focus = some f
  buttons : buttonsSame c r s
  moves : ¬ motionless r
  tile : seatTile s = some t
  inside : t.contains (s.glide.px / 16) (s.glide.py / 16) = true
  desk : s.glide.px ≤ 524287 ∧ s.glide.py ≤ 524287

/-- The step of an axis count `d` by the pointer device entry `e`, in sixteenths of a desk unit (R51). -/
def stepOf (e : PointerEntry) (d : Int) : Int :=
  let size : Int := (d.natAbs * e.gain + (d.natAbs - e.threshold) * e.acceleration : Nat)
  if d < 0 then -size else size

/-- Whether a crossing onto a live tile of computer `n` is permitted (R54). -/
def mayCross (n : Computer) (s : State) : Prop :=
  s.focus.focus = some n ∨
    (s.console.deskButtons = [] ∧
      (s.ports[n].link = .ready ∨
        ((s.ports[n].link = .suspended ∨ s.ports[n].link = .waking) ∧ s.tables.options.wakeOnGlide = true)))

/-- The hotkey entry `i` is the first that `p` holds of (R98, R100, R102). -/
def firstEntry (p : HotkeyEntry → Prop) (i : Fin 32) (s : State) : Prop :=
  p s.tables.hotkey[i] ∧ ∀ j : Fin 32, j < i → ¬ p s.tables.hotkey[j]

/-- Whether a computer may be reached by FOCUS_NEXT and FOCUS_PREV (R31). -/
def eligible (s : State) (n : Computer) : Prop :=
  s.tables.computer[n].parked = false ∧ s.ports[n].link ≠ .absent

/-- The places from computer `f` forward to `n` in port order, wrapping from 8 to 1 (R31). -/
def ahead (f n : Computer) : Nat :=
  (n.val + 8 - f.val) % 8

/-- The computer that GO_ALERT goes to, by the alert policy of the desk options (R139): of the oldest entry, of the entry
of least priority number and the oldest of those, or the first in the rotation order that has an entry. -/
def alertChosen (c : Computer) (s : State) : Prop :=
  match s.tables.options.alertPolicy with
  | .oldest => ∃ e l, s.alerts.list = e :: l ∧ e.computer = c
  | .priority => ∃ l1 e l2, s.alerts.list = l1 ++ e :: l2 ∧ e.computer = c ∧
      (∀ x ∈ l1, s.tables.computer[c].alertPriority < s.tables.computer[x.computer].alertPriority) ∧
      ∀ x ∈ l2, s.tables.computer[c].alertPriority ≤ s.tables.computer[x.computer].alertPriority
  | .rotate => ∃ r1 r2, s.alerts.rotation = r1 ++ c :: r2 ∧ (∃ e ∈ s.alerts.list, e.computer = c) ∧
      ∀ n ∈ r1, ∀ e ∈ s.alerts.list, e.computer ≠ n

/-- The state after the choice of computer `c` by GO_ALERT: under ROTATE it goes to the end of the rotation order
(R139). -/
def alertTurned (c : Computer) (s : State) : State :=
  match s.tables.options.alertPolicy with
  | .oldest | .priority => s
  | .rotate =>
    { s with alerts := { s.alerts with rotation := s.alerts.rotation.filter (fun n => decide (n ≠ c)) ++ [c] } }

/-- What a wake request for computer `n`, made when `asks` holds, has come to in `t` (R154): deferred, merged, started or,
where the port may not be woken, refused; without one the wake fields are those of `s`. -/
def wakeAsked (asks : Prop) (n : Computer) (s t : State) : Prop :=
  let p := s.ports[n]
  let q := t.ports[n]
  let allowed := p.remoteWake = true ∧ s.tables.computer[n].wakePermitted = true
  (¬ asks → q.link = p.link ∧ q.deferred = p.deferred ∧ q.attempt = p.attempt ∧ q.lastWake = p.lastWake) ∧
  (asks → allowed → p.deferred = true ∨ p.settle.isSome = true →
    q.link = .suspended ∧ q.deferred = true ∧ q.lastWake = p.lastWake) ∧
  (asks → allowed → p.deferred = false → p.settle = none →
    q.link = .waking ∧ q.attempt = 1 ∧ q.phase = some .signalling ∧ q.attemptTimer = some (s.now + 10) ∧
      announced .link t) ∧
  (asks → ¬ allowed → q.link = .suspended ∧ q.deferred = false ∧ q.lastWake = .refused ∧ q.pendingKeys = [] ∧
    t.focus.beliefs[n] = ⟨[], []⟩ ∧ announced .wake t)

/-- A port after the release of the belief set `b` of its computer (R21, R152): in READY a snapshot without keys and a
relative report without buttons, each if its part was not empty; with a wake under way a release event for each key and a
held report without buttons; else as it was. -/
def toldRelease (now : Nat) (b : Belief) (p : Port) : Port :=
  if p.link = .ready then
    let p1 := if b.keys = [] then p else p.addSnapshot now []
    if b.buttons = [] then p1 else p1.addPointer now ⟨.relative, 0, 0, [], 0⟩
  else if p.queuesKeys = true then
    { p with
      pendingKeys := p.pendingKeys ++ b.keys.map KeyEvent.release
      held := if b.buttons = [] then p.held else some (match p.held with
        | none => ⟨.relative, 0, 0, [], 0⟩
        | some q => { q with buttons := [] }) }
  else p

/-- The alert condition of a computer with the table entry `e`, whose indicators are known or not and are `lamps`
(R133). -/
def lampCalls (e : ComputerEntry) (known : Bool) (lamps : Indicators) : Bool :=
  known && e.alertIndicator.any fun i => decide (lamps.has i = decide (e.alertSense = .on))

/-- The alert list `l` after a fresh evaluation of computer `n` (R134). -/
def freshEntries (n : Computer) (e : ComputerEntry) (known : Bool) (lamps : Indicators) (l : List AlertEntry) :
    List AlertEntry :=
  if lampCalls e known lamps then
    if e.parked = false ∧ ∀ x ∈ l, x.computer ≠ n then l ++ [⟨n, e.alertKind, .indicator⟩] else l
  else l.filter fun x => !decide (x.computer = n ∧ x.kind = .level ∧ x.raisedBy = .indicator)

/-- What a composed frame of screen `sc` shows in the tile `t` (R91): black in an empty tile, the no-signal pattern for a
channel that is not LOCKED, else the picture in the area of R57. -/
def drawnIn (s : State) (sc : ScreenNo) (t : Tile) (x : TileContent) : Prop :=
  (t.channel = none → x = .black) ∧
    ∀ c : Channel, t.channel = some c →
      (s.channels[c].state ≠ .locked → x = .noSignal) ∧
      ∀ tm : Timing, s.channels[c].state = .locked → s.channels[c].timing = some tm →
        x = .picture c (fitPicture s.tables.layout[sc].fit t.w t.h tm.width tm.height)

/-- The frame kind of a tile that shows channel `c` on screen `sc` under the assignment `a` (R88). -/
def tileKind (s : State) (sc : ScreenNo) (a : Assignment) (c : Option Channel) : FrameKind :=
  if s.screens[sc].peek.isSome = true ∧ a = .single (s.screens[sc].peek.map Peek.channel) then .peek
  else
    match c with
    | none => .none
    | some c =>
      match s.tables.channel[c].owner with
      | none => .none
      | some n =>
        if ∃ e ∈ s.alerts.list, e.computer = n then .alert
        else if s.focus.focus = some n ∧ s.tables.options.focusFrame = true then .focus
        else .none

/-- The frame kinds of the tiles of screen `sc` under the assignment `a`; a disabled screen has no tiles (R88). -/
def tileKinds (s : State) (sc : ScreenNo) (a : Assignment) : List FrameKind :=
  if s.tables.layout[sc].enabled then a.channels.map (tileKind s sc a) else []

/-- The frame kinds of screen `sc` are as a computation for its displayed tiles leaves them (R89): pending with a display
where they differ from the displayed ones, displayed at once without one. -/
def screenAnew (sc : ScreenNo) (t : State) : Prop :=
  let kinds := tileKinds t sc t.screens[sc].displayed
  (t.screens[sc].attached = true →
    t.screens[sc].pendingFrames = if kinds = t.screens[sc].frames then none else some kinds) ∧
  (t.screens[sc].attached = false → t.screens[sc].frames = kinds ∧ t.screens[sc].pendingFrames = none)

/-- The frame kinds of every screen are as a computation for the displayed tiles leaves them (R89). -/
def framesAnew (t : State) : Prop :=
  ∀ sc : ScreenNo, screenAnew sc t

/-- The displayed and the pending frame kinds of screen `sc` are those of `s` (R89). -/
def framesKept (sc : ScreenNo) (s t : State) : Prop :=
  t.screens[sc].frames = s.screens[sc].frames ∧ t.screens[sc].pendingFrames = s.screens[sc].pendingFrames

/-- In GLIDE the computer of the current tile, when its port takes reports and motion to it is not withheld, was last sent
the pointer's present position (R61, R63, R64, R70). -/
def positionTold (t : State) : Prop :=
  t.focus.mode = .glide → ∀ seat pos, t.glide.seat = some seat → absoluteHere t seat.computer = some pos →
    t.ports[seat.computer].link = .ready ∨ t.ports[seat.computer].link = .suspended ∨
      t.ports[seat.computer].link = .waking →
    t.glide.lastAbs[seat.computer] = some pos

/-- What the focus controller makes of the re-seat outcome MOVED `n` (R37): GLIDE when `n` is the focus computer; else,
with nothing held, a focus change to `n` that remembers no position; else HELD. -/
def movedTo (n : Computer) (s t : State) : Prop :=
  (s.focus.focus = some n → t.focus = { s.focus with mode := .glide, rx := 0, ry := 0 }) ∧
  (s.focus.focus ≠ some n → s.console.deskKeys = [] → s.console.deskButtons = [] →
    t.focus.focus = some n ∧ t.focus.previous = s.focus.focus ∧ t.focus.mode = .glide ∧ t.focus.rx = 0 ∧
      t.focus.ry = 0 ∧ t.focus.broadcast = s.focus.broadcast ∧ t.glide.remembered = s.glide.remembered ∧
      (∀ f : Computer, s.focus.focus = some f → s.focus.broadcast[f] = false → t.focus.beliefs[f] = ⟨[], []⟩) ∧
      t.typeout.state ≠ .typing ∧
      (s.typeout.state = .typing →
        t.typeout.outcome = some ⟨.cancelledFocus, s.typeout.typed, s.typeout.skipped⟩) ∧
      announced .focus t ∧ framesAnew t) ∧
  (s.focus.focus ≠ some n → s.console.deskKeys ≠ [] ∨ s.console.deskButtons ≠ [] →
    t.focus = { s.focus with mode := .held })

/-- What a re-seat by the tiles of `t` makes of the pointer and focus records of `s` (R69, R37): a seated pointer in a live
tile stays, and the outcome is SAME when tile and computer are those it was seated on; else it goes to the centre of the
focus computer's first live tile, else of the first of any computer; without a live tile it is unseated. -/
def reseated (s t : State) : Prop :=
  let stays := fun (tile : Tile) (n : Computer) => s.glide.seat.isSome = true ∧
    locate t (s.glide.px / 16) (s.glide.py / 16) = some tile ∧ liveOwner t tile = some n
  let unmoved := t.glide.px = s.glide.px ∧ t.glide.py = s.glide.py
  let centred := fun (tile : Tile) (n : Computer) => (t.glide.px, t.glide.py) = tile.centre ∧
    t.glide.seat = some ⟨tile.screen, tile.quad, n⟩ ∧ movedTo n s t
  (∀ tile n, stays tile n → unmoved ∧ t.glide.seat = some ⟨tile.screen, tile.quad, n⟩ ∧
    (s.glide.seat = some ⟨tile.screen, tile.quad, n⟩ → t.focus = s.focus) ∧
    (s.glide.seat ≠ some ⟨tile.screen, tile.quad, n⟩ → movedTo n s t)) ∧
  ((∀ tile n, ¬ stays tile n) →
    (∀ f tile, s.focus.focus = some f → firstLiveOf t f = some tile → centred tile f) ∧
    ((∀ f, s.focus.focus = some f → firstLiveOf t f = none) →
      (∀ tile n, firstLive t = some tile → liveOwner t tile = some n → centred tile n) ∧
      (firstLive t = none →
        unmoved ∧ t.glide.seat = none ∧ t.focus = { s.focus with mode := .detached })))

/-- The steps `step a` of the members of a list lead from `s` to `t`, one after another. -/
def inOrder {α : Type} (step : α → State → State → Prop) : List α → State → State → Prop
  | [], s, t => t = s
  | a :: l, s, t => ∃ u, step a s u ∧ inOrder step l u t

/-- `w` is the table `v` with the entries `l` written from index `first` on (R165). -/
def rewritten {α : Type} {n : Nat} (first : Byte) (l : List α) (v w : Vector α n) : Prop :=
  ∀ i : Fin n, w[i] = if first.toNat ≤ num i then (l[num i - first.toNat]?).getD v[i] else v[i]

/-- The requested assignment of screen `sc` has been set to `a` (R82): a peek has it as its saved base, a screen with a
display as its pending assignment, and one without displays it, with its frame kinds, the pointer being re-seated (R68). -/
def requestedAt (sc : ScreenNo) (a : Assignment) (s t : State) : Prop :=
  (∀ p : Peek, s.screens[sc].peek = some p → t = s.modScreen sc fun r => { r with peek := some { p with base := a } }) ∧
  (s.screens[sc].peek = none → s.screens[sc].attached = true →
    t = s.modScreen sc fun r => { r with pendingAssignment := some a }) ∧
  (s.screens[sc].peek = none → s.screens[sc].attached = false →
    t.screens[sc].displayed = a ∧ t.screens[sc].pendingAssignment = s.screens[sc].pendingAssignment ∧
    t.screens[sc].peek = none ∧ screenAnew sc t ∧ reseated s t ∧ positionTold t ∧
    (∀ x : ScreenNo, t.screens[x].attached = s.screens[x].attached ∧ (x ≠ sc →
      t.screens[x].displayed = s.screens[x].displayed ∧
      t.screens[x].pendingAssignment = s.screens[x].pendingAssignment ∧ t.screens[x].peek = s.screens[x].peek)) ∧
    t.tables = s.tables ∧ t.mgmt.generation = s.mgmt.generation ∧ t.channels = s.channels ∧ t.lock = s.lock ∧
    t.console.deskKeys = s.console.deskKeys ∧ t.console.deskButtons = s.console.deskButtons)

/-- The frame kinds and composed frames of the screens apart, which follow from the rest, the screens of `t` are those of
`s` (R88, R91). -/
def screensKept (s t : State) : Prop :=
  ∀ sc : ScreenNo, t.screens[sc].attached = s.screens[sc].attached ∧ t.screens[sc].reported = s.screens[sc].reported ∧
    t.screens[sc].native = s.screens[sc].native ∧ t.screens[sc].displayed = s.screens[sc].displayed ∧
    t.screens[sc].pendingAssignment = s.screens[sc].pendingAssignment ∧ t.screens[sc].peek = s.screens[sc].peek ∧
    t.screens[sc].blanked = s.screens[sc].blanked

/-- `t` is `s` but for the alerts, which are `a`, and what follows from them: screens' frames, summaries and notifications
(R89, R171, R172). -/
def alertsBecome (a : Alerts) (s t : State) : Prop :=
  t = { s with
    alerts := a
    screens := t.screens
    ports := t.ports
    mgmt := { s.mgmt with summaries := t.mgmt.summaries } } ∧
  (∀ m : Computer, t.ports[m] = { s.ports[m] with notification := t.ports[m].notification }) ∧ screensKept s t

/-- A fresh evaluation of the alert source of computer `n` by its table entry (R134). -/
def evaluatedAnew (n : Computer) (s t : State) : Prop :=
  let e := s.tables.computer[n]
  let known := s.alerts.sources[n].known
  let lamps := s.ports[n].indicators
  alertsBecome
    { s.alerts with
      sources := s.alerts.sources.set n ⟨known, lampCalls e known lamps⟩
      list := freshEntries n e known lamps s.alerts.list } s t

/-- Steps 1 to 3 of R32 for computer `n`, whose parked field is set: it is removed from the broadcast set; the focus goes
from it where FOCUS_NEXT takes it, or to none when there is no computer to be found; and its alert entry leaves. -/
def withdrawn (n : Computer) (s t : State) : Prop :=
  ∃ u v : State,
    (s.focus.broadcast[n] = false → u = s) ∧
    (s.focus.broadcast[n] = true → exec (.broadcastToggle (.hotkey (byte (num n)) 0)) s = .next u) ∧
    (s.focus.focus ≠ some n → v = u) ∧
    (s.focus.focus = some n → (∃ m : Computer, m ≠ n ∧ eligible s m) →
      exec (.focusNext (.hotkey 0 0)) u = .next v) ∧
    (s.focus.focus = some n → (∀ m : Computer, m ≠ n → ¬ eligible s m) →
      v.focus = { u.focus with
        focus := none, previous := some n, mode := .detached, rx := 0, ry := 0, beliefs := v.focus.beliefs } ∧
      v.focus.beliefs[n] = ⟨[], []⟩ ∧ v.glide = u.glide ∧ v.alerts = u.alerts ∧ v.tables = u.tables ∧
      v.typeout.state ≠ .typing ∧ v.console.deskKeys = s.console.deskKeys ∧
      v.console.deskButtons = s.console.deskButtons ∧ announced .focus v) ∧
    alertsBecome { v.alerts with list := v.alerts.list.filter fun e => decide (e.computer ≠ n) } v t

/-- What a table write that replaced `old` brings for the parked field of computer `n` (R166): steps 1 to 3 of R32, the fresh
evaluation of R33, or nothing. -/
def parkedFollows (old : Tables) (n : Computer) (s t : State) : Prop :=
  (old.computer[n].parked = s.tables.computer[n].parked → t = s) ∧
  (old.computer[n].parked = false → s.tables.computer[n].parked = true → withdrawn n s t) ∧
  (old.computer[n].parked = true → s.tables.computer[n].parked = false → evaluatedAnew n s t)

/-- What a command of the focus controller leaves alone (Chapter 2): the clock, the tables, the store, the lock, the
matcher, the channels, the wake-all record, the console's sets, and the screens but for their tile frames. -/
structure DeskKept (s t : State) : Prop where
  clock : t.now = s.now
  tables : t.tables = s.tables
  store : t.store = s.store
  lock : t.lock = s.lock
  matcher : t.matcher = s.matcher
  channels : t.channels = s.channels
  wakeAll : t.wakeAll = s.wakeAll
  deskKeys : t.console.deskKeys = s.console.deskKeys
  deskButtons : t.console.deskButtons = s.console.deskButtons
  keys : ∀ c : ConsoleNo, t.console.ports[c].keys = s.console.ports[c].keys
  buttons : ∀ c : ConsoleNo, t.console.ports[c].buttons = s.console.ports[c].buttons
  generation : t.mgmt.generation = s.mgmt.generation
  masks : t.mgmt.masks = s.mgmt.masks
  freezeSet : t.mgmt.freezeSet = s.mgmt.freezeSet
  screens : screensKept s t

end Sys2Proof.Machine
end

