-- ==== Sys2Proof/Certificates/Slice0/Obligations.lean ====
section
/-! DEFINITION. The statements for the provers. -/

open Sys2Proof Sys2Proof.Machine

/-! ### Steps, commands and power-on reset -/

/-- A step takes the command at the front of the queue, and its outcome is that of the command on the state with the rest
of the queue. -/
def Obligations.StepRunsFrontCommand : Prop :=
  ∀ (c : Instr) (rest : List Instr) (s : State), s.pending = c :: rest →
    step s = exec c { s with pending := rest }

/-- The model's choice (log entry 1): with no command waiting, a step is the passing of 1 ms. The clock moves on and every
peek's remaining time counts down, attached display or not; nothing else changes. -/
def Obligations.IdleStepPassesOneMillisecond : Prop :=
  ∀ s : State, s.pending = [] →
    ∃ t, step s = .next t ∧ t = { s with now := s.now + 1, screens := t.screens } ∧
      ∀ sc : ScreenNo, t.screens[sc] =
        { s.screens[sc] with
          peek := s.screens[sc].peek.map fun p => { p with remaining := p.remaining - 1 } }

/-- Every command completes, whatever its operands and the state, and leaves the queue of waiting commands to the step. Laws
over all commands: the freeze set loses a table only at power-on reset and changes only by it and FREEZE (R169); the
settings source changes only at power-on reset (R175); the store's image only by SAVE and its completion (R174); the desk
states only by what console devices do, and power-on reset (R9, R12); and the console leaves LOCKED or LOCKOUT for
UNLOCKED only by a key report, UNLOCK or power-on reset (R115, R118, R120). That power-on reset too keeps the queue of
waiting commands is the model's choice (log entry 21). -/
def Obligations.CommandsCompleteWithinLaws : Prop :=
  ∀ (i : Instr) (s : State), ∃ t, exec i s = .next t ∧ t.pending = s.pending ∧ ((∀ b, i ≠ .powerOnReset b) →
    s.mgmt.freezeSet &&& t.mgmt.freezeSet = s.mgmt.freezeSet ∧
    ((∀ r, i ≠ .freeze r) → t.mgmt.freezeSet = s.mgmt.freezeSet) ∧
    t.mgmt.source = s.mgmt.source ∧
    ((∀ r, i ≠ .save r) → (∀ b, i ≠ .saveCompletion b) → t.store = s.store) ∧
    ((∀ c r, i ≠ .keyboardReport c r) → (∀ c r, i ≠ .pointerReport c r) → (∀ c d, i ≠ .consoleAttach c d) →
      (∀ c, i ≠ .consoleDetach c) →
      t.console.deskKeys = s.console.deskKeys ∧ t.console.deskButtons = s.console.deskButtons) ∧
    ((∀ c r, i ≠ .keyboardReport c r) → (∀ r, i ≠ .unlock r) → s.lock.state ≠ .unlocked →
      t.lock.state ≠ .unlocked))

/-- Power-on reset loads the tables from the store's image when there is one whose check passes and the store answers, and
sets the defaults otherwise, in which computer 1 is the only manager; the counter starts at 0, the freeze set and the
summaries empty, every mask full (R175). No other command changes the settings source. That power-on reset keeps the store
and the waiting commands is the model's choice (log entry 21). -/
def Obligations.PowerOnLoadsTables : Prop :=
  (∀ (answers : Bool) (s : State), ∃ t, exec (.powerOnReset answers) s = .next t ∧
    (∀ image, answers = true → s.store = some image → t.tables = image ∧ t.mgmt.source = .stored) ∧
    ((answers = false ∨ s.store = none) → t.tables = defaultTables ∧ t.mgmt.source = .defaulted) ∧
    t.mgmt.generation = 0 ∧ t.mgmt.freezeSet = 0 ∧
    (∀ n : Computer, t.mgmt.summaries[n] = 0 ∧ t.mgmt.masks[n] = allEvents) ∧
    t.store = s.store ∧ t.pending = s.pending) ∧
  (∀ n : Computer, defaultTables.computer[n].manager = true ↔ n = 0) ∧
  (∀ (i : Instr) (s t : State), (∀ b, i ≠ .powerOnReset b) → exec i s = .next t → t.mgmt.source = s.mgmt.source)

/-- What power-on reset leaves in every block, as the blocks' own rules give it; with no image in the store and no command
waiting it leaves `State.reset` (the model's choice of clock value and of empty outputs is log entry 21, of no attempt phase log
entry 46). -/
def Obligations.PowerOnClearsEveryBlock : Prop :=
  ∀ (answers : Bool) (s : State), ∃ t, exec (.powerOnReset answers) s = .next t ∧
    ((∀ c : ConsoleNo, t.console.ports[c] = .none) ∧ t.console.deskKeys = [] ∧ t.console.deskButtons = [] ∧
      t.console.mirrored = Indicators.none) ∧
    ((∀ n, t.focus.focus = some n ↔ t.tables.options.initialFocus = some n ∧ t.tables.computer[n].parked = false) ∧
      t.focus.previous = none ∧ t.focus.mode = .detached ∧ t.focus.rx = 0 ∧ t.focus.ry = 0 ∧
      ∀ n : Computer, t.focus.broadcast[n] = false ∧ t.focus.beliefs[n] = ⟨[], []⟩) ∧
    (t.glide.px = 0 ∧ t.glide.py = 0 ∧ t.glide.seat = none ∧
      ∀ n : Computer, t.glide.remembered[n] = none ∧ t.glide.lastAbs[n] = none) ∧
    (∀ sc : ScreenNo, t.screens[sc].attached = false ∧ t.screens[sc].reported = none ∧
      t.screens[sc].displayed = t.tables.assignment[sc] ∧ t.screens[sc].pendingAssignment = none ∧
      t.screens[sc].peek = none ∧ t.screens[sc].pendingFrames = none ∧
      t.screens[sc].frames = tileKinds t sc t.screens[sc].displayed ∧
      (t.screens[sc].blanked = true ↔ t.lock.state = .locked)) ∧
    (∀ c : Channel, t.channels[c] = ⟨.noSignal, none, 0, none⟩) ∧
    t.matcher = ⟨false, none, none⟩ ∧
    (t.lock = ⟨if t.tables.options.startLocked = true ∧ t.tables.unlock.isSome = true then .locked else .unlocked, 0, 0,
      none⟩) ∧
    (t.typeout.state = .empty ∧ t.typeout.text = [] ∧ t.typeout.depositor = none ∧ t.typeout.target = none ∧
      t.typeout.pacing = none ∧ t.typeout.outcome = none) ∧
    (t.alerts.list = [] ∧ t.alerts.rotation = computers ∧ ∀ n : Computer, t.alerts.sources[n] = ⟨false, false⟩) ∧
    (t.wakeAll = ⟨[], none⟩ ∧ t.mgmt.saving = none ∧ t.mgmt.lastSave = .none) ∧
    (∀ n : Computer, t.ports[n].link = .absent ∧ t.ports[n].remoteWake = false ∧ t.ports[n].deferred = false ∧
      t.ports[n].attempt = 0 ∧ t.ports[n].lastWake = .none ∧ t.ports[n].keyQueue = [] ∧ t.ports[n].pointerQueue = [] ∧
      t.ports[n].held = none ∧ t.ports[n].pendingKeys = [] ∧ t.ports[n].indicators = Indicators.none ∧
      t.ports[n].slot = .empty ∧ t.ports[n].notification = none) ∧
    (s.store = none → s.pending = [] → t = State.reset)

/-! ### Requests and replies -/

/-- A request is ignored unless its port is READY or STALLED; a malformed one is answered BAD_REQUEST, and a formed
one without the authority its command needs NO_AUTHORITY. A refused request changes nothing but its port's reply slot
(R161). The frame forms are those of R177; that a mask with an unknown kind is BAD_REQUEST even where no mask is given
is log entry 15, and that bits 1 to 7 of the flags byte of EVENTS make it none log entry 47. -/
def Obligations.RequestsAreCheckedFirst : Prop :=
  ∀ (i : Instr) (s : State) (code : Byte) (a : Authority) (r : Request), requestOf i = some (code, a, r) →
    (¬ takesRequests s r.port → exec i s = .next s) ∧
    (takesRequests s r.port → ¬ formedRequest i r → exec i s = .next (replied code r .badRequest [] s)) ∧
    (takesRequests s r.port → formedRequest i r → a = .manager → s.tables.computer[r.port].manager = false →
      exec i s = .next (replied code r .noAuthority [] s)) ∧
    (takesRequests s r.port → formedRequest i r → a = .deposit → s.tables.computer[r.port].manager = false →
      s.tables.computer[r.port].mayDeposit = false → exec i s = .next (replied code r .noAuthority [] s))

/-- An ACTION request of a manager runs the action that a hotkey runs, with the same arguments and effects, after the
reply slot has been emptied, and is answered OK (R109, R168). TYPE_TEXT is refused with LOCKED while the console is
not UNLOCKED. The hotkey form of an action row is log entry 32. -/
def Obligations.ActionRequestRunsTheAction : Prop :=
  (∀ (row : ActionCall → Instr) (r : Request) (a1 a2 : Byte) (s : State),
    row ∈ Instr.typeText :: sharedActions → takesRequests s r.port → s.tables.computer[r.port].manager = true →
    r.length = 3 → r.params = [a1, a2] →
    (row = Instr.typeText → s.lock.state = .unlocked) →
    ∃ t, exec (row (.hotkey a1 a2)) (s.modPort r.port fun p => { p with slot := .empty }) = .next t ∧
      exec (row (.request r)) s = .next (replied 4 r .ok [] t)) ∧
  (∀ (r : Request) (a1 a2 : Byte) (s : State), takesRequests s r.port → s.tables.computer[r.port].manager = true →
    r.length = 3 → r.params = [a1, a2] → s.lock.state ≠ .unlocked →
    exec (.typeText (.request r)) s = .next (replied 4 r .locked [] s))

/-- An event of kind e enters the summary of every manager and of no other computer (R171). A notification is sent at a
port whose set of kinds in both summary and mask goes from empty to non-empty while its link is READY, replacing one not
yet taken (R172). Nothing else changes. -/
def Obligations.RaisingAnEventReachesEveryManager : Prop :=
  ∀ (e : EventKind) (s : State),
    tookEvent e s (raise e s) ∧
    (∀ n : Computer, (raise e s).ports[n] =
      if s.mgmt.summaries[n] &&& s.mgmt.masks[n] = 0 ∧ (raise e s).mgmt.summaries[n] &&& s.mgmt.masks[n] ≠ 0 ∧
          s.ports[n].link = .ready then
        { s.ports[n] with
          notification := some ⟨(raise e s).mgmt.summaries[n] &&& s.mgmt.masks[n], s.mgmt.generation⟩ }
      else s.ports[n]) ∧
    raise e s =
      { s with mgmt := { s.mgmt with summaries := (raise e s).mgmt.summaries }, ports := (raise e s).ports }

/-! ### The table and status commands -/

/-- A table entry read out and written back is the entry: for every table that can be read, the entry's bytes have the
table's entry size, and parsing them gives the entry again, with no number clamped. An unlock sequence written out by 11.2
is parsed as that sequence. -/
def Obligations.TableEntriesReadBack : Prop :=
  (∀ e : ComputerEntry, e.Ok → e.bytes.length = 12 ∧ parseComputer e.bytes = some e) ∧
  (∀ o : Options, o.Ok → o.bytes.length = 18 ∧ parseOptions o.bytes = some (o, false)) ∧
  (∀ e : LayoutEntry, e.Ok → e.bytes.length = 14 ∧ parseLayout e.bytes = some e) ∧
  (∀ a : Assignment, a.bytes.length = 5 ∧ parseAssignment a.bytes = some a) ∧
  (∀ e : ChannelEntry, e.Ok → e.bytes.length = 5 ∧ parseChannel e.bytes = some e) ∧
  (∀ e : PointerEntry, e.Ok → e.bytes.length = 3 ∧ parsePointer e.bytes = some e) ∧
  (∀ e : HotkeyEntry, e.Ok → e.bytes.length = 10 ∧ parseHotkey e.bytes = some e) ∧
  (∀ e : TransEntry, e.key ≤ 255 → e.bytes.length = 2 ∧ parseTranslation e.bytes = some e) ∧
  (∀ q : List Nat, sequenceOk q →
    parseUnlock (byte q.length :: q.map byte ++ List.replicate (16 - q.length) 0) = some (some q)) ∧
  parseUnlock (List.replicate 17 0) = some none

/-- STATUS is answered OK with a record of 456 bytes that gives the state at the offsets of 11.3: the desk-wide fields, the
mailbox, the alert entries, each screen, each channel and each port, reserved bytes being 0. It changes nothing but the reply
slot. The rotation order has its eight computers (R139), and at most eight alert entries are listed (R135). -/
def Obligations.StatusReportsTheState : Prop :=
  ∀ (r : Request) (s : State), takesRequests s r.port → formedRequest (.status r) r → s.alerts.rotation.length = 8 →
    ∃ R : List Byte, exec (.status r) s = .next (replied 1 r .ok R s) ∧ R.length = 456 ∧
      let two := fun (o n : Nat) => R[o]? = some (byte n) ∧ R[o + 1]? = some (byte (n / 256))
      let mail := s.typeout
      (R[0]? = some s.mgmt.source.code ∧ R[1]? = some (boolByte s.mgmt.saving.isSome) ∧
        R[2]? = some s.mgmt.lastSave.code ∧ two 4 s.mgmt.freezeSet.toNat ∧ R[6]? = some (byte s.mgmt.generation) ∧
        R[7]? = some s.lock.state.code ∧ R[8]? = some (byte s.lock.failures) ∧
        R[9]? = some (boolByte s.tables.unlock.isSome) ∧ R[10]? = some (boolByte s.matcher.commandMode) ∧
        R[11]? = some (numByte s.focus.focus) ∧ R[12]? = some (numByte s.focus.previous) ∧
        R[13]? = some s.focus.mode.code ∧
        (∃ b : Byte, R[14]? = some b ∧ ∀ n : Computer, b.getLsbD n.val = s.focus.broadcast[n]) ∧
        R[15]? = some (numByte (s.glide.seat.map Seat.screen)) ∧
        R[16]? = some (byte ((s.glide.seat.map fun t => t.quad.val).getD 0)) ∧
        two 18 (s.glide.px / 16) ∧ two 20 (s.glide.py / 16) ∧
        (∀ c : ConsoleNo, R[22 + c.val]? = some s.console.ports[c].code)) ∧
      (R[26]? = some mail.state.code ∧ R[27]? = some (subCode mail.sub) ∧ two 28 mail.text.length ∧
        R[30]? = some (numByte mail.depositor) ∧ R[31]? = some (numByte mail.target) ∧ two 32 mail.index ∧
        two 34 mail.typed ∧ two 36 mail.skipped ∧
        R[38]? = some ((mail.outcome.map fun o => o.ending.code).getD 0) ∧
        two 40 ((mail.outcome.map TypeOutcome.typed).getD 0) ∧ two 42 ((mail.outcome.map TypeOutcome.skipped).getD 0)) ∧
      (R[44]? = some (byte s.alerts.list.length) ∧
        (∀ i : Fin 8, R[45 + i.val]? = s.alerts.rotation[i.val]?.map fun n => byte (num n)) ∧
        ∀ i : Fin 8,
          R[53 + 2 * i.val]? = some ((s.alerts.list[i.val]?.map fun e => byte (num e.computer)).getD 0) ∧
          R[54 + 2 * i.val]? = some ((s.alerts.list[i.val]?.map AlertEntry.code).getD 0)) ∧
      (∀ sc : ScreenNo,
        R[72 + 12 * sc.val]? = some (boolByte s.screens[sc].attached) ∧
        R[73 + 12 * sc.val]? = some (boolByte s.screens[sc].peek.isSome) ∧
        two (74 + 12 * sc.val) s.screens[sc].native.1 ∧ two (76 + 12 * sc.val) s.screens[sc].native.2 ∧
        (∀ i : Fin 5, R[78 + 12 * sc.val + i.val]? = s.screens[sc].displayed.bytes[i.val]?) ∧
        R[83 + 12 * sc.val]? = some 0) ∧
      (∀ c : Channel,
        R[168 + 10 * c.val]? = some s.channels[c].state.code ∧ R[169 + 10 * c.val]? = some 0 ∧
        two (170 + 10 * c.val) ((s.channels[c].timing.map Timing.width).getD 0) ∧
        two (172 + 10 * c.val) ((s.channels[c].timing.map Timing.height).getD 0) ∧
        two (174 + 10 * c.val) ((s.channels[c].timing.map Timing.refresh).getD 0) ∧
        two (176 + 10 * c.val) ((s.channels[c].timing.map Timing.refresh).getD 0 / 65536)) ∧
      (∀ n : Computer,
        R[328 + 16 * n.val]? = some s.ports[n].link.code ∧
        R[329 + 16 * n.val]? = some (boolByte s.ports[n].remoteWake) ∧
        R[330 + 16 * n.val]? = some s.ports[n].lastWake.code ∧
        R[331 + 16 * n.val]? = some (byte s.ports[n].keyQueue.length) ∧
        R[332 + 16 * n.val]? = some (byte s.ports[n].pointerQueue.length) ∧
        R[333 + 16 * n.val]? = some (byte s.ports[n].pendingKeys.length) ∧
        two (334 + 16 * n.val) 0 ∧ two (336 + 16 * n.val) s.ports[n].keyOverruns ∧
        two (338 + 16 * n.val) s.ports[n].pointerOverruns ∧ two (340 + 16 * n.val) s.ports[n].pressesDropped ∧
        two (342 + 16 * n.val) s.ports[n].wakesFailed) ∧
      ∀ o ∈ [3, 17, 39, 69, 70, 71], R[o]? = some 0

/-- TABLE_READ returns entries in index order from the first index, stopping before the first that cannot be read:
past the end of the table, at index 0, or the unlock sequence. A count of 0 asks for up to 16. UNREADABLE with none
returned when the first cannot be read, PARTIAL when fewer than a count from 1 to 16 are returned, OK otherwise
(R164). The three result bytes of an UNREADABLE reply are log entry 22. -/
def Obligations.TableReadReturnsEntries : Prop :=
  ∀ (r : Request) (s : State) (b : Byte) (table : TableId) (first count : Byte), takesRequests s r.port →
    lengthAgrees r 0 → r.params = [b, first, count] → tableOf b = some table → count.toNat ≤ 16 →
    (first.toNat = 0 ∨ table.count < first.toNat ∨ table = .unlock →
      exec (.tableRead r) s = .next (replied 2 r .unreadable [b, first, 0] s)) ∧
    (1 ≤ first.toNat → first.toNat ≤ table.count → table ≠ .unlock →
      ∃ entries : List (List Byte),
        entries.length = min (if count.toNat = 0 then 16 else count.toNat) (table.count + 1 - first.toNat) ∧
        (∀ i, i < entries.length → readEntry s.tables table (first.toNat + i) = entries[i]?) ∧
        exec (.tableRead r) s =
          .next (replied 2 r (if entries.length < count.toNat then .partialRead else .ok)
            ([b, first, byte entries.length] ++ entries.flatten) s))

/-- A formed TABLE_WRITE of a manager is refused, with nothing changed but the reply slot, by the first of these checks
that fails: BUSY while a save is in flight, FROZEN for a table of the freeze set, STALE for an expected generation that
is not the counter's, BAD_INDEX for an index outside the table. BAD_VALUE then refuses these: a gain of 0 in any entry
(R50); an unlock sequence of 1 to 3 or more than 16 keys, one with key 0, and the removal of the sequence from a locked
console (R114); a computer table that would be left without a manager (R162); a hotkey entry with a reserved enabled,
kind, requirement or action code, or enabled without a key (R94); a layout entry with a number outside its range or one
native size 0, and layout entries that make an enabled screen leave the desk or two of them overlap (R45, R46; R165).
That a disabled layout entry with one native size 0 is refused is log entry 39. -/
def Obligations.TableWriteIsRefusedInOrder : Prop :=
  ∀ (r : Request) (s : State) (b first count : Byte) (data : List Byte) (table : TableId), takesRequests s r.port →
    s.tables.computer[r.port].manager = true → formedRequest (.tableWrite r) r →
    r.params = b :: first :: count :: data → tableOf b = some table →
    let stale := bit r.flags 0 = true ∧ r.expected.toNat ≠ s.mgmt.generation
    let inside := 1 ≤ first.toNat ∧ first.toNat + count.toNat ≤ table.count + 1
    let frozen := s.mgmt.freezeSet.getLsbD (table.code - 1) = true
    (s.mgmt.saving.isSome = true → exec (.tableWrite r) s = .next (replied 3 r .busy [] s)) ∧
    (s.mgmt.saving = none → frozen → exec (.tableWrite r) s = .next (replied 3 r .frozen [] s)) ∧
    (s.mgmt.saving = none → ¬ frozen → stale → exec (.tableWrite r) s = .next (replied 3 r .stale [] s)) ∧
    (s.mgmt.saving = none → ¬ frozen → ¬ stale → ¬ inside →
      exec (.tableWrite r) s = .next (replied 3 r .badIndex [] s)) ∧
    (s.mgmt.saving = none → ¬ frozen → ¬ stale → inside →
      (table = .pointer ∧ ∃ i, i < count.toNat ∧ data[3 * i]? = some 0) ∨
        (table = .unlock ∧ ∃ (len : Byte) (keys : List Byte), data = len :: keys ∧
          ((len = 0 ∧ s.lock.state ≠ .unlocked) ∨ (1 ≤ len.toNat ∧ len.toNat ≤ 3) ∨ 16 < len.toNat ∨
            0 ∈ keys.take len.toNat)) ∨
        (table = .computer ∧ ∀ n : Computer,
          (first.toNat ≤ num n → num n < first.toNat + count.toNat → data[12 * (num n - first.toNat)]? = some 0) ∧
          (num n < first.toNat ∨ first.toNat + count.toNat ≤ num n → s.tables.computer[n].manager = false)) ∨
        (table = .hotkey ∧ ∃ i, i < count.toNat ∧ ∃ en kind ctrl shift alt gui key action a1 a2 : Byte,
          (data.drop (10 * i)).take 10 = [en, kind, ctrl, shift, alt, gui, key, action, a1, a2] ∧
          (1 < en.toNat ∨ 2 < kind.toNat ∨ (∃ x ∈ [ctrl, shift, alt, gui], 4 < x.toNat) ∨ 16 < action.toNat ∨
            (en = 1 ∧ key = 0))) ∨
        (table = .layout ∧ ∃ (l : List LayoutEntry) (w : Vector LayoutEntry 8), l.length = count.toNat ∧
          data = (l.map LayoutEntry.bytes).flatten ∧ rewritten first l s.tables.layout w ∧
          (∀ e ∈ l, ∀ x ∈ [e.x, e.y, e.w, e.h, e.nativeW, e.nativeH], x < 65536) ∧
          ((∃ e ∈ l, ¬ e.Ok) ∨
            (∃ a : ScreenNo, w[a].enabled = true ∧ (32768 < w[a].x + w[a].w ∨ 32768 < w[a].y + w[a].h)) ∨
            ∃ a b : ScreenNo, a ≠ b ∧ w[a].enabled = true ∧ w[b].enabled = true ∧
              w[a].x < w[b].x + w[b].w ∧ w[b].x < w[a].x + w[a].w ∧
              w[a].y < w[b].y + w[b].h ∧ w[b].y < w[a].y + w[a].h)) →
      exec (.tableWrite r) s = .next (replied 3 r .badValue [] s))

/-- A TABLE_WRITE of valid entries that passes the checks is answered OK: the entries take their new values, the
generation counter advances by 1 (from 63 to 1), and TABLE is raised, once each for the write. Preset, pointer device
and translation entries do nothing else, nor do computer, options and channel entries that keep the fields other blocks
act on at once. A write of several computer entries goes through the eight computers in order: one that becomes parked
is withdrawn as PARK_TOGGLE does it, one unparked has its alert source evaluated afresh; the pointer is then re-seated
once; then each computer whose alert indicator or sense changed is evaluated afresh. Three clauses say what that makes
of one entry. An options number outside its range is clamped, which is answered OK_ADJUSTED, an invalid code refused
with BAD_VALUE. Hotkey entries clear the double-tap candidate, an unlock sequence sets progress to 0 in LOCKED, and an
empty one takes it away in UNLOCKED. Assignment entries are requested screen by screen: for the saved base of a peek, a
display's pending assignment, or a screen with neither, at once, with its frame kinds and a re-seat. Layout entries set
every native size and re-seat the pointer, a changed channel owner re-seats it too, and that and a changed focus frame
option have the frame kinds computed anew (R32, R33, R45, R68, R72, R82, R89, R92, R114, R134, R163, R165 to R167). That
the evaluation comes before the re-seat when a write unparks is log entry 13, the clamped initial focus 31, the re-seats
of several assignment entries 40, the ascending order of the evaluations 42. -/
def Obligations.TableWriteReplacesEntries : Prop :=
  ∀ (r : Request) (s : State) (first : Byte), takesRequests s r.port →
    s.tables.computer[r.port].manager = true → s.mgmt.saving = none →
    ¬ (bit r.flags 0 = true ∧ r.expected.toNat ≠ s.mgmt.generation) → r.length.toNat = r.params.length →
    let done := fun (tb : Tables) =>
      raise .table { s with
        tables := tb
        mgmt := { s.mgmt with generation := if 63 ≤ s.mgmt.generation then 1 else s.mgmt.generation + 1 } }
    let names := fun (table : TableId) (entries : List (List Byte)) =>
      1 ≤ entries.length ∧ entries.length ≤ 4 ∧ 1 ≤ first.toNat ∧ first.toNat + entries.length ≤ table.count + 1 ∧
      r.params = byte table.code :: first :: byte entries.length :: entries.flatten ∧
      s.mgmt.freezeSet.getLsbD (table.code - 1) = false
    (∀ (l : List Assignment) (w : Vector Assignment 32), names .preset (l.map Assignment.bytes) →
      rewritten first l s.tables.preset w →
      exec (.tableWrite r) s = .next (replied 3 r .ok [] (done { s.tables with preset := w }))) ∧
    (∀ (l : List PointerEntry) (w : Vector PointerEntry 4), (∀ e ∈ l, e.Ok) → names .pointer (l.map PointerEntry.bytes) →
      rewritten first l s.tables.pointer w →
      exec (.tableWrite r) s = .next (replied 3 r .ok [] (done { s.tables with pointer := w }))) ∧
    (∀ (l : List TransEntry) (w : Vector TransEntry 97), (∀ e ∈ l, e.key ≤ 255) →
      names .translation (l.map TransEntry.bytes) → rewritten first l s.tables.translation w →
      exec (.tableWrite r) s = .next (replied 3 r .ok [] (done { s.tables with translation := w }))) ∧
    (∀ (l : List HotkeyEntry) (w : Vector HotkeyEntry 32), (∀ e ∈ l, e.Ok) → names .hotkey (l.map HotkeyEntry.bytes) →
      rewritten first l s.tables.hotkey w →
      exec (.tableWrite r) s =
        .next (replied 3 r .ok []
          { done { s.tables with hotkey := w } with matcher := { s.matcher with candidate := none } })) ∧
    (∀ (l : List ComputerEntry) (w : Vector ComputerEntry 8), (∀ e ∈ l, e.Ok) →
      names .computer (l.map ComputerEntry.bytes) → rewritten first l s.tables.computer w →
      (∃ n : Computer, w[n].manager = true) →
      let old := s.tables.computer
      let parks := ∃ n : Computer, w[n].parked ≠ old[n].parked
      let anew := computers.filter fun n =>
        decide (w[n].alertIndicator ≠ old[n].alertIndicator ∨ w[n].alertSense ≠ old[n].alertSense)
      ∃ a b c t : State, exec (.tableWrite r) s = .next (replied 3 r .ok [] t) ∧
        inOrder (parkedFollows s.tables) computers (done { s.tables with computer := w }) a ∧
        (¬ parks → b = a) ∧ (parks → reseated a b ∧ positionTold b ∧ b.tables = a.tables) ∧
        inOrder evaluatedAnew anew b c ∧ (¬ parks → t = c) ∧
        (parks → t = { c with screens := t.screens } ∧ screensKept c t ∧ framesAnew t)) ∧
    (∀ (n : Computer) (e : ComputerEntry), e.Ok → e.parked = s.tables.computer[n].parked →
      e.alertIndicator = s.tables.computer[n].alertIndicator → e.alertSense = s.tables.computer[n].alertSense →
      (e.manager = true ∨ ∃ m : Computer, m ≠ n ∧ s.tables.computer[m].manager = true) →
      r.params = 1 :: first :: 1 :: e.bytes → first.toNat = num n → s.mgmt.freezeSet.getLsbD 0 = false →
      exec (.tableWrite r) s =
        .next (replied 3 r .ok [] (done { s.tables with computer := s.tables.computer.set n e }))) ∧
    (∀ (n : Computer) (e : ComputerEntry), e.Ok →
      (e.manager = true ∨ ∃ m : Computer, m ≠ n ∧ s.tables.computer[m].manager = true) →
      r.params = 1 :: first :: 1 :: e.bytes → first.toNat = num n → s.mgmt.freezeSet.getLsbD 0 = false →
      let old := s.tables.computer[n]
      let anew := e.alertIndicator ≠ old.alertIndicator ∨ e.alertSense ≠ old.alertSense
      let table := fun (x : ComputerEntry) => { s.tables with computer := s.tables.computer.set n x }
      let known := s.alerts.sources[n].known
      let lamps := s.ports[n].indicators
      let judged := s.alerts.sources.set n ⟨known, lampCalls e known lamps⟩
      let fresh := freshEntries n e known lamps
      (e.parked = old.parked → anew →
        ∃ t, exec (.tableWrite r) s = .next (replied 3 r .ok [] t) ∧
          t = { done (table e) with alerts := t.alerts, screens := t.screens, mgmt := t.mgmt, ports := t.ports } ∧
          t.mgmt = { (done (table e)).mgmt with summaries := t.mgmt.summaries } ∧ announced .table t ∧ screensKept s t ∧
          t.alerts = { s.alerts with sources := judged, list := fresh s.alerts.list } ∧
          (fresh s.alerts.list ≠ s.alerts.list → announced .alert t ∧ framesAnew t) ∧
          (fresh s.alerts.list = s.alerts.list → t.screens = s.screens)) ∧
      (old.parked = true → e.parked = false →
        ∃ t, exec (.tableWrite r) s = .next (replied 3 r .ok [] t) ∧ t.tables = table e ∧
          t.mgmt.generation = (done s.tables).mgmt.generation ∧ announced .table t ∧ reseated s t ∧ positionTold t ∧
          framesAnew t ∧ screensKept s t ∧ t.focus.broadcast = s.focus.broadcast ∧ t.alerts.sources = judged ∧
          t.alerts.rotation = s.alerts.rotation ∧
          (t.focus.focus = s.focus.focus → t.alerts.list = fresh s.alerts.list) ∧
          (∀ m : Computer, t.focus.focus = some m → s.focus.focus ≠ some m →
            let seen := (fresh s.alerts.list).filter fun x => !decide (x.computer = m ∧ x.kind = .latched)
            (¬ anew → t.alerts.list = seen) ∧ (anew → t.alerts.list = fresh seen)) ∧
          t.lock = s.lock ∧ t.channels = s.channels ∧ t.console.deskKeys = s.console.deskKeys) ∧
      (old.parked = false → e.parked = true →
        ∃ t, exec (.parkToggle (.hotkey first 0)) { s with tables := table { e with parked := false } } = .next t ∧
          exec (.tableWrite r) s = .next (replied 3 r .ok []
            { t with alerts := { t.alerts with sources := if anew then judged else s.alerts.sources } }))) ∧
    (∀ o : Options, o.Ok → o.focusFrame = s.tables.options.focusFrame → r.params = 2 :: first :: 1 :: o.bytes →
      first = 1 → s.mgmt.freezeSet.getLsbD 1 = false →
      exec (.tableWrite r) s = .next (replied 3 r .ok [] (done { s.tables with options := o }))) ∧
    (∀ o : Options, o.Ok → o.focusFrame ≠ s.tables.options.focusFrame → r.params = 2 :: first :: 1 :: o.bytes →
      first = 1 → s.mgmt.freezeSet.getLsbD 1 = false →
      ∃ t, exec (.tableWrite r) s = .next (replied 3 r .ok [] t) ∧
        t = { done { s.tables with options := o } with screens := t.screens } ∧ screensKept s t ∧ framesAnew t) ∧
    (∀ d0 d1 c0 c1 pd wa w0 w1 s0 s1 tp wf wg wi ap ff fc sl : Byte,
      r.params = [2, first, 1, d0, d1, c0, c1, pd, wa, w0, w1, s0, s1, tp, wf, wg, wi, ap, ff, fc, sl] → first = 1 →
      s.mgmt.freezeSet.getLsbD 1 = false →
      let coded := ap.toNat ≤ 2 ∧ ∀ x ∈ [wf, wg, wi, ff, sl], x.toNat ≤ 1
      let within := fun (lo hi x : Nat) => max lo (min hi x)
      (¬ coded → exec (.tableWrite r) s = .next (replied 3 r .badValue [] s)) ∧
      (coded →
        ∃ (o : Options) (t : State),
          o.doubleTapWindow = within 150 1000 (word d0 d1) ∧ o.commandTimeout = within 500 10000 (word c0 c1) ∧
          o.peekDuration = within 1 60 pd.toNat ∧ o.wakeAttempts = within 1 8 wa.toNat ∧
          o.wakeWindow = within 100 2000 (word w0 w1) ∧ o.wakeAllStagger = within 0 2000 (word s0 s1) ∧
          o.typePacing = within 8 128 tp.toNat ∧ numOr0 o.initialFocus = within 0 8 fc.toNat ∧
          boolByte o.wakeOnFocus = wf ∧ boolByte o.wakeOnGlide = wg ∧ boolByte o.wakeOnInput = wi ∧
          o.alertPolicy.code = ap ∧ boolByte o.focusFrame = ff ∧ boolByte o.startLocked = sl ∧
          t = { done { s.tables with options := o } with screens := t.screens } ∧ screensKept s t ∧
          (o.focusFrame = s.tables.options.focusFrame → t.screens = s.screens) ∧
          (o.focusFrame ≠ s.tables.options.focusFrame → framesAnew t) ∧
          (o.bytes = r.params.drop 3 → exec (.tableWrite r) s = .next (replied 3 r .ok [] t)) ∧
          (o.bytes ≠ r.params.drop 3 → exec (.tableWrite r) s = .next (replied 3 r .okAdjusted [] t)))) ∧
    (∀ (l : List LayoutEntry) (w : Vector LayoutEntry 8), (∀ e ∈ l, e.Ok) → names .layout (l.map LayoutEntry.bytes) →
      rewritten first l s.tables.layout w → layoutValid w = true →
      ∃ t, exec (.tableWrite r) s = .next (replied 3 r .ok [] t) ∧ t.tables = { s.tables with layout := w } ∧
        t.mgmt.generation = (done s.tables).mgmt.generation ∧ announced .table t ∧
        (∀ x : ScreenNo, t.screens[x].native =
          (if w[x].nativeW ≠ 0 ∧ w[x].nativeH ≠ 0 then (w[x].nativeW, w[x].nativeH)
            else s.screens[x].reported.getD (w[x].w, w[x].h)) ∧
          t.screens[x].attached = s.screens[x].attached ∧ t.screens[x].displayed = s.screens[x].displayed ∧
          t.screens[x].pendingAssignment = s.screens[x].pendingAssignment ∧ t.screens[x].peek = s.screens[x].peek ∧
          (w[x].enabled ≠ s.tables.layout[x].enabled → screenAnew x t) ∧
          (w[x].enabled = s.tables.layout[x].enabled → t.focus.focus = s.focus.focus → framesKept x s t)) ∧
        reseated s t ∧ positionTold t ∧ t.lock = s.lock ∧ t.channels = s.channels ∧
        t.console.deskKeys = s.console.deskKeys) ∧
    (∀ (l : List Assignment) (w : Vector Assignment 8), names .assignment (l.map Assignment.bytes) →
      rewritten first l s.tables.assignment w →
      let written := screenNos.filter fun sc => decide (first.toNat ≤ num sc ∧ num sc < first.toNat + l.length)
      ∃ t, exec (.tableWrite r) s = .next (replied 3 r .ok [] t) ∧ announced .table t ∧
        inOrder (fun sc => requestedAt sc w[sc]) written (done { s.tables with assignment := w }) t) ∧
    (∀ (l : List ChannelEntry) (w : Vector ChannelEntry 16), (∀ e ∈ l, e.Ok) → names .channel (l.map ChannelEntry.bytes) →
      rewritten first l s.tables.channel w →
      ((∀ c : Channel, w[c].owner = s.tables.channel[c].owner) →
        exec (.tableWrite r) s = .next (replied 3 r .ok [] (done { s.tables with channel := w }))) ∧
      ((∃ c : Channel, w[c].owner ≠ s.tables.channel[c].owner) →
        ∃ t, exec (.tableWrite r) s = .next (replied 3 r .ok [] t) ∧ t.tables = { s.tables with channel := w } ∧
          t.mgmt.generation = (done s.tables).mgmt.generation ∧ announced .table t ∧ reseated s t ∧ positionTold t ∧
          screensKept s t ∧ framesAnew t ∧ t.lock = s.lock ∧ t.channels = s.channels ∧
          t.console.deskKeys = s.console.deskKeys)) ∧
    (∀ (q : List Nat) (rest : List Byte), sequenceOk q → q.length + rest.length = 16 →
      names .unlock [byte q.length :: q.map byte ++ rest] →
      exec (.tableWrite r) s =
        .next (replied 3 r .ok []
          { done { s.tables with unlock := some q } with
            lock := { s.lock with progress := if s.lock.state = .locked then 0 else s.lock.progress } })) ∧
    (∀ rest : List Byte, rest.length = 16 → names .unlock [0 :: rest] → s.lock.state = .unlocked →
      exec (.tableWrite r) s = .next (replied 3 r .ok [] (done { s.tables with unlock := none })))

/-! ### The other management commands -/

/-- The mailbox takes DEPOSIT_TEXT and CLEAR_TEXT of a computer with deposit authority in EMPTY and HELD and refuses both
with BUSY in TYPING; a text of 1 to 256 characters, each 9, 10 or 32 to 126, is held, any other refused with BAD_VALUE. An
accepted request raises TYPEOUT (R122). -/
def Obligations.MailboxTakesTexts : Prop :=
  ∀ (r : Request) (s : State), takesRequests s r.port →
    s.tables.computer[r.port].manager = true ∨ s.tables.computer[r.port].mayDeposit = true →
    (formedRequest (.depositText r) r →
      let text := r.params.map BitVec.toNat
      let valid := 1 ≤ text.length ∧ text.length ≤ 256 ∧ ∀ c ∈ text, c = 9 ∨ c = 10 ∨ (32 ≤ c ∧ c ≤ 126)
      (s.typeout.state = .typing → exec (.depositText r) s = .next (replied 5 r .busy [] s)) ∧
      (s.typeout.state ≠ .typing → ¬ valid → exec (.depositText r) s = .next (replied 5 r .badValue [] s)) ∧
      (s.typeout.state ≠ .typing → valid → exec (.depositText r) s =
        .next (replied 5 r .ok [] (raise .typeout
          { s with typeout := ⟨.held, none, text, some r.port, none, 0, 0, 0, none, s.typeout.outcome⟩ })))) ∧
    (formedRequest (.clearText r) r →
      (s.typeout.state = .typing → exec (.clearText r) s = .next (replied 6 r .busy [] s)) ∧
      (s.typeout.state ≠ .typing → exec (.clearText r) s =
        .next (replied 6 r .ok [] (raise .typeout
          { s with typeout := { s.typeout with state := .empty, text := [], depositor := none } }))))

/-- RAISE_ALERT appends a LATCHED SERVICE entry for an unparked computer without one, makes a LEVEL INDICATOR entry LATCHED
SERVICE in its place, and else changes nothing; WITHDRAW_ALERT removes the computer's entry, whatever it is. Both are
answered OK, a change raises ALERT and has the frame kinds computed anew, and the source records, the focus record and the
tables stay (R89, R135, R136). -/
def Obligations.AlertRequestsChangeOwnEntry : Prop :=
  ∀ (r : Request) (s : State), takesRequests s r.port →
    (formedRequest (.raiseAlert r) r →
      (s.tables.computer[r.port].parked = true → exec (.raiseAlert r) s = .next (replied 7 r .ok [] s)) ∧
      (∀ raised, (⟨r.port, .latched, raised⟩ : AlertEntry) ∈ s.alerts.list →
        (s.alerts.list.map AlertEntry.computer).Nodup → exec (.raiseAlert r) s = .next (replied 7 r .ok [] s)) ∧
      (s.tables.computer[r.port].parked = false → (∀ e ∈ s.alerts.list, e.computer ≠ r.port) →
        ∃ t, exec (.raiseAlert r) s = .next (replied 7 r .ok [] t) ∧
          t.alerts = { s.alerts with list := s.alerts.list ++ [⟨r.port, .latched, .service⟩] } ∧
          tookEvent .alert s t ∧ framesAnew t ∧ t.focus = s.focus ∧ t.tables = s.tables ∧ t.glide = s.glide) ∧
      (∀ l1 l2, s.tables.computer[r.port].parked = false → s.alerts.list = l1 ++ ⟨r.port, .level, .indicator⟩ :: l2 →
        (s.alerts.list.map AlertEntry.computer).Nodup →
        ∃ t, exec (.raiseAlert r) s = .next (replied 7 r .ok [] t) ∧
          t.alerts = { s.alerts with list := l1 ++ ⟨r.port, .latched, .service⟩ :: l2 } ∧
          tookEvent .alert s t ∧ framesAnew t ∧ t.focus = s.focus ∧ t.tables = s.tables ∧ t.glide = s.glide)) ∧
    (formedRequest (.withdrawAlert r) r →
      ((∀ e ∈ s.alerts.list, e.computer ≠ r.port) → exec (.withdrawAlert r) s = .next (replied 8 r .ok [] s)) ∧
      (∀ e ∈ s.alerts.list, e.computer = r.port →
        ∃ t, exec (.withdrawAlert r) s = .next (replied 8 r .ok [] t) ∧
          t.alerts = { s.alerts with list := s.alerts.list.filter fun e => decide (e.computer ≠ r.port) } ∧
          tookEvent .alert s t ∧ framesAnew t ∧ t.focus = s.focus ∧ t.tables = s.tables ∧ t.glide = s.glide))

/-- EVENTS of a manager is answered with its summary as it stood; the named kinds then leave that summary, and a mask given
replaces the requester's. FREEZE of a manager adds tables to the freeze set and is answered OK, raising no event and leaving
the generation. Neither touches another computer's summary or mask (R169, R171, R172). That EVENTS ignores bits 1 to 7 of its
flags byte is log entry 47. -/
def Obligations.EventsAndFreezeChangeTheirSets : Prop :=
  ∀ (r : Request) (s : State), takesRequests s r.port → s.tables.computer[r.port].manager = true →
    (∀ flags c0 c1 m0 m1 : Byte, lengthAgrees r 0 → r.params = [flags, c0, c1, m0, m1] → word c0 c1 < 512 →
      word m0 m1 < 512 →
      ∃ t, exec (.events r) s = .next (replied 9 r .ok (bytes2 s.mgmt.summaries[r.port].toNat) t) ∧
        t = { s with
          ports := t.ports
          mgmt := { s.mgmt with
            summaries := s.mgmt.summaries.set r.port
              (s.mgmt.summaries[r.port] &&& ~~~ (BitVec.ofNat 9 (word c0 c1)))
            masks := if bit flags 0 = true then s.mgmt.masks.set r.port (BitVec.ofNat 9 (word m0 m1))
              else s.mgmt.masks } } ∧
        (∀ n : Computer, n ≠ r.port → t.ports[n] = s.ports[n]) ∧
        t.ports[r.port] = { s.ports[r.port] with
          slot := t.ports[r.port].slot
          notification := t.ports[r.port].notification } ∧
        (s.ports[r.port].link = .stalled → t.ports[r.port].notification = s.ports[r.port].notification) ∧
        (s.ports[r.port].link = .ready → bit flags 0 = true →
          s.mgmt.summaries[r.port] &&& ~~~ (BitVec.ofNat 9 (word c0 c1)) &&& s.mgmt.masks[r.port] = 0 →
          s.mgmt.summaries[r.port] &&& ~~~ (BitVec.ofNat 9 (word c0 c1)) &&& BitVec.ofNat 9 (word m0 m1) ≠ 0 →
          t.ports[r.port].notification =
            some ⟨s.mgmt.summaries[r.port] &&& ~~~ (BitVec.ofNat 9 (word c0 c1)) &&& BitVec.ofNat 9 (word m0 m1),
              s.mgmt.generation⟩)) ∧
    (∀ t0 t1 : Byte, lengthAgrees r 0 → r.params = [t0, t1] → word t0 t1 < 1024 →
      exec (.freeze r) s =
        .next (replied 10 r .ok []
          { s with mgmt := { s.mgmt with freezeSet := s.mgmt.freezeSet ||| BitVec.ofNat 10 (word t0 t1) } }))

/-- A SAVE taken while none is in flight copies the tables into the image, leaves the store without a valid one, and sets
the requester's slot IN_PROGRESS; while one is in flight it is refused with BUSY. At completion the outcome is recorded, a
confirmed image stands in the store and a failed one leaves none, and the reply is written if the requester's slot still
holds the SAVE (R174). -/
def Obligations.SaveWritesOneImage : Prop :=
  (∀ (r : Request) (s : State), takesRequests s r.port → s.tables.computer[r.port].manager = true →
    formedRequest (.save r) r →
    (s.mgmt.saving.isSome = true → exec (.save r) s = .next (replied 11 r .busy [] s)) ∧
    (s.mgmt.saving = none → exec (.save r) s =
      .next { s with
        mgmt := { s.mgmt with saving := some ⟨r.port, s.tables⟩ }
        store := none
        ports := s.ports.set r.port { s.ports[r.port] with slot := .inProgress r.tag } })) ∧
  (∀ (confirmed : Bool) (s : State), s.mgmt.saving = none → exec (.saveCompletion confirmed) s = .next s) ∧
  (∀ (confirmed : Bool) (s : State) (sv : SaveInFlight), s.mgmt.saving = some sv →
    let st : Status := if confirmed then .ok else .storeFailed
    let t := { s with
      mgmt := { s.mgmt with saving := none, lastSave := if confirmed then .ok else .storeFailed }
      store := if confirmed then some sv.image else none }
    (∀ tag, s.ports[sv.requester].slot = .inProgress tag →
      exec (.saveCompletion confirmed) s =
        .next (t.modPort sv.requester fun p => { p with slot := .ready ⟨11, tag, st, s.mgmt.generation, []⟩ })) ∧
    ((∀ tag, s.ports[sv.requester].slot ≠ .inProgress tag) → exec (.saveCompletion confirmed) s = .next t))

/-- A reply read in READY or STALLED puts out the reply of a REPLY_READY slot and empties it; of an IN_PROGRESS or EMPTY
slot it puts out NOT_READY, with the held tag or tag 0, and leaves the slot (the command code 11 of the first is log entry
20). A notification take puts out the waiting notification, which then waits no longer. In another link state both are
ignored (R160, R172). That the state keeps the frames put out is log entry 5. -/
def Obligations.RepliesAndNotificationsAreCollected : Prop :=
  ∀ (p : Computer) (s : State),
    (¬ takesRequests s p → exec (.replyRead p) s = .next s ∧ exec (.notificationTake p) s = .next s) ∧
    (takesRequests s p →
      (∀ y : Reply, s.ports[p].slot = .ready y →
        exec (.replyRead p) s =
          .next (s.modPort p fun q => { q with slot := .empty, replyOut := some y.frame })) ∧
      (∀ tag, s.ports[p].slot = .inProgress tag →
        exec (.replyRead p) s =
          .next (s.modPort p fun q =>
            { q with replyOut := some [11, tag, Status.notReady.code, byte s.mgmt.generation, 0, 0] })) ∧
      (s.ports[p].slot = .empty →
        exec (.replyRead p) s =
          .next (s.modPort p fun q =>
            { q with replyOut := some [0, 0, Status.notReady.code, byte s.mgmt.generation, 0, 0] })) ∧
      (s.ports[p].notification = none → exec (.notificationTake p) s = .next s) ∧
      (∀ m : Notification, s.ports[p].notification = some m →
        exec (.notificationTake p) s =
          .next (s.modPort p fun q =>
            { q with notification := none, notificationOut := some (bytes2 m.kinds.toNat ++ [byte m.generation, 0]) })))

/-- DESK_RESET of a manager ends type-out, command mode, the candidate and every peek; empties every belief set, the
broadcast set, the remainder, the remembered positions and the wake-all list; restores the initial focus and seats the
pointer at the centre of the first live tile, or unseats it where it stands; refills the alert list in port order with the
conditions that hold; resets the rotation order and the counters; has the frame kinds computed anew; and is answered OK. It
keeps the tables, the generation, the freeze set, the save, the lock record, the masks, the channels, the console's sets and
those of its devices, the text and the other ports' slots (R173, R42, R67, R141). Focus, seat, mode and the link states are
stated where no peek is on a screen without a display, since the re-seat of such a screen comes after the seating (R92). -/
def Obligations.DeskResetRestoresTheDesk : Prop :=
  ∀ (r : Request) (s : State), takesRequests s r.port → s.tables.computer[r.port].manager = true →
    formedRequest (.deskReset r) r →
    ∃ t, exec (.deskReset r) s = .next (replied 12 r .ok [] t) ∧
      t.typeout.state ≠ .typing ∧ t.typeout.text = s.typeout.text ∧ t.matcher = ⟨false, none, none⟩ ∧
      (s.typeout.state = .typing →
        t.typeout.outcome = some ⟨.cancelledFocus, s.typeout.typed, s.typeout.skipped⟩) ∧
      (∀ sc : ScreenNo, t.screens[sc].peek = none) ∧
      (∀ n : Computer, t.focus.beliefs[n] = ⟨[], []⟩ ∧ t.focus.broadcast[n] = false ∧ t.glide.remembered[n] = none) ∧
      ((∀ sc : ScreenNo, s.screens[sc].peek.isSome = true → s.screens[sc].attached = true) →
        (∀ n, t.focus.focus = some n ↔ s.tables.options.initialFocus = some n ∧ s.tables.computer[n].parked = false) ∧
          t.focus.previous = none ∧ (∀ n : Computer, t.ports[n].link = s.ports[n].link) ∧
          (firstLive t = none → t.glide.px = s.glide.px ∧ t.glide.py = s.glide.py ∧ t.glide.seat = none ∧
            t.focus.mode = .detached) ∧
          ∀ tile n, firstLive t = some tile → liveOwner t tile = some n →
            (t.glide.px, t.glide.py) = tile.centre ∧ t.glide.seat = some ⟨tile.screen, tile.quad, n⟩ ∧
            t.focus.mode = if t.focus.focus = some n then .glide else .detached) ∧
      positionTold t ∧ framesAnew t ∧
      t.focus.rx = 0 ∧ t.focus.ry = 0 ∧ t.wakeAll = ⟨[], none⟩ ∧ t.alerts.rotation = computers ∧
      t.alerts.list = (computers.filter fun n => !s.tables.computer[n].parked &&
        alertCondition s.tables.computer[n] s.alerts.sources[n].known s.ports[n].indicators).map
          (fun n => ⟨n, s.tables.computer[n].alertKind, .indicator⟩) ∧
      (∀ n : Computer, t.ports[n].keyOverruns = 0 ∧ t.ports[n].pointerOverruns = 0 ∧ t.ports[n].pressesDropped = 0 ∧
        t.ports[n].wakesFailed = 0 ∧ (n ≠ r.port → t.ports[n].slot = s.ports[n].slot)) ∧
      announced .focus t ∧ t.tables = s.tables ∧ t.mgmt.generation = s.mgmt.generation ∧
      t.mgmt.freezeSet = s.mgmt.freezeSet ∧ t.mgmt.saving = s.mgmt.saving ∧ t.mgmt.lastSave = s.mgmt.lastSave ∧
      t.mgmt.masks = s.mgmt.masks ∧ t.lock = s.lock ∧ t.channels = s.channels ∧
      t.console.deskKeys = s.console.deskKeys ∧ t.console.deskButtons = s.console.deskButtons ∧
      ∀ c : ConsoleNo, t.console.ports[c].keys = s.console.ports[c].keys ∧
        t.console.ports[c].buttons = s.console.ports[c].buttons ∧ t.console.ports[c].code = s.console.ports[c].code

/-! ### The console input unit and the lock unit's filter -/

/-- A detach frees the port: what its device alone held leaves the desk states, and nothing else does. It does what a
report of an empty set from the device would do, told computers and the all-released mark with it, and the port is then
of no device (R4, R5; what such a report tells whom is KeyReportUpdatesDeskState and PressReachesReceivers, R15, R24,
R26). At an occupied port an attach is that detach and then the new device, of the class R2 gives it. When a keyboard
attaches, an output of the mirrored value starts at each keyboard, the new one among them, that shows something else and
has none in flight; its byte is the value's (R179). A detach at a free port is ignored (R2 to R5, R9, R12, R17). That a
hub is UNSUPPORTED whatever it declares is log entry 17, that the outputs at the other keyboards start too log entry 11,
the byte kept in the state log entry 5, that a detach's key releases reach the matcher's candidate log entry 41, the
order of its button releases log entry 44. -/
def Obligations.ConsoleDevicesComeAndGo : Prop :=
  (∀ (c : ConsoleNo) (s : State),
    (s.console.ports[c] = .none → exec (.consoleDetach c) s = .next s) ∧
    (s.console.ports[c] = .unsupported →
      exec (.consoleDetach c) s =
        .next { s with console := { s.console with ports := s.console.ports.set c .none } }) ∧
    ∃ t, exec (.consoleDetach c) s = .next t ∧ t.console.ports[c] = .none ∧
      (∀ d : ConsoleNo, d ≠ c → t.console.ports[d].keys = s.console.ports[d].keys ∧
        t.console.ports[d].buttons = s.console.ports[d].buttons ∧ t.console.ports[d].code = s.console.ports[d].code) ∧
      (∀ k, k ∈ t.console.deskKeys ↔ k ∈ s.console.deskKeys ∧
        (k ∉ s.console.ports[c].keys ∨ ∃ d : ConsoleNo, d ≠ c ∧ k ∈ s.console.ports[d].keys)) ∧
      (∀ b, b ∈ t.console.deskButtons ↔ b ∈ s.console.deskButtons ∧
        (b ∉ s.console.ports[c].buttons ∨ ∃ d : ConsoleNo, d ≠ c ∧ b ∈ s.console.ports[d].buttons)) ∧
      t.lock = s.lock ∧ t.tables = s.tables ∧ t.channels = s.channels ∧ t.store = s.store ∧ t.now = s.now ∧
      let freed := fun (u : State) => { u with console := { u.console with ports := u.console.ports.set c .none } }
      (∀ (o : List Nat) (shown : Indicators) (flight : Option Indicators) (r : KeyInput),
        s.console.ports[c] = .keyboard o shown flight → reduceKeys r = some [] →
        ∃ u, exec (.keyboardReport c r) s = .next u ∧ t = freed u) ∧
      ∀ (o : List Nat) (r : PointerInput), s.console.ports[c] = .pointer o → reduceButtons r = [] → motionless r →
        ∃ u, exec (.pointerReport c r) s = .next u ∧ t = freed u) ∧
  ∀ (c : ConsoleNo) (d : DeviceDescription) (s : State),
    let keyboard := d.usable = true ∧ d.hub = false ∧ d.keyboard = true
    let pointer := d.usable = true ∧ d.hub = false ∧ d.keyboard = false ∧ d.relativePointer = true
    ∃ t u, exec (.consoleDetach c) s = .next t ∧ exec (.consoleAttach c d) s = .next u ∧
      (keyboard →
        let seen := t.console.ports.set c (.keyboard [] Indicators.none none)
        let due := fun (e : ConsoleNo) => ∃ keys shown, seen[e] = .keyboard keys shown none ∧ shown ≠ t.console.mirrored
        u = { t with console := { t.console with ports := u.console.ports, outputs := u.console.outputs } } ∧
        ∀ e : ConsoleNo,
          (∀ keys shown, seen[e] = .keyboard keys shown none → shown ≠ t.console.mirrored →
            u.console.ports[e] = .keyboard keys shown (some t.console.mirrored) ∧
            u.console.outputs[e] = some t.console.mirrored.toByte) ∧
          (¬ due e → u.console.ports[e] = seen[e] ∧ u.console.outputs[e] = t.console.outputs[e])) ∧
      (pointer →
        u = { t with console := { t.console with ports := t.console.ports.set c (.pointer []) } }) ∧
      (¬ keyboard → ¬ pointer →
        u = { t with console := { t.console with ports := t.console.ports.set c .unsupported } })

/-- A key report is a rollover indication, and ignored, when it says so or holds more than 14 different keys that are
neither empty slots nor modifiers; otherwise its key set is the listed keys and the modifiers held, each once. A report from
a port that is not of the class the report belongs to is ignored (R6, R7, R14). -/
def Obligations.ReportsAreReducedOrIgnored : Prop :=
  (∀ r : KeyInput,
    (reduceKeys r = none ↔ r.rollover = true ∨ ∃ l : List Nat, l.Nodup ∧ 14 < l.length ∧
      ∀ k ∈ l, k ≠ 0 ∧ ¬ (224 ≤ k ∧ k ≤ 231) ∧ ∃ b ∈ r.keys, b.toNat = k) ∧
    ∀ n, reduceKeys r = some n → n.Pairwise (· < ·) ∧ ∀ k, k ∈ n ↔
      (k ≠ 0 ∧ ∃ b ∈ r.keys, b.toNat = k) ∨ (224 ≤ k ∧ k ≤ 231 ∧ r.modifiers.getLsbD (k - 224) = true)) ∧
  (∀ (c : ConsoleNo) (r : KeyInput) (s : State), reduceKeys r = none → exec (.keyboardReport c r) s = .next s) ∧
  (∀ (c : ConsoleNo) (r : KeyInput) (s : State), (∀ o shown flight, s.console.ports[c] ≠ .keyboard o shown flight) →
    exec (.keyboardReport c r) s = .next s) ∧
  (∀ (c : ConsoleNo) (r : PointerInput) (s : State), (∀ o, s.console.ports[c] ≠ .pointer o) →
    exec (.pointerReport c r) s = .next s)

/-- A key set `n` from a keyboard whose last key set was `o` becomes its last key set; a key it lost leaves the desk key
state unless another keyboard holds it, a key it gained enters, and no other key's state changes (R8, R9). Whatever the
events lead to, the other devices' sets, the desk buttons, the channels, the store and the clock stay. A report with
several changes does what the report of the first of them does and then the report of the rest: releases before presses,
modifiers last among the releases and first among the presses, each group ascending (R8; keys 232 to 255 go with the
keys below 224, log entry 37). A pointer report with several items does so too: button releases ascending, then motion
and wheel, then button presses ascending (R13). A report without any does nothing. A release of a key or of a button
that leaves both desk states empty is marked, whatever the lock state: in HELD it leads to GLIDE, with a focus change
when the pointer lies on another computer's tile, and a type-out that waits for a release becomes ACTIVE (R12, R15, R37,
R38, R115, R126); that the press of its first character is a step of its own is log entry 7. -/
def Obligations.KeyReportUpdatesDeskState : Prop :=
  (∀ (c : ConsoleNo) (r : KeyInput) (s : State) (o n : List Nat) (shown : Indicators) (flight : Option Indicators),
    s.console.ports[c] = .keyboard o shown flight → reduceKeys r = some n →
    ∃ t, exec (.keyboardReport c r) s = .next t ∧ t.console.ports[c].keys = n ∧
      (∀ k, k ∈ t.console.deskKeys ↔ (k ∈ n ∧ k ∉ o) ∨
        (k ∈ s.console.deskKeys ∧ (k ∈ n ∨ k ∉ o ∨ ∃ d : ConsoleNo, d ≠ c ∧ k ∈ s.console.ports[d].keys))) ∧
      (∀ d : ConsoleNo, d ≠ c → t.console.ports[d].keys = s.console.ports[d].keys) ∧
      (∀ d : ConsoleNo, t.console.ports[d].buttons = s.console.ports[d].buttons ∧
        t.console.ports[d].code = s.console.ports[d].code) ∧
      t.console.deskButtons = s.console.deskButtons ∧ t.channels = s.channels ∧ t.store = s.store ∧ t.now = s.now) ∧
  (∀ (c : ConsoleNo) (r r1 : KeyInput) (s : State) (o n m : List Nat) (shown : Indicators) (flight : Option Indicators),
    s.console.ports[c] = .keyboard o shown flight → o.Pairwise (· < ·) → reduceKeys r = some n →
    (n = o → exec (.keyboardReport c r) s = .next s) ∧
    (reduceKeys r1 = some m → firstKeyChange o n m →
      ∃ u, exec (.keyboardReport c r1) s = .next u ∧ exec (.keyboardReport c r) s = exec (.keyboardReport c r) u)) ∧
  (∀ (c : ConsoleNo) (r r1 : PointerInput) (s : State) (o : List Nat), s.console.ports[c] = .pointer o →
    o.Pairwise (· < ·) →
    let n := reduceButtons r
    let first := fun (i j : PointerInput) =>
      ∃ u, exec (.pointerReport c i) s = .next u ∧ exec (.pointerReport c r) s = exec (.pointerReport c j) u
    (∀ b ∈ o, b ∉ n → (∀ x ∈ o, x ∉ n → b ≤ x) → reduceButtons r1 = o.filter (fun x => decide (x ≠ b)) →
      motionless r1 → first r1 r) ∧
    ((∀ x ∈ o, x ∈ n) → ¬ motionless r → reduceButtons r1 = o → r1.dx = r.dx → r1.dy = r.dy → r1.wheel = r.wheel →
      first r1 { r with dx := 0, dy := 0, wheel := 0 }) ∧
    ((∀ x ∈ o, x ∈ n) → motionless r → n = o → exec (.pointerReport c r) s = .next s) ∧
    (∀ b ∈ n, (∀ x ∈ o, x ∈ n) → motionless r → b ∉ o → (∀ x ∈ n, x ∉ o → b ≤ x) →
      reduceButtons r1 = setInsert b o → motionless r1 → first r1 r)) ∧
  ∀ (i : Instr) (s : State),
    (∃ c r k n, i = .keyboardReport c r ∧ ReleaseAlone c r k n s ∧ (∀ x ∈ s.console.deskKeys, x = k) ∧
        s.console.deskButtons = []) ∨
      (∃ c r b n, i = .pointerReport c r ∧ ButtonReleaseAlone c r b n s ∧ (∀ x ∈ s.console.deskButtons, x = b) ∧
        s.console.deskKeys = []) →
    (∀ m : Computer, s.focus.mode = .held → s.typeout.state ≠ .typing → seatOwner s = some m →
      ∃ t, exec i s = .next t ∧ t.console.deskKeys = [] ∧ t.console.deskButtons = [] ∧ t.focus.mode = .glide ∧
        t.focus.focus = some m ∧ t.focus.broadcast = s.focus.broadcast ∧ t.glide = s.glide ∧ t.lock = s.lock ∧
        t.tables = s.tables ∧
        (s.focus.focus = some m → t.focus.previous = s.focus.previous) ∧
        (s.focus.focus ≠ some m → t.focus.previous = s.focus.focus ∧ announced .focus t ∧ framesAnew t ∧
          ∀ f : Computer, s.focus.focus = some f → s.focus.broadcast[f] = false → t.focus.beliefs[f] = ⟨[], []⟩)) ∧
    (∀ code, s.focus.mode ≠ .held → s.typeout.state = .typing → s.typeout.sub = some .waitingRelease →
      s.typeout.text[s.typeout.index]? = some code → (translate s.tables code).key ≠ 0 →
      ∃ t, exec i s = .next t ∧ t.console.deskKeys = [] ∧ t.console.deskButtons = [] ∧
        t.typeout = { s.typeout with sub := some .active, pacing := some ⟨none, s.now⟩ } ∧
        t.focus.focus = s.focus.focus ∧ t.focus.mode = s.focus.mode ∧
        t.glide = { s.glide with lastAbs := t.glide.lastAbs } ∧
        ((∃ c r, i = .keyboardReport c r) → t.glide = s.glide) ∧ t.lock = s.lock)

/-- A press that no hotkey takes reaches the focus computer, READY here, and every other broadcast member that is READY: one
whose belief set lacks the key takes it in and is sent a snapshot; no other computer's set or port changes. Pressed alone,
the key of a DOUBLE_TAP entry becomes the candidate, else there is none (R22, R98 to R100, R110). During a type-out the press
first ends it with CANCELLED_KEY, a character pressed being released, and is then the press that it is without one (R129,
R130). That a press at the very expiry of the window is a second tap is log entry 29. A key release goes to each computer whose set
holds the key, and to no other (R24). A button press goes to the focus computer alone, and is discarded where its port takes
no key events; a button release to each computer whose set holds the button. A READY port is sent a pointer report with the new buttons, absolute for the focus computer in GLIDE, else relative
without motion; one with a wake under way has its held report take them, and a press for a sleeping one asks for that wake
first when wake on input is set (R23, R25, R26, R62). -/
def Obligations.PressReachesReceivers : Prop :=
  (∀ (c : ConsoleNo) (r : KeyInput) (k : Nat) (n : List Nat) (s : State), PressAlone c r k n s →
    s.lock.state = .unlocked → notTaken k s →
    (s.typeout.state ≠ .typing → (∀ f : Computer, s.focus.focus = some f → s.ports[f].link = .ready) →
    ∃ t, exec (.keyboardReport c r) s = .next t ∧
      t = { keySetTaken c n (keyEntered k s) with
            matcher := { s.matcher with candidate := firstTap k s }
            focus := { s.focus with beliefs := t.focus.beliefs }
            ports := t.ports } ∧
      ∀ m : Computer,
        let receives := (s.focus.focus = some m ∨ s.focus.broadcast[m] = true) ∧ s.ports[m].link = .ready ∧
          k ∉ s.focus.beliefs[m].keys
        (receives →
          t.focus.beliefs[m] = { s.focus.beliefs[m] with keys := setInsert k s.focus.beliefs[m].keys } ∧
          t.ports[m] = s.ports[m].addSnapshot s.now (setInsert k s.focus.beliefs[m].keys)) ∧
        (¬ receives → t.focus.beliefs[m] = s.focus.beliefs[m] ∧ t.ports[m] = s.ports[m])) ∧
    (s.typeout.state = .typing →
      let m := s.typeout
      let ended := fun (u : State) =>
        raise .typeout { u with
          typeout := ⟨.held, none, m.text, m.depositor, none, 0, 0, 0, none, some ⟨.cancelledKey, m.typed, m.skipped⟩⟩ }
      let press := fun (u : State) => exec (.keyboardReport c r) s = exec (.keyboardReport c r) u
      ((∀ pc, m.pacing = some pc → pc.pressed = none) → press (ended s)) ∧
      ∀ f pc ch, m.target = some f → m.pacing = some pc → pc.pressed = some ch → s.ports[f].link = .ready →
        let left := s.focus.beliefs[f].keys.filter fun x => !decide (x = ch.key ∨ (ch.shift = true ∧ x = 225))
        (left = s.focus.beliefs[f].keys → press (ended s)) ∧
        (left ≠ s.focus.beliefs[f].keys →
          press (ended ((s.setBelief f { s.focus.beliefs[f] with keys := left }).modPort f
            (Port.addSnapshot s.now left)))))) ∧
  (∀ (c : ConsoleNo) (r : KeyInput) (k : Nat) (n : List Nat) (s : State), ReleaseAlone c r k n s →
    s.lock.state = .unlocked →
    noMarkAwaited s ∨ (∃ x ∈ s.console.deskKeys, x ≠ k) ∨ s.console.deskButtons ≠ [] →
    ∃ t, exec (.keyboardReport c r) s = .next t ∧
      t = { keySetTaken c n (keyLeft k s) with
            matcher := { s.matcher with
              candidate := s.matcher.candidate.map fun a => if a.key = k then { a with released := true } else a }
            focus := { s.focus with beliefs := t.focus.beliefs }
            ports := t.ports } ∧
      ∀ m : Computer,
        let left := s.focus.beliefs[m].keys.filter fun x => decide (x ≠ k)
        (k ∉ s.focus.beliefs[m].keys → t.focus.beliefs[m] = s.focus.beliefs[m] ∧ t.ports[m] = s.ports[m]) ∧
        (k ∈ s.focus.beliefs[m].keys → t.focus.beliefs[m] = { s.focus.beliefs[m] with keys := left } ∧
          t.ports[m] =
            if s.ports[m].link = .ready then s.ports[m].addSnapshot s.now left
            else if s.ports[m].queuesKeys = true then
              { s.ports[m] with pendingKeys := s.ports[m].pendingKeys ++ [.release k] }
            else s.ports[m])) ∧
  (∀ (c : ConsoleNo) (r : PointerInput) (b : Nat) (n : List Nat) (s : State), ButtonPressAlone c r b n s →
    s.lock.state = .unlocked →
    let taken := buttonSetTaken c n (setInsert b s.console.deskButtons)
    (s.focus.focus = none → exec (.pointerReport c r) s = .next (taken s)) ∧
    ∀ f : Computer, s.focus.focus = some f →
      let buttons := setInsert b s.focus.beliefs[f].buttons
      let told := fun (g : Port → Port) =>
        ({ s with focus := { s.focus with
          beliefs := s.focus.beliefs.set f { s.focus.beliefs[f] with buttons := buttons } } }).modPort f g
      let waits := fun (u : State) =>
        let now := setInsert b u.focus.beliefs[f].buttons
        ({ u with focus := { u.focus with
          beliefs := u.focus.beliefs.set f { u.focus.beliefs[f] with buttons := now } } }).modPort f fun p =>
            { p with held := some (match p.held with
              | none => ⟨.relative, 0, 0, now, 0⟩
              | some q => { q with buttons := now }) }
      let pos := buttonPosition f s
      let asleep := s.ports[f].link = .suspended ∧ s.ports[f].deferred = false
      (b ∈ s.focus.beliefs[f].buttons → ¬ asleep → exec (.pointerReport c r) s = .next (taken s)) ∧
      (b ∉ s.focus.beliefs[f].buttons → s.ports[f].link = .ready → s.focus.mode ≠ .glide →
        exec (.pointerReport c r) s = .next (taken (told (Port.addPointer s.now ⟨.relative, 0, 0, buttons, 0⟩)))) ∧
      (b ∉ s.focus.beliefs[f].buttons → s.ports[f].link = .ready → s.focus.mode = .glide →
        exec (.pointerReport c r) s =
          .next (taken { told (Port.addPointer s.now ⟨.absolute, pos.1, pos.2, buttons, 0⟩) with
            glide := { s.glide with lastAbs := s.glide.lastAbs.set f (some pos) } })) ∧
      (b ∉ s.focus.beliefs[f].buttons → s.ports[f].queuesKeys = true →
        exec (.pointerReport c r) s = .next (taken (waits s))) ∧
      (asleep → s.tables.options.wakeOnInput = true →
        ∃ u, exec (.wake (.hotkey 0 0)) (taken s) = .next u ∧
          (u.ports[f].queuesKeys = false ∨ b ∈ u.focus.beliefs[f].buttons → exec (.pointerReport c r) s = .next u) ∧
          (u.ports[f].queuesKeys = true → b ∉ u.focus.beliefs[f].buttons →
            exec (.pointerReport c r) s = .next (waits u))) ∧
      (s.ports[f].link = .absent ∨ s.ports[f].link = .attaching ∨ s.ports[f].link = .stalled ∨
          (asleep ∧ s.tables.options.wakeOnInput = false) →
        exec (.pointerReport c r) s = .next (taken s))) ∧
  ∀ (c : ConsoleNo) (r : PointerInput) (b : Nat) (n : List Nat) (s : State), ButtonReleaseAlone c r b n s →
    s.lock.state = .unlocked →
    noMarkAwaited s ∨ s.console.deskKeys ≠ [] ∨ (∃ x ∈ s.console.deskButtons, x ≠ b) →
    ∃ t, exec (.pointerReport c r) s = .next t ∧
      t = { buttonSetTaken c n (s.console.deskButtons.filter fun x => decide (x ≠ b)) s with
            focus := { s.focus with beliefs := t.focus.beliefs }
            glide := { s.glide with lastAbs := t.glide.lastAbs }
            ports := t.ports } ∧
      ∀ m : Computer,
        let held := b ∈ s.focus.beliefs[m].buttons
        let left := s.focus.beliefs[m].buttons.filter fun x => decide (x ≠ b)
        let gliding := s.focus.focus = some m ∧ s.focus.mode = .glide
        let pos := buttonPosition m s
        (¬ held → t.focus.beliefs[m] = s.focus.beliefs[m] ∧ t.ports[m] = s.ports[m]) ∧
        (held → t.focus.beliefs[m] = { s.focus.beliefs[m] with buttons := left } ∧
          (s.ports[m].link = .ready → gliding →
            t.ports[m] = s.ports[m].addPointer s.now ⟨.absolute, pos.1, pos.2, left, 0⟩) ∧
          (s.ports[m].link = .ready → ¬ gliding →
            t.ports[m] = s.ports[m].addPointer s.now ⟨.relative, 0, 0, left, 0⟩) ∧
          (s.ports[m].queuesKeys = true →
            t.ports[m] = { s.ports[m] with held := some (match s.ports[m].held with
              | none => ⟨.relative, 0, 0, left, 0⟩
              | some q => { q with buttons := left }) }) ∧
          (s.ports[m].link ≠ .ready → s.ports[m].queuesKeys = false → t.ports[m] = s.ports[m])) ∧
        t.glide.lastAbs[m] =
          if held ∧ gliding ∧ s.ports[m].link = .ready then some pos else s.glide.lastAbs[m]

/-- A press in UNLOCKED that a hotkey takes runs the action of the first enabled entry it matches, with the entry's
arguments, and goes no further: a CHORD entry, or with the candidate's second tap a DOUBLE_TAP entry, the candidate
being cleared first; in command mode, which ends, a FOLLOWER entry, or none (R98, R100, R102). That a press at the
window's expiry still counts is log entry 29, the hotkey form of an action row log entry 32. -/
def Obligations.HotkeysRunActions : Prop :=
  ∀ (c : ConsoleNo) (r : KeyInput) (k : Nat) (n : List Nat) (s : State), PressAlone c r k n s →
    s.lock.state = .unlocked → (∀ i : Fin 32, s.tables.hotkey[i].Ok) →
    let run := fun (e : HotkeyEntry) => actionRow e.action (.hotkey (byte e.arg1) (byte e.arg2))
    let chord := fun (e : HotkeyEntry) =>
      e.enabled = true ∧ e.kind = .chord ∧ e.key = k ∧ modifiersMet e (setInsert k s.console.deskKeys) = true
    let entered := keyEntered k s
    (∀ i : Fin 32, s.matcher.commandMode = false → firstEntry chord i s →
      ∃ t, exec (run s.tables.hotkey[i]) { entered with matcher := { s.matcher with candidate := none } } = .next t ∧
        exec (.keyboardReport c r) s = .next (keySetTaken c n t)) ∧
    (∀ (i : Fin 32) (expiry : Nat), s.matcher.commandMode = false → (∀ j : Fin 32, ¬ chord s.tables.hotkey[j]) →
      s.matcher.candidate = some ⟨k, true, expiry⟩ → s.now ≤ expiry →
      firstEntry (fun e => e.enabled = true ∧ e.kind = .doubleTap ∧ e.key = k) i s →
      ∃ t, exec (run s.tables.hotkey[i]) { entered with matcher := { s.matcher with candidate := none } } = .next t ∧
        exec (.keyboardReport c r) s = .next (keySetTaken c n t)) ∧
    (∀ i : Fin 32, s.matcher.commandMode = true →
      firstEntry (fun e => e.enabled = true ∧ e.kind = .follower ∧ e.key = k) i s →
      ∃ t, exec (run s.tables.hotkey[i]) { entered with matcher := ⟨false, none, none⟩ } = .next t ∧
        exec (.keyboardReport c r) s = .next (keySetTaken c n t)) ∧
    (s.matcher.commandMode = true →
      (∀ j : Fin 32, ¬ (s.tables.hotkey[j].enabled = true ∧ s.tables.hotkey[j].kind = .follower ∧
        s.tables.hotkey[j].key = k)) →
      exec (.keyboardReport c r) s = .next (keySetTaken c n { entered with matcher := ⟨false, none, none⟩ }))

/-- In LOCKED a press is compared with the key the unlock sequence wants next, and nothing of it reaches a computer: a
match advances, the last match unlocks, a mismatch at progress 0 is ignored, and any other is a failure, the fifth of
which begins a lockout of 30 s (R115, R117 to R119). With no type-out and no HELD pointer to take a mark, a key report
that presses no key but ones held already, in LOCKOUT any key report, and in both states any pointer report change the
console's own sets alone. A key report with several changes is the reports of its changes one after another, as
KeyReportUpdatesDeskState states in every lock state; so too is what a mark does in HELD and to a waiting type-out. -/
def Obligations.LockedConsoleComparesPresses : Prop :=
  (∀ (c : ConsoleNo) (r : KeyInput) (k : Nat) (n : List Nat) (s : State) (q : List Nat), PressAlone c r k n s →
    s.lock.state = .locked → s.tables.unlock = some q →
    let a := keyEntered k s
    let wanted := q[s.lock.progress]? = some k
    (wanted → s.lock.progress + 1 < q.length →
      exec (.keyboardReport c r) s =
        .next (keySetTaken c n { a with lock := { s.lock with progress := s.lock.progress + 1 } })) ∧
    (wanted → s.lock.progress + 1 = q.length →
      exec (.keyboardReport c r) s =
        .next (keySetTaken c n (raise .lock (syncBlanked { a with lock := ⟨.unlocked, 0, 0, none⟩ })))) ∧
    (¬ wanted → s.lock.progress = 0 → exec (.keyboardReport c r) s = .next (keySetTaken c n a)) ∧
    (¬ wanted → s.lock.progress ≠ 0 → s.lock.failures < 4 →
      exec (.keyboardReport c r) s =
        .next (keySetTaken c n (raise .lock (syncBlanked
          { a with
            lock := { s.lock with
              progress := if q.head? = some k then 1 else 0
              failures := s.lock.failures + 1 } })))) ∧
    (¬ wanted → s.lock.progress ≠ 0 → s.lock.failures = 4 →
      exec (.keyboardReport c r) s =
        .next (keySetTaken c n
          (raise .lock (syncBlanked { a with lock := ⟨.lockout, 0, 5, some (s.now + 30000)⟩ }))))) ∧
  (∀ (c : ConsoleNo) (r : KeyInput) (s : State), s.lock.state ≠ .unlocked → s.typeout.state ≠ .typing →
    s.focus.mode ≠ .held →
    s.lock.state = .lockout ∨
      (∀ n, reduceKeys r = some n → ∀ k ∈ n, k ∈ s.console.ports[c].keys ∨ k ∈ s.console.deskKeys) →
    ∃ t, exec (.keyboardReport c r) s = .next t ∧ t = { s with console := t.console }) ∧
  (∀ (c : ConsoleNo) (r : PointerInput) (s : State), s.lock.state ≠ .unlocked → s.typeout.state ≠ .typing →
    s.focus.mode ≠ .held → ∃ t, exec (.pointerReport c r) s = .next t ∧ t = { s with console := t.console })

/-- An indicator output that was accepted makes the value sent the one shown, and starts another when the mirrored value has
changed since; one refused or failed is over, and one abandoned at a detach is ignored, as is an ending at a port with no
output in flight (R4, R17). An output is one byte, a bit for each of the five indicators, bits 5 to 7 being 0; of a byte
received those bits are ignored (R179). The operand that marks an abandoned output is log entry 26, the byte kept in the
state log entry 5. -/
def Obligations.IndicatorOutputsEnd : Prop :=
  (∀ (c : ConsoleNo) (how : OutputEnd) (s : State),
    exec (.indicatorOutputEnd c how true) s = .next s ∧
    ((∀ keys shown sent, s.console.ports[c] ≠ .keyboard keys shown (some sent)) →
      exec (.indicatorOutputEnd c how false) s = .next s) ∧
    ∀ keys shown sent, s.console.ports[c] = .keyboard keys shown (some sent) →
      let ended := fun (port : ConsolePort) =>
        { s with console := { s.console with ports := s.console.ports.set c port } }
      (how ≠ .accepted → exec (.indicatorOutputEnd c how false) s = .next (ended (.keyboard keys shown none))) ∧
      (how = .accepted → sent = s.console.mirrored →
        exec (.indicatorOutputEnd c how false) s = .next (ended (.keyboard keys sent none))) ∧
      (how = .accepted → sent ≠ s.console.mirrored →
        exec (.indicatorOutputEnd c how false) s =
          .next { s with console := { s.console with
            ports := s.console.ports.set c (.keyboard keys sent (some s.console.mirrored))
            outputs := s.console.outputs.set c (some s.console.mirrored.toByte) } })) ∧
  (∀ v : Indicators,
    v.toByte.getLsbD 0 = v.num ∧ v.toByte.getLsbD 1 = v.caps ∧ v.toByte.getLsbD 2 = v.scroll ∧
    v.toByte.getLsbD 3 = v.compose ∧ v.toByte.getLsbD 4 = v.kana ∧ ∀ i, 5 ≤ i → v.toByte.getLsbD i = false) ∧
  ∀ b : Byte, (Indicators.ofByte b).toByte = b &&& 31

/-! ### Report queues and motion -/

/-- A snapshot report is appended to a key report queue of fewer than 16, else it takes the place of the newest, counted; a
pointer report merges into the newest of its kind and buttons, else is appended to a queue of fewer than 4, else merged and
counted. The stall timer starts when both queues were empty; a counter stays at 65535 (R147 to R149, R159). -/
def Obligations.QueuesTakeReports : Prop :=
  (∀ (now : Nat) (keys : List Nat) (p : Port),
    p.addSnapshot now keys = { p with
      keyQueue := if p.keyQueue.length < 16 then p.keyQueue ++ [keys] else p.keyQueue.dropLast ++ [keys]
      keyOverruns := if p.keyQueue.length < 16 then p.keyOverruns else min 65535 (p.keyOverruns + 1)
      stall := if p.keyQueue = [] ∧ p.pointerQueue = [] then some (now + 1000) else p.stall }) ∧
  (∀ (now : Nat) (r : PtrReport) (p : Port), p.pointerQueue = [] →
    p.addPointer now r =
      { p with pointerQueue := [r], stall := if p.keyQueue = [] then some (now + 1000) else p.stall }) ∧
  (∀ (now : Nat) (r q : PtrReport) (l : List PtrReport) (p : Port), p.pointerQueue = l ++ [q] →
    (q.kind = r.kind → q.buttons = r.buttons →
      p.addPointer now r = { p with pointerQueue := l ++ [q.merge r] }) ∧
    (q.kind ≠ r.kind ∨ q.buttons ≠ r.buttons → l.length < 3 →
      p.addPointer now r = { p with pointerQueue := l ++ [q, r] }) ∧
    (q.kind ≠ r.kind ∨ q.buttons ≠ r.buttons → 3 ≤ l.length →
      p.addPointer now r =
        { p with pointerQueue := l ++ [q.merge r], pointerOverruns := min 65535 (p.pointerOverruns + 1) })) ∧
  (∀ q r : PtrReport,
    (q.merge r).kind = r.kind ∧ (q.merge r).buttons = r.buttons ∧
    (q.merge r).wheel = max (-127) (min 127 (q.wheel + r.wheel)) ∧
    (r.kind = .absolute ∨ q.kind = .absolute → (q.merge r).x = r.x ∧ (q.merge r).y = r.y) ∧
    (r.kind = .relative → q.kind = .relative →
      (q.merge r).x = max (-127) (min 127 (q.x + r.x)) ∧ (q.merge r).y = max (-127) (min 127 (q.y + r.y))))

/-- Outside GLIDE a pointer report's motion and wheel go to the focus computer as relative counts: each axis adds to its
remainder, -127 to 127 of the sum is sent and the rest, within 2047, kept. A READY port queues the report, a SUSPENDED or
WAKING one holds it, and no report is sent when it would carry nothing. Without a focus computer, or with its port in
another state, the motion is dropped and the remainder emptied (R11, R13, R39, R40). -/
def Obligations.MotionIsForwardedRelative : Prop :=
  ∀ (c : ConsoleNo) (r : PointerInput) (s : State), s.lock.state = .unlocked → s.focus.mode ≠ .glide →
    buttonsSame c r s → ¬ (r.dx = 0 ∧ r.dy = 0 ∧ r.wheel = 0) →
    let limit := fun (n : Int) (d : Int) => max (-n) (min n d)
    let ax := s.focus.rx + limit 2047 r.dx
    let ay := s.focus.ry + limit 2047 r.dy
    let wheel := limit 127 r.wheel
    let kept := { s with
      focus := { s.focus with rx := limit 2047 (ax - limit 127 ax), ry := limit 2047 (ay - limit 127 ay) } }
    let dropped := { s with focus := { s.focus with rx := 0, ry := 0 } }
    (s.focus.focus = none → exec (.pointerReport c r) s = .next dropped) ∧
    ∀ f : Computer, s.focus.focus = some f →
      let report : PtrReport := ⟨.relative, limit 127 ax, limit 127 ay, s.focus.beliefs[f].buttons, wheel⟩
      let taken := s.ports[f].link = .ready ∨ s.ports[f].link = .suspended ∨ s.ports[f].link = .waking
      let moves := ¬ (limit 127 ax = 0 ∧ limit 127 ay = 0 ∧ wheel = 0)
      (¬ taken → exec (.pointerReport c r) s = .next dropped) ∧
      (taken → ¬ moves → exec (.pointerReport c r) s = .next kept) ∧
      (s.ports[f].link = .ready → moves →
        exec (.pointerReport c r) s = .next (kept.modPort f (Port.addPointer s.now report))) ∧
      (s.ports[f].link = .suspended ∨ s.ports[f].link = .waking → moves →
        exec (.pointerReport c r) s =
          .next (kept.modPort f fun p => { p with
            held := some (match p.held with
              | none => report
              | some q => q.merge report) }))

/-- The picture of a channel in a tile lies within the tile and touches two opposite edges of it, at least 10 desk units a
side for the timings the part can show; a position in the tile is mapped to a pixel of the source, and every absolute
coordinate lies between 0 and 32767 (R57, R58, R60). A report carries the coordinates that the tile, its channel's known
timing, the channel's head origin and the computer's desktop size give the pointer, and motion is withheld without a known
timing; an automatic desktop size is the least that holds the computer's heads of known timing (R56, R58 to R60, R63). -/
def Obligations.PictureStaysInTile : Prop :=
  (∀ (f : Fit) (tw th sw sh : Nat), 160 ≤ tw → 160 ≤ th → 640 ≤ sw → sw ≤ 7680 → 480 ≤ sh → sh ≤ 4320 →
    let p := fitPicture f tw th sw sh
    (10 ≤ p.w ∧ 10 ≤ p.h) ∧ p.ox + p.w ≤ tw ∧ p.oy + p.h ≤ th ∧ (p.w = tw ∨ p.h = th) ∧
    (f = .fill → p = ⟨tw, th, 0, 0⟩) ∧
    (f = .fit → p.ox = (tw - p.w) / 2 ∧ p.oy = (th - p.h) / 2 ∧
      ((p.w = tw ∧ p.h * sw ≤ tw * sh ∧ tw * sh < (p.h + 1) * sw) ∨
        (p.h = th ∧ p.w * sh ≤ th * sw ∧ th * sw < (p.w + 1) * sh))) ∧
    (∀ d x : Nat, sourceCoord (pictureCoord d x p.ox p.w) sw p.w < sw ∧
      sourceCoord (pictureCoord d x p.oy p.h) sh p.h < sh) ∧
    ∀ c d : Nat, absoluteCoord c d ≤ 32767) ∧
  ∀ (s : State) (n : Computer),
    let known := fun (c : Channel) =>
      if s.channels[c].state = .locked then s.channels[c].timing else s.channels[c].lastLocked
    let greatest := fun (m : Nat) (extent : ChannelEntry → Timing → Nat) =>
      (∀ c tm, s.tables.channel[c].owner = some n → known c = some tm → extent s.tables.channel[c] tm ≤ m) ∧
      (m = 0 ∨ ∃ c tm, s.tables.channel[c].owner = some n ∧ known c = some tm ∧ extent s.tables.channel[c] tm = m)
    let e := s.tables.computer[n]
    (e.desktopWidth ≠ 0 → desktopWidth s n = e.desktopWidth) ∧
    (e.desktopWidth = 0 → greatest (desktopWidth s n) fun ch tm => ch.hx + tm.width) ∧
    (e.desktopHeight ≠ 0 → desktopHeight s n = e.desktopHeight) ∧
    (e.desktopHeight = 0 → greatest (desktopHeight s n) fun ch tm => ch.hy + tm.height) ∧
    (seatTile s = none → absoluteHere s n = none) ∧
    ∀ t : Tile, seatTile s = some t →
      (t.channel = none → absoluteHere s n = none) ∧
      ∀ c : Channel, t.channel = some c →
        (known c = none → absoluteHere s n = none) ∧
        ∀ tm : Timing, known c = some tm →
          let p := fitPicture s.tables.layout[t.screen].fit t.w t.h tm.width tm.height
          let pixel := fun (d corner off size source : Nat) => min (d - corner - off) (size - 1) * source / size
          let x := s.tables.channel[c].hx + pixel (s.glide.px / 16) t.x p.ox p.w tm.width
          let y := s.tables.channel[c].hy + pixel (s.glide.py / 16) t.y p.oy p.h tm.height
          absoluteHere s n =
            some (min (x * 32768 / desktopWidth s n) 32767, min (y * 32768 / desktopHeight s n) 32767)

/-- In GLIDE a motion along one axis has the step that the pointer device entry gives: the count times the gain plus,
for the part of it beyond the threshold, the acceleration times that part (R51). It moves the pointer to its target
while that lies in the same tile; onto a live tile of the focus computer, or, with no button held, of one whose port is
READY, or SUSPENDED or WAKING with wake on glide set (R54), it moves there, and if the tile is another computer's that
one becomes the focus computer, the old one's position remembered, and a wake is asked for when its port is SUSPENDED,
which is deferred, started or refused (R154); in every other case the pointer stops at its tile's edge (R52, R53, R55,
R28). While the focus stays, one absolute report at the new position is handed to the current tile's computer, if the
position or the wheel calls for one (R61, R63, R64). A motion along both axes goes where its x part and then its y part
would (R52). LINK at the start of the wake is log entry 9. -/
def Obligations.PointerGlidesAndCrosses : Prop :=
  (∀ (vertical : Bool) (c : ConsoleNo) (r : PointerInput) (s : State) (t : Tile) (f : Computer), Gliding c r s t f →
    (if vertical then r.dx else r.dy) = 0 →
    let step := stepOf s.tables.pointer[c] (max (-2047) (min 2047 (if vertical then r.dy else r.dx)))
    let wheel := max (-127) (min 127 r.wheel)
    let start := if vertical then s.glide.py else s.glide.px
    let moved := fun (p : Nat) => if vertical then (s.glide.px, p) else (p, s.glide.py)
    let target := moved (max 0 (min 524287 ((start : Int) + step))).toNat
    let low := if vertical then t.y else t.x
    let size := if vertical then t.h else t.w
    let edge := moved (if step < 0 then 16 * low else 16 * (low + size) - 1)
    let stays := t.contains (target.1 / 16) (target.2 / 16) = true
    ∃ u, exec (.pointerReport c r) s = .next u ∧ u.tables = s.tables ∧ u.channels = s.channels ∧ u.lock = s.lock ∧
      u.console.deskKeys = s.console.deskKeys ∧ u.console.deskButtons = s.console.deskButtons ∧ positionTold u ∧
      (stays → (u.glide.px, u.glide.py) = target ∧ u.glide.seat = s.glide.seat ∧ u.focus = s.focus ∧
        u.typeout = s.typeout) ∧
      (¬ stays →
        (∀ t1 n, locate s (target.1 / 16) (target.2 / 16) = some t1 → liveOwner s t1 = some n →
          ¬ mayCross n s) →
        (u.glide.px, u.glide.py) = edge ∧ u.glide.seat = s.glide.seat ∧ u.focus = s.focus ∧ u.typeout = s.typeout) ∧
      (∀ t1 n, ¬ stays → locate s (target.1 / 16) (target.2 / 16) = some t1 → liveOwner s t1 = some n →
        mayCross n s →
        (u.glide.px, u.glide.py) = target ∧ u.glide.seat = some ⟨t1.screen, t1.quad, n⟩ ∧ u.focus.focus = some n ∧
        u.focus.mode = .glide ∧
        (n = f → u.focus = s.focus) ∧
        (n ≠ f → u.focus.previous = some f ∧ u.glide.remembered[f] = some (s.glide.px, s.glide.py) ∧
          (s.focus.broadcast[f] = false → u.focus.beliefs[f] = ⟨[], []⟩) ∧ announced .focus u ∧
          wakeAsked (s.ports[n].link = .suspended) n s u)) ∧
      (u.focus.focus = some f → ∀ seat, u.glide.seat = some seat →
        let m := seat.computer
        let pos := (absoluteHere u m).getD (s.glide.lastAbs[m].getD (16384, 16384))
        let report : PtrReport := ⟨.absolute, pos.1, pos.2, s.focus.beliefs[m].buttons, wheel⟩
        let due := wheel ≠ 0 ∨ ((absoluteHere u m).isSome = true ∧ s.glide.lastAbs[m] ≠ absoluteHere u m)
        let asleep := s.ports[m].link = .suspended ∨ s.ports[m].link = .waking
        (due → s.ports[m].link = .ready ∨ asleep → u.glide.lastAbs = s.glide.lastAbs.set m (some pos)) ∧
        (due → s.ports[m].link = .ready → u.ports = s.ports.set m (s.ports[m].addPointer s.now report)) ∧
        (due → asleep → u.ports = s.ports.set m { s.ports[m] with held := some (match s.ports[m].held with
          | none => report
          | some q => q.merge report) }) ∧
        (¬ due ∨ (s.ports[m].link ≠ .ready ∧ ¬ asleep) →
          u.glide.lastAbs = s.glide.lastAbs ∧ u.ports = s.ports))) ∧
  ∀ (c : ConsoleNo) (r : PointerInput) (s : State) (t : Tile) (f : Computer), Gliding c r s t f →
    ∃ u v w, exec (.pointerReport c r) s = .next u ∧
      exec (.pointerReport c { r with dy := 0, wheel := 0 }) s = .next v ∧
      exec (.pointerReport c { r with dx := 0, wheel := 0 }) v = .next w ∧
      u.glide.px = w.glide.px ∧ u.glide.py = w.glide.py ∧ u.glide.seat = w.glide.seat ∧
      u.glide.remembered = w.glide.remembered ∧ u.focus = w.focus ∧ u.typeout = w.typeout ∧ positionTold u

/-! ### The hotkey matcher's timers, the lock, focus, broadcast and alerts -/

/-- COMMAND by hotkey in UNLOCKED enters command mode, starts its timer anew and clears the candidate; in LOCKED and LOCKOUT
it has no effect (R103). NONE has none. At its expiry the command timer ends command mode, and the window of a double tap
its candidate; a timer that does not run cannot expire, and its command is ignored (R101, R104; log entry 2). -/
def Obligations.MatcherKeepsItsTimes : Prop :=
  ∀ (a b : Byte) (s : State),
    exec (.noAction (.hotkey a b)) s = .next s ∧
    (s.lock.state = .unlocked → exec (.command (.hotkey a b)) s =
      .next { s with matcher := ⟨true, some (s.now + s.tables.options.commandTimeout), none⟩ }) ∧
    (s.lock.state ≠ .unlocked → exec (.command (.hotkey a b)) s = .next s) ∧
    (s.matcher.candidate = none → exec .doubleTapWindowExpiry s = .next s) ∧
    (∀ cand, s.matcher.candidate = some cand → exec .doubleTapWindowExpiry s =
      .next { s.advanceTo cand.expiry with matcher := { s.matcher with candidate := none } }) ∧
    (s.matcher.commandTimer = none → exec .commandTimerExpiry s = .next s) ∧
    (∀ due, s.matcher.commandTimer = some due → exec .commandTimerExpiry s =
      .next { s.advanceTo due with matcher := { s.matcher with commandMode := false, commandTimer := none } })

/-- LOCK in UNLOCKED with an unlock sequence locks the console: type-out, command mode, candidate and every peek end,
every belief set and the remainder become empty, screens without a display are blanked, LOCK is raised; otherwise it
does nothing (R116). An UNLOCK request unlocks a LOCKED console and one in LOCKOUT (R120). The lockout timer's expiry
leads to LOCKED with no failures (R119). That an expiry moves the clock and is ignored where the timer is stopped is
log entry 2. -/
def Obligations.ConsoleLocksAndUnlocks : Prop :=
  (∀ (a b : Byte) (s : State),
    (s.lock.state ≠ .unlocked ∨ s.tables.unlock = none → exec (.lock (.hotkey a b)) s = .next s) ∧
    (s.lock.state = .unlocked → s.tables.unlock.isSome = true →
      ∃ t, exec (.lock (.hotkey a b)) s = .next t ∧ t.lock = ⟨.locked, 0, 0, none⟩ ∧
        t.matcher = ⟨false, none, none⟩ ∧ t.typeout.state ≠ .typing ∧ t.typeout.text = s.typeout.text ∧
        (s.typeout.state = .typing →
          t.typeout.outcome = some ⟨.cancelledLock, s.typeout.typed, s.typeout.skipped⟩) ∧
        (∀ sc : ScreenNo, t.screens[sc].peek = none ∧
          (s.screens[sc].attached = false → t.screens[sc].blanked = true)) ∧
        (∀ n : Computer, t.focus.beliefs[n] = ⟨[], []⟩) ∧ t.focus.rx = 0 ∧ t.focus.ry = 0 ∧
        t.focus.broadcast = s.focus.broadcast ∧ announced .lock t ∧ t.tables = s.tables ∧
        t.console.deskKeys = s.console.deskKeys ∧ t.console.deskButtons = s.console.deskButtons ∧
        t.channels = s.channels ∧ t.mgmt.generation = s.mgmt.generation ∧
        ((∀ sc : ScreenNo, s.screens[sc].peek = none) →
          t.focus.focus = s.focus.focus ∧ t.focus.mode = s.focus.mode ∧ t.glide = s.glide))) ∧
  (∀ (r : Request) (a b : Byte) (s : State), takesRequests s r.port → s.tables.computer[r.port].manager = true →
    r.length = 3 → r.params = [a, b] →
    (s.lock.state = .unlocked → exec (.unlock r) s = .next (replied 4 r .ok [] s)) ∧
    (s.lock.state ≠ .unlocked →
      exec (.unlock r) s =
        .next (replied 4 r .ok [] (raise .lock (syncBlanked { s with lock := ⟨.unlocked, 0, 0, none⟩ }))))) ∧
  (∀ s : State,
    (s.lock.timer = none → exec .lockoutTimerExpiry s = .next s) ∧
    ∀ due, s.lock.timer = some due →
      exec .lockoutTimerExpiry s =
        .next (raise .lock (syncBlanked { s.advanceTo due with lock := ⟨.locked, 0, 0, none⟩ })))

/-- FOCUS n does nothing for a number that is no computer's, a parked computer and the focus computer. Otherwise n becomes
the focus computer and the old one the previous; a type-out ends; the old one's belief set is released unless it is a
broadcast member, and its pointer position remembered; and the pointer is seated for n: where it lies, else at the
remembered position, else at the centre of n's first live tile, in GLIDE, else it stays, in DETACHED. In GLIDE the computer
is sent the position. A LATCHED alert entry of n leaves the list. With wake on focus set and n's port SUSPENDED a wake is
asked for, which is deferred, started or refused. The frame kinds are computed anew (R27, R30, R66, R70, R89, R137, R154).
That LINK is raised with the start of the wake is log entry 9. -/
def Obligations.FocusActionSeatsPointer : Prop :=
  ∀ (a b : Byte) (s : State),
    ((∀ n : Computer, num n ≠ a.toNat) → exec (.focus (.hotkey a b)) s = .next s) ∧
    ∀ n : Computer, num n = a.toNat →
      (s.tables.computer[n].parked = true ∨ s.focus.focus = some n → exec (.focus (.hotkey a b)) s = .next s) ∧
      (s.tables.computer[n].parked = false → s.focus.focus ≠ some n →
        ∃ t, exec (.focus (.hotkey a b)) s = .next t ∧ t.focus.focus = some n ∧ t.focus.previous = s.focus.focus ∧
          t.focus.rx = 0 ∧ t.focus.ry = 0 ∧ t.focus.broadcast = s.focus.broadcast ∧ t.typeout.state ≠ .typing ∧
          (s.typeout.state = .typing →
            t.typeout.outcome = some ⟨.cancelledFocus, s.typeout.typed, s.typeout.skipped⟩) ∧
          (∀ m : Computer, s.focus.focus = some m →
            (s.focus.broadcast[m] = false → t.focus.beliefs[m] = ⟨[], []⟩) ∧
            (seatOwner s = some m → t.glide.remembered[m] = some (s.glide.px, s.glide.py))) ∧
          (∀ m : Computer, m ≠ n → s.focus.focus ≠ some m → s.typeout.state ≠ .typing →
            t.focus.beliefs[m] = s.focus.beliefs[m] ∧ t.ports[m].keyQueue = s.ports[m].keyQueue) ∧
          (seatOwner s = some n → t.focus.mode = .glide ∧ t.glide.px = s.glide.px ∧ t.glide.py = s.glide.py ∧
            t.glide.seat = s.glide.seat) ∧
          (∀ pos tile, seatOwner s ≠ some n → rememberedTile s n = some (pos, tile) →
            t.focus.mode = .glide ∧ (t.glide.px, t.glide.py) = pos ∧
            t.glide.seat = some ⟨tile.screen, tile.quad, n⟩) ∧
          (∀ tile, seatOwner s ≠ some n → rememberedTile s n = none → firstLiveOf s n = some tile →
            t.focus.mode = .glide ∧ (t.glide.px, t.glide.py) = tile.centre ∧
            t.glide.seat = some ⟨tile.screen, tile.quad, n⟩) ∧
          (firstLiveOf s n = none → t.focus.mode = .detached ∧ t.glide.px = s.glide.px ∧
            t.glide.py = s.glide.py ∧ t.glide.seat = s.glide.seat) ∧
          t.alerts = { s.alerts with
            list := s.alerts.list.filter fun e => !decide (e.computer = n ∧ e.kind = .latched) } ∧
          ((∃ e ∈ s.alerts.list, e.computer = n ∧ e.kind = .latched) → announced .alert t) ∧
          wakeAsked (s.ports[n].link = .suspended ∧ s.tables.options.wakeOnFocus = true) n s t ∧
          announced .focus t ∧ positionTold t ∧ framesAnew t ∧ DeskKept s t)

/-- FOCUS_NEXT does what FOCUS does for the first unparked computer with an attached link after the focus computer in port
order, 8 being followed by 1, and FOCUS_PREV for the first before it; without a focus computer they start at computer 1 and
at computer 8. Without such a computer they do nothing. FOCUS_BACK does what FOCUS does for the previous focus (R30,
R31). -/
def Obligations.FocusStepsInPortOrder : Prop :=
  ∀ (a b : Byte) (s : State),
    (∀ n f : Computer, s.focus.focus = some f → n ≠ f → eligible s n →
      ((∀ m : Computer, m ≠ f → eligible s m → ahead f n ≤ ahead f m) →
        ∃ t, exec (.focus (.hotkey (byte (num n)) 0)) s = .next t ∧ exec (.focusNext (.hotkey a b)) s = .next t) ∧
      ((∀ m : Computer, m ≠ f → eligible s m → ahead n f ≤ ahead m f) →
        ∃ t, exec (.focus (.hotkey (byte (num n)) 0)) s = .next t ∧ exec (.focusPrev (.hotkey a b)) s = .next t)) ∧
    (∀ n : Computer, s.focus.focus = none → eligible s n →
      ((∀ m : Computer, eligible s m → n ≤ m) →
        ∃ t, exec (.focus (.hotkey (byte (num n)) 0)) s = .next t ∧ exec (.focusNext (.hotkey a b)) s = .next t) ∧
      ((∀ m : Computer, eligible s m → m ≤ n) →
        ∃ t, exec (.focus (.hotkey (byte (num n)) 0)) s = .next t ∧ exec (.focusPrev (.hotkey a b)) s = .next t)) ∧
    ((∀ m : Computer, s.focus.focus ≠ some m → ¬ eligible s m) →
      exec (.focusNext (.hotkey a b)) s = .next s ∧ exec (.focusPrev (.hotkey a b)) s = .next s) ∧
    (s.focus.previous = none → exec (.focusBack (.hotkey a b)) s = .next s) ∧
    ∀ n : Computer, s.focus.previous = some n →
      ∃ t, exec (.focus (.hotkey (byte (num n)) 0)) s = .next t ∧ exec (.focusBack (.hotkey a b)) s = .next t

/-- GO_ALERT goes to the computer the alert policy chooses, as FOCUS does, and acknowledges it when it is the focus computer
already: its LATCHED entry leaves the list and ALERT is raised. Under ROTATE the chosen computer goes to the end of the
rotation order. An empty list leaves everything as it is (R137, R139, R140). -/
def Obligations.GoAlertServesChosenComputer : Prop :=
  ∀ (a b : Byte) (s : State),
    (s.alerts.list = [] → exec (.goAlert (.hotkey a b)) s = .next s) ∧
    ∀ c : Computer, alertChosen c s → s.tables.computer[c].parked = false →
      (s.focus.focus ≠ some c →
        ∃ t, exec (.focus (.hotkey (byte (num c)) 0)) (alertTurned c s) = .next t ∧
          exec (.goAlert (.hotkey a b)) s = .next t) ∧
      (s.focus.focus = some c → (∀ e ∈ s.alerts.list, e.computer = c → e.kind = .level) →
        exec (.goAlert (.hotkey a b)) s = .next (alertTurned c s)) ∧
      (s.focus.focus = some c → (∃ e ∈ s.alerts.list, e.computer = c ∧ e.kind = .latched) →
        ∃ t, exec (.goAlert (.hotkey a b)) s = .next t ∧
          t.alerts = { (alertTurned c s).alerts with
            list := s.alerts.list.filter fun e => !decide (e.computer = c ∧ e.kind = .latched) } ∧
          tookEvent .alert s t ∧ framesAnew t ∧ t.focus = s.focus ∧ t.glide = s.glide ∧ t.typeout = s.typeout ∧ DeskKept s t)

/-- BROADCAST_TOGGLE n takes an unparked computer into the broadcast set and a member out of it, its belief set being
released unless it is the focus computer, and raises FOCUS; for a number that is no computer's and a parked computer that is
no member it does nothing. A release sends a READY port a snapshot without keys and a relative report without buttons, each
if its part was not empty, hands a port with a wake under way a release event for each key in order and empties the buttons
of its held report, and sends others nothing. BROADCAST_CLEAR takes every member out in that way (R34, R21, R152). That a
chord releases its own modifiers so, against the table of R111, is log entry 45. -/
def Obligations.BroadcastSetChanges : Prop :=
  ∀ (a b0 : Byte) (s : State),
    ((∀ n : Computer, num n ≠ a.toNat) → exec (.broadcastToggle (.hotkey a b0)) s = .next s) ∧
    (∀ n : Computer, num n = a.toNat →
      let becomes := fun (m : Bool) =>
        raise .focus { s with focus := { s.focus with broadcast := s.focus.broadcast.set n m } }
      (s.focus.broadcast[n] = false → s.tables.computer[n].parked = true →
        exec (.broadcastToggle (.hotkey a b0)) s = .next s) ∧
      (s.focus.broadcast[n] = false → s.tables.computer[n].parked = false →
        exec (.broadcastToggle (.hotkey a b0)) s = .next (becomes true)) ∧
      (s.focus.broadcast[n] = true → s.focus.focus = some n →
        exec (.broadcastToggle (.hotkey a b0)) s = .next (becomes false)) ∧
      (s.focus.broadcast[n] = true → s.focus.focus ≠ some n →
        exec (.broadcastToggle (.hotkey a b0)) s =
          .next (raise .focus (({ s with
            focus := { s.focus with
              broadcast := s.focus.broadcast.set n false
              beliefs := s.focus.beliefs.set n ⟨[], []⟩ } }).modPort n (toldRelease s.now s.focus.beliefs[n]))))) ∧
    ((∀ n : Computer, s.focus.broadcast[n] = false) → exec (.broadcastClear (.hotkey a b0)) s = .next s) ∧
    ((∃ n : Computer, s.focus.broadcast[n] = true) →
      ∃ t, exec (.broadcastClear (.hotkey a b0)) s = .next t ∧
        (∀ n : Computer, t.focus.broadcast[n] = false ∧
          (s.focus.broadcast[n] = true → s.focus.focus ≠ some n → t.focus.beliefs[n] = ⟨[], []⟩ ∧
            t.ports[n] = { toldRelease s.now s.focus.beliefs[n] s.ports[n] with
              notification := t.ports[n].notification }) ∧
          (s.focus.broadcast[n] = false ∨ s.focus.focus = some n → t.focus.beliefs[n] = s.focus.beliefs[n] ∧
            t.ports[n] = { s.ports[n] with notification := t.ports[n].notification })) ∧
        t.focus.focus = s.focus.focus ∧ t.focus.mode = s.focus.mode ∧ t.glide = s.glide ∧ tookEvent .focus s t ∧
        DeskKept s t)

/-! ### Channels, screens and assignments -/

/-- A channel locks on the third consecutive frame of one timing the part can show, and is UNSUPPORTED on the third of any
other; a frame of another timing starts the count again, a loss leads to NO_SIGNAL, and activity matters in NO_SIGNAL alone
(R74, R75). A command changes the channel named alone, and raises VIDEO when the channel's state changes (R76). -/
def Obligations.ChannelsAcquireTimings : Prop :=
  ∀ (c : Channel) (t : Timing) (s : State),
    let becomes := fun (r : ChannelRt) =>
      if r.state = s.channels[c].state then { s with channels := s.channels.set c r }
      else raise .video { s with channels := s.channels.set c r }
    let last := s.channels[c].lastLocked
    let shown := 640 ≤ t.width ∧ t.width ≤ 7680 ∧ 480 ≤ t.height ∧ t.height ≤ 4320
    let same := s.channels[c].timing = some t
    (s.channels[c].state = .noSignal →
      exec (.channelActivity c) s = .next (becomes ⟨.locking, none, 0, last⟩) ∧
      exec (.channelFrame c t) s = .next (becomes ⟨.locking, some t, 1, last⟩)) ∧
    (s.channels[c].state ≠ .noSignal → exec (.channelActivity c) s = .next s) ∧
    (s.channels[c].state = .locking →
      (¬ same → exec (.channelFrame c t) s = .next (becomes ⟨.locking, some t, 1, last⟩)) ∧
      (same → s.channels[c].count < 2 →
        exec (.channelFrame c t) s = .next (becomes ⟨.locking, some t, s.channels[c].count + 1, last⟩)) ∧
      (same → s.channels[c].count = 2 → shown →
        exec (.channelFrame c t) s = .next (becomes ⟨.locked, some t, 3, some t⟩)) ∧
      (same → s.channels[c].count = 2 → ¬ shown →
        exec (.channelFrame c t) s = .next (becomes ⟨.unsupported, some t, 3, last⟩))) ∧
    (s.channels[c].state = .locked ∨ s.channels[c].state = .unsupported →
      (same → exec (.channelFrame c t) s = .next s) ∧
      (¬ same → exec (.channelFrame c t) s = .next (becomes ⟨.locking, some t, 1, last⟩))) ∧
    exec (.channelLoss c) s = .next (becomes ⟨.noSignal, none, 0, last⟩)

/-- A display that attaches gives its screen a reported size and, unless the layout entry fixes one, its native size,
and raises SCREEN; one that detaches takes them away, the pending assignment and the pending frames being shown at
once and the blanking following the lock state. Each re-seats the pointer, and the focus controller acts on the outcome.
Frame kinds change otherwise only with a focus change, which computes them anew. A detach without a display is ignored; an
attach over a display is a detach and an attach (R37, R69, R70, R78, R79, R89 to R91). That step 2 of a detach computes no
frame kinds is log entry 10; that the state keeps the composed frame, and none after a detach, log entries 5 and 19. -/
def Obligations.DisplaysComeAndGo : Prop :=
  ∀ (sc : ScreenNo) (preferred : Option (Nat × Nat)) (s : State),
    let native := fun (reported : Option (Nat × Nat)) =>
      if s.tables.layout[sc].nativeW ≠ 0 ∧ s.tables.layout[sc].nativeH ≠ 0 then
        (s.tables.layout[sc].nativeW, s.tables.layout[sc].nativeH)
      else reported.getD (s.tables.layout[sc].w, s.tables.layout[sc].h)
    let others := fun (t : State) => ∀ x : ScreenNo, x ≠ sc →
      (t.focus.focus = s.focus.focus → s.tables.Ok → framesKept x s t) ∧
      t.screens[x].attached = s.screens[x].attached ∧ t.screens[x].displayed = s.screens[x].displayed ∧
      t.screens[x].pendingAssignment = s.screens[x].pendingAssignment ∧ t.screens[x].peek = s.screens[x].peek
    (s.screens[sc].attached = false →
      exec (.displayDetach sc) s = .next s ∧
      ∃ t, exec (.displayAttach sc preferred) s = .next t ∧ t.screens[sc].attached = true ∧
        t.screens[sc].reported = preferred ∧ t.screens[sc].native = native preferred ∧
        t.screens[sc].displayed = s.screens[sc].displayed ∧ t.screens[sc].peek = s.screens[sc].peek ∧
        t.screens[sc].pendingAssignment = s.screens[sc].pendingAssignment ∧
        t.screens[sc].blanked = s.screens[sc].blanked ∧ announced .screen t ∧ others t ∧ t.tables = s.tables ∧
        reseated s t ∧ positionTold t ∧ (t.focus.focus = s.focus.focus → framesKept sc s t) ∧
        t.channels = s.channels ∧ t.lock = s.lock ∧ t.console.deskKeys = s.console.deskKeys) ∧
    (s.screens[sc].attached = true →
      ∃ t, exec (.displayDetach sc) s = .next t ∧ t.screens[sc].attached = false ∧ t.screens[sc].reported = none ∧
        t.screens[sc].native = native none ∧ t.screens[sc].composed = none ∧
        t.screens[sc].displayed = s.screens[sc].pendingAssignment.getD s.screens[sc].displayed ∧
        t.screens[sc].pendingAssignment = none ∧ t.screens[sc].pendingFrames = none ∧
        t.screens[sc].peek = s.screens[sc].peek ∧ (t.screens[sc].blanked = true ↔ s.lock.state ≠ .unlocked) ∧
        (s.tables.Ok → reseated s t ∧ (t.focus.focus = s.focus.focus →
          t.screens[sc].frames = s.screens[sc].pendingFrames.getD s.screens[sc].frames)) ∧ positionTold t ∧
        announced .screen t ∧ others t ∧ t.tables = s.tables ∧ t.channels = s.channels ∧ t.lock = s.lock ∧
        t.console.deskKeys = s.console.deskKeys ∧
        exec (.displayAttach sc preferred) s = exec (.displayAttach sc preferred) t)

/-- A frame start shows the pending assignment with the frame kinds of its tiles, else any pending frames; takes the
blanking the lock state calls for; and composes the frame: the lock pattern on a blanked screen, black on a disabled one, and
else the tiles, framed by those kinds: an empty tile black, one whose channel is not LOCKED with the no-signal pattern, else
the picture in the area that the fit and the channel's timing give. A tile's kind is PEEK on a screen that shows its peek,
else ALERT, else FOCUS, else NONE. A pending assignment shown has the pointer re-seated; without one nothing else changes. An output without a display
has no frame starts (R37, R69, R70, R79, R80, R88 to R91). That a frame start without a display is ignored and a disabled
screen has no frame kinds is log entry 18, the composed frame kept in the state log entries 5 and 19. -/
def Obligations.FrameStartsShowWhatIsPending : Prop :=
  ∀ (sc : ScreenNo) (s : State),
    (s.screens[sc].attached = false → exec (.frameStart sc) s = .next s) ∧
    (s.screens[sc].attached = true → s.screens[sc].pendingAssignment = none →
      ∃ t, exec (.frameStart sc) s = .next t ∧ t = { s with screens := t.screens } ∧
        (∀ x : ScreenNo, x ≠ sc → t.screens[x] = s.screens[x]) ∧
        t.screens[sc] =
          { s.screens[sc] with
            frames := s.screens[sc].pendingFrames.getD s.screens[sc].frames
            pendingFrames := none
            blanked := decide (s.lock.state ≠ .unlocked)
            composed := t.screens[sc].composed } ∧
        (s.lock.state ≠ .unlocked → t.screens[sc].composed = some .lockPattern) ∧
        (s.lock.state = .unlocked → s.tables.layout[sc].enabled = false → t.screens[sc].composed = some .black) ∧
        (s.lock.state = .unlocked → s.tables.layout[sc].enabled = true →
          ∃ drawn, t.screens[sc].composed = some (.tiles s.screens[sc].native drawn) ∧
            drawn.map (fun x => x.1) = tilesOf sc s.tables.layout[sc] s.screens[sc].displayed ∧
            (∀ x ∈ drawn, drawnIn s sc x.1 x.2.1) ∧
            ∀ i, i < drawn.length → i < t.screens[sc].frames.length →
              drawn[i]?.map (fun x => x.2.2) = t.screens[sc].frames[i]?)) ∧
    (∀ a : Assignment, s.screens[sc].attached = true → s.screens[sc].pendingAssignment = some a →
      ∃ t, exec (.frameStart sc) s = .next t ∧ t.screens[sc].displayed = a ∧
        t.screens[sc].pendingAssignment = none ∧ t.screens[sc].attached = true ∧
        t.screens[sc].peek = s.screens[sc].peek ∧ t.screens[sc].native = s.screens[sc].native ∧
        (t.screens[sc].blanked = true ↔ s.lock.state ≠ .unlocked) ∧ t.screens[sc].frames = tileKinds s sc a ∧
        (s.lock.state ≠ .unlocked → t.screens[sc].composed = some .lockPattern) ∧
        (s.lock.state = .unlocked → s.tables.layout[sc].enabled = false → t.screens[sc].composed = some .black) ∧
        (s.lock.state = .unlocked → s.tables.layout[sc].enabled = true →
          ∃ drawn, t.screens[sc].composed = some (.tiles s.screens[sc].native drawn) ∧
            drawn.map (fun x => x.1) = tilesOf sc s.tables.layout[sc] a ∧
            (∀ x ∈ drawn, drawnIn s sc x.1 x.2.1) ∧
            drawn.map (fun x => x.2.2) = tileKinds s sc a) ∧
        reseated s t ∧ positionTold t ∧
        (t.focus.focus = s.focus.focus → t.screens[sc].pendingFrames = none ∧
          ∀ x : ScreenNo, x ≠ sc → framesKept x s t) ∧
        (∀ x : ScreenNo, x ≠ sc → t.screens[x].displayed = s.screens[x].displayed ∧
          t.screens[x].pendingAssignment = s.screens[x].pendingAssignment ∧ t.screens[x].peek = s.screens[x].peek ∧
          t.screens[x].composed = s.screens[x].composed) ∧
        t.tables = s.tables ∧ t.channels = s.channels ∧ t.lock = s.lock ∧
        t.console.deskKeys = s.console.deskKeys ∧ t.console.deskButtons = s.console.deskButtons)

/-- SHOW s c does nothing with an argument out of range or when the entry already holds SINGLE c. Otherwise the entry takes
SINGLE c, one change of the tables, and is requested: as the saved base of a peek, else as the pending assignment of a
screen with a display, else displayed at once with its frame kinds, the pointer being re-seated (R68, R82, R83, R88). -/
def Obligations.ShowSetsAssignment : Prop :=
  ∀ (a b : Byte) (s : State),
    ((∀ sc : ScreenNo, num sc ≠ a.toNat) ∨ 16 < b.toNat → exec (.showChannel (.hotkey a b)) s = .next s) ∧
    ∀ (sc : ScreenNo) (c : Option Channel), num sc = a.toNat → numByte c = b →
      (s.tables.assignment[sc] = .single c → exec (.showChannel (.hotkey a b)) s = .next s) ∧
      (s.tables.assignment[sc] ≠ .single c →
        let changed := changeTables { s.tables with assignment := s.tables.assignment.set sc (.single c) } s
        ∃ t, exec (.showChannel (.hotkey a b)) s = .next t ∧ requestedAt sc (.single c) changed t ∧ announced .table t)

/-- PRESET p does nothing for a number that is no preset's or when every entry already agrees. Otherwise the eight
entries of the preset become the assignment table in one change, and each screen whose entry changed has its new entry
requested, in screen order (R82): for the saved base of a peek, for a display's pending assignment, or, on a screen with
neither, at once, with its frame kinds and a re-seat of the pointer (R68, R88). A screen whose entry did not change
keeps what it has pending and displayed (R84, R85). That each such screen brings its own re-seat is log entry 40. -/
def Obligations.PresetSetsAssignments : Prop :=
  ∀ (a b : Byte) (s : State),
    ((∀ p : Fin 4, num p ≠ a.toNat) → exec (.preset (.hotkey a b)) s = .next s) ∧
    ∀ p : Fin 4, num p = a.toNat →
      let entry := fun (sc : ScreenNo) => s.tables.preset[8 * p.val + sc.val]
      ((∀ sc : ScreenNo, s.tables.assignment[sc] = entry sc) → exec (.preset (.hotkey a b)) s = .next s) ∧
      ((∃ sc : ScreenNo, s.tables.assignment[sc] ≠ entry sc) →
        ∃ t, exec (.preset (.hotkey a b)) s = .next t ∧
          t.tables = { s.tables with assignment := t.tables.assignment } ∧
          t.mgmt.generation = (if 63 ≤ s.mgmt.generation then 1 else s.mgmt.generation + 1) ∧ announced .table t ∧
          (∀ sc : ScreenNo, t.tables.assignment[sc] = entry sc ∧
            t.screens[sc].attached = s.screens[sc].attached ∧
            (s.tables.assignment[sc] = entry sc ∨ s.screens[sc].peek.isSome = true →
              t.screens[sc].displayed = s.screens[sc].displayed ∧
              t.screens[sc].pendingAssignment = s.screens[sc].pendingAssignment) ∧
            (s.tables.assignment[sc] ≠ entry sc →
              t.screens[sc].peek = s.screens[sc].peek.map (fun k => { k with base := entry sc }) ∧
              (s.screens[sc].peek = none → s.screens[sc].attached = true →
                t.screens[sc].pendingAssignment = some (entry sc) ∧
                t.screens[sc].displayed = s.screens[sc].displayed) ∧
              (s.screens[sc].peek = none → s.screens[sc].attached = false →
                t.screens[sc].displayed = entry sc))) ∧
          t.channels = s.channels ∧ t.lock = s.lock ∧ t.console.deskKeys = s.console.deskKeys ∧
          inOrder (fun sc => requestedAt sc (entry sc))
            (screenNos.filter fun sc => decide (s.tables.assignment[sc] ≠ entry sc)) (changeTables t.tables s) t)

/-- PEEK s c in UNLOCKED starts a peek of the full duration over the requested assignment, or turns one in progress to
channel c with its time set anew and its saved base kept; the channel is pending on a screen with a display, else
displayed, and the pointer re-seated. PEEK s 0 and the running out of the time end it: its base is requested. A start
and an end have the frame kinds computed anew and raise SCREEN. In LOCKED and LOCKOUT, out of range, and where there is
no peek to end, nothing happens (R68, R86, R87, R89). Log entries 2, 12 and 24 are the expiry and the clock, a peek turned
to the same channel, and the assignment table that stays. -/
def Obligations.PeeksStartAndEnd : Prop :=
  ∀ (a b : Byte) (s : State),
    let quiet := fun (sc : ScreenNo) (t : State) => t.tables = s.tables ∧ t.mgmt.generation = s.mgmt.generation ∧
      t.lock = s.lock ∧ t.channels = s.channels ∧ t.console.deskKeys = s.console.deskKeys ∧
      t.screens[sc].attached = s.screens[sc].attached ∧
      ∀ x : ScreenNo, x ≠ sc → t.screens[x].displayed = s.screens[x].displayed ∧
        t.screens[x].pendingAssignment = s.screens[x].pendingAssignment
    let requested := fun (sc : ScreenNo) (x : Assignment) (t : State) =>
      (s.screens[sc].attached = true → t.screens[sc].pendingAssignment = some x ∧
        t.screens[sc].displayed = s.screens[sc].displayed ∧ t.focus = s.focus ∧ t.glide = s.glide) ∧
      (s.screens[sc].attached = false → t.screens[sc].displayed = x ∧ reseated s t ∧ positionTold t)
    let ended := fun (sc : ScreenNo) (p : Peek) (t : State) => t.screens[sc].peek = none ∧ requested sc p.base t ∧
      announced .screen t ∧ framesAnew t ∧ quiet sc t
    let full := s.tables.options.peekDuration * 1000
    (s.lock.state ≠ .unlocked ∨ (∀ sc : ScreenNo, num sc ≠ a.toNat) ∨ 16 < b.toNat →
      exec (.peek (.hotkey a b)) s = .next s) ∧
    (∀ (sc : ScreenNo) (c : Channel), s.lock.state = .unlocked → num sc = a.toNat → num c = b.toNat →
      (s.screens[sc].peek = none →
        ∃ t, exec (.peek (.hotkey a b)) s = .next t ∧
          t.screens[sc].peek = some ⟨c, full, s.tables.assignment[sc]⟩ ∧ requested sc (.single (some c)) t ∧
          announced .screen t ∧ framesAnew t ∧ quiet sc t) ∧
      (∀ p : Peek, s.screens[sc].peek = some p → p.channel ≠ c →
        ∃ t, exec (.peek (.hotkey a b)) s = .next t ∧ t.screens[sc].peek = some ⟨c, full, p.base⟩ ∧
          requested sc (.single (some c)) t ∧ quiet sc t) ∧
      (∀ p : Peek, s.screens[sc].peek = some p → p.channel = c →
        exec (.peek (.hotkey a b)) s =
          .next (s.modScreen sc fun r => { r with peek := some ⟨c, full, p.base⟩ }))) ∧
    (∀ sc : ScreenNo, s.lock.state = .unlocked → num sc = a.toNat → b = 0 →
      (s.screens[sc].peek = none → exec (.peek (.hotkey a b)) s = .next s) ∧
      (∀ p : Peek, s.screens[sc].peek = some p → ∃ t, exec (.peek (.hotkey a b)) s = .next t ∧ ended sc p t)) ∧
    ∀ sc : ScreenNo,
      (s.screens[sc].peek = none → exec (.peekExpiry sc) s = .next s) ∧
      (∀ p : Peek, s.screens[sc].peek = some p →
        ∃ t, exec (.peekExpiry sc) s = .next t ∧ t.now = s.now + p.remaining ∧ ended sc p t)

/-- PARK_TOGGLE n turns the parked field of computer n, one change of the tables. A computer that becomes parked leaves the
broadcast set and the alert list, is the focus computer no longer, and has its belief set released if it was either; the
focus goes from it where FOCUS_NEXT would take it, or to none when no computer is to be found, and the pointer is then
re-seated; one that becomes unparked re-seats the pointer and has an entry when its alert condition holds; that its source is evaluated
after the re-seat is log entry 13. Either has the frame kinds computed anew. A number that is no computer's does nothing
(R32, R33, R68, R89). -/
def Obligations.ParkToggleWithdrawsComputer : Prop :=
  ∀ (a b : Byte) (s : State),
    ((∀ n : Computer, num n ≠ a.toNat) → exec (.parkToggle (.hotkey a b)) s = .next s) ∧
    ∀ n : Computer, num n = a.toNat →
      ∃ t, exec (.parkToggle (.hotkey a b)) s = .next t ∧
        t.tables = { s.tables with
          computer := s.tables.computer.set n
            { s.tables.computer[n] with parked := !s.tables.computer[n].parked } } ∧
        t.mgmt.generation = (if 63 ≤ s.mgmt.generation then 1 else s.mgmt.generation + 1) ∧ announced .table t ∧
        (s.tables.computer[n].parked = false →
          t.focus.broadcast[n] = false ∧ t.focus.focus ≠ some n ∧ (∀ e ∈ t.alerts.list, e.computer ≠ n) ∧
          (s.focus.focus = some n ∨ s.focus.broadcast[n] = true → t.focus.beliefs[n] = ⟨[], []⟩) ∧
          (s.focus.focus = some n → announced .focus t) ∧
          ∃ w, withdrawn n (changeTables t.tables s) w ∧ reseated w t ∧ positionTold t) ∧
        framesAnew t ∧
        (s.tables.computer[n].parked = true →
          t.focus.broadcast = s.focus.broadcast ∧ reseated s t ∧ positionTold t ∧
          ((∀ e ∈ s.alerts.list, e.computer ≠ n) → s.alerts.sources[n].known = true →
            (∃ i, s.tables.computer[n].alertIndicator = some i ∧
              s.ports[n].indicators.has i = decide (s.tables.computer[n].alertSense = .on)) →
            ⟨n, s.tables.computer[n].alertKind, .indicator⟩ ∈ t.alerts.list)) ∧
        (∀ m : Computer, m ≠ n → t.focus.broadcast[m] = s.focus.broadcast[m]) ∧ screensKept s t ∧
        t.lock = s.lock ∧ t.matcher = s.matcher ∧ t.channels = s.channels ∧
        t.console.deskKeys = s.console.deskKeys ∧ t.console.deskButtons = s.console.deskButtons

/-! ### Waking computers -/

/-- WAKE n asks for a wake of port n, WAKE 0 of the focus computer's. On a SUSPENDED port that may not be woken it is
refused: the belief set, the pending key queue and the held buttons are emptied, and WAKE is raised. On one that may,
it is deferred while the settle timer runs, merges into a deferred wake, and else starts attempt 1, with LINK. In
other link states it does nothing (R106, R154, R155). A press for a focus computer that is not READY asks for a wake when
it sleeps with no wake under way and wake on input is set; then, with a wake under way, it joins the pending key queue
while its reservation fits, else it is counted as dropped; without one it is discarded (R22, R23, R153). LINK at the start
of an attempt is log entry 9. -/
def Obligations.WakeRequestsAreTaken : Prop :=
  (∀ (a b : Byte) (s : State),
    ((∀ n : Computer, num n ≠ a.toNat) → (a = 0 → s.focus.focus = none) → exec (.wake (.hotkey a b)) s = .next s) ∧
    ∀ n : Computer, num n = a.toNat ∨ (a = 0 ∧ s.focus.focus = some n) →
      let allowed := s.ports[n].remoteWake = true ∧ s.tables.computer[n].wakePermitted = true
      (s.ports[n].link ≠ .suspended → exec (.wake (.hotkey a b)) s = .next s) ∧
      (s.ports[n].link = .suspended → allowed →
        (s.ports[n].deferred = true → exec (.wake (.hotkey a b)) s = .next s) ∧
        (s.ports[n].deferred = false → s.ports[n].settle.isSome = true →
          exec (.wake (.hotkey a b)) s = .next (s.modPort n fun p => { p with deferred := true })) ∧
        (s.ports[n].deferred = false → s.ports[n].settle = none →
          exec (.wake (.hotkey a b)) s =
            .next (raise .link (s.modPort n fun p =>
              { p with link := .waking, attempt := 1, phase := some .signalling,
                       attemptTimer := some (s.now + 10) })))) ∧
      (s.ports[n].link = .suspended → ¬ allowed →
        (s.typeout.sub ≠ some .waitingWake ∨ s.typeout.target ≠ some n) →
        exec (.wake (.hotkey a b)) s =
          .next (raise .wake ((s.modPort n fun p =>
            { p with
              lastWake := .refused
              deferred := false
              pendingKeys := []
              held := p.held.map fun r => { r with buttons := [] } }).setBelief n ⟨[], []⟩)))) ∧
  ∀ (c : ConsoleNo) (r : KeyInput) (k : Nat) (n : List Nat) (s : State) (f : Computer), PressAlone c r k n s →
    s.lock.state = .unlocked → s.typeout.state ≠ .typing → noHotkey k s → s.focus.focus = some f →
    s.ports[f].link ≠ .ready → (∀ m : Computer, m ≠ f → s.focus.broadcast[m] = false) →
    let entered := { keyEntered k s with matcher := { s.matcher with candidate := none } }
    let asks := s.ports[f].link = .suspended ∧ s.ports[f].deferred = false ∧ s.tables.options.wakeOnInput = true
    ∃ u, (asks → exec (.wake (.hotkey 0 0)) entered = .next u) ∧ (¬ asks → u = entered) ∧
      let p := u.ports[f]
      let keys := u.focus.beliefs[f].keys
      let queues := p.link = .waking ∨ (p.link = .suspended ∧ p.deferred = true)
      let fits := p.pendingKeys.length + unreleased p.pendingKeys + 1 ≤ 32
      (¬ queues ∨ k ∈ keys → exec (.keyboardReport c r) s = .next (keySetTaken c n u)) ∧
      (queues → k ∉ keys → fits →
        exec (.keyboardReport c r) s =
          .next (keySetTaken c n
            ((u.modPort f fun q => { q with pendingKeys := q.pendingKeys ++ [.press k] }).setBelief f
              { u.focus.beliefs[f] with keys := setInsert k keys }))) ∧
      (queues → k ∉ keys → ¬ fits →
        exec (.keyboardReport c r) s =
          .next (keySetTaken c n
            (u.modPort f fun q => { q with pressesDropped := min 65535 (q.pressesDropped + 1) })))

/-- WAKE_ALL, with no start list in progress, asks in port order for a wake of every SUSPENDED, unparked port that may
be woken: of the first at once and of the rest one by one as the stagger timer runs out, or of all at once with a
stagger of 0. Without such a port, and with a list in progress, it does nothing (R158; the stagger is read at each
use, log entry 25). The expiry as a command is log entry 2. -/
def Obligations.WakeAllTakesPortsInOrder : Prop :=
  ∀ (a b : Byte) (s : State) (l : List Computer),
    l = (computers.filter fun n => decide (s.ports[n].link = .suspended ∧ s.tables.computer[n].parked = false ∧
      s.tables.computer[n].wakePermitted = true)) →
    let one := fun (first : Computer) (rest : List Computer) (u : State) =>
      { wakeRequest first u with
        wakeAll := if rest = [] then ⟨[], none⟩ else ⟨rest, some (u.now + u.tables.options.wakeAllStagger)⟩ }
    let all := fun (l : List Computer) (u : State) =>
      { l.foldl (fun u n => wakeRequest n u) u with wakeAll := ⟨[], none⟩ }
    (s.wakeAll.startList ≠ [] ∨ l = [] → exec (.wakeAll (.hotkey a b)) s = .next s) ∧
    (∀ n rest, s.wakeAll.startList = [] → l = n :: rest →
      (s.tables.options.wakeAllStagger ≠ 0 → exec (.wakeAll (.hotkey a b)) s = .next (one n rest s)) ∧
      (s.tables.options.wakeAllStagger = 0 → exec (.wakeAll (.hotkey a b)) s = .next (all l s))) ∧
    (s.wakeAll.stagger = none → exec .staggerTimerExpiry s = .next s) ∧
    (∀ due n rest, s.wakeAll.stagger = some due → s.wakeAll.startList = n :: rest →
      (s.tables.options.wakeAllStagger ≠ 0 → exec .staggerTimerExpiry s = .next (one n rest (s.advanceTo due))) ∧
      (s.tables.options.wakeAllStagger = 0 →
        exec .staggerTimerExpiry s = .next (all (n :: rest) (s.advanceTo due))))

/-- A deferred wake is checked again when the settle timer runs out, and starts or is refused, which discards the pending
key queue and the belief set and raises WAKE; the signalling of an attempt gives way to a window of the length the options
give; when that runs out the next attempt begins, or after the last the wake
has failed: SUSPENDED, the pending key queue and the belief set discarded, the failure counted, WAKE and LINK raised.
Where the timer does not run the command is ignored (R154, R155, R157, R159; log entry 9). The last attempt is the one
whose number equals the option; that no attempt follows number 8, and what comes of an option lowered during a wake, is
log entry 8, the order of LINK and WAKE log entry 43, the expiry as a command log entry 2, the phase none after a failed wake log
entry 46. -/
def Obligations.WakeAttemptsRunTheirCourse : Prop :=
  ∀ (n : Computer) (s : State),
    (s.ports[n].settle = none → exec (.settleTimerExpiry n) s = .next s) ∧
    (∀ due, s.ports[n].settle = some due →
      (s.ports[n].deferred = false → exec (.settleTimerExpiry n) s =
        .next ((s.advanceTo due).modPort n fun p => { p with settle := none })) ∧
      (s.ports[n].deferred = true → s.ports[n].remoteWake = true → s.tables.computer[n].wakePermitted = true →
        exec (.settleTimerExpiry n) s =
          .next (raise .link ((s.advanceTo due).modPort n fun p =>
            { p with settle := none, deferred := false, link := .waking, attempt := 1, phase := some .signalling,
                     attemptTimer := some ((s.advanceTo due).now + 10) }))) ∧
      (s.ports[n].deferred = true → ¬ (s.ports[n].remoteWake = true ∧ s.tables.computer[n].wakePermitted = true) →
        s.typeout.sub ≠ some .waitingWake ∨ s.typeout.target ≠ some n →
        exec (.settleTimerExpiry n) s =
          .next (raise .wake (((s.advanceTo due).modPort n fun p =>
            { p with
              settle := none
              lastWake := .refused
              deferred := false
              pendingKeys := []
              held := p.held.map fun r => { r with buttons := [] } }).setBelief n ⟨[], []⟩)))) ∧
    (s.ports[n].phase ≠ some .signalling ∨ s.ports[n].attemptTimer = none →
      exec (.signallingEnd n) s = .next s) ∧
    (∀ due, s.ports[n].phase = some .signalling → s.ports[n].attemptTimer = some due →
      exec (.signallingEnd n) s =
        .next ((s.advanceTo due).modPort n fun p =>
          { p with phase := some .waiting
                   attemptTimer := some ((s.advanceTo due).now + s.tables.options.wakeWindow) })) ∧
    (s.ports[n].phase ≠ some .waiting ∨ s.ports[n].attemptTimer = none →
      exec (.wakeWindowExpiry n) s = .next s) ∧
    (∀ due, s.ports[n].phase = some .waiting → s.ports[n].attemptTimer = some due →
      (s.ports[n].attempt ≠ s.tables.options.wakeAttempts → s.ports[n].attempt < 8 → exec (.wakeWindowExpiry n) s =
        .next ((s.advanceTo due).modPort n fun p =>
          { p with link := .waking, attempt := p.attempt + 1, phase := some .signalling,
                   attemptTimer := some ((s.advanceTo due).now + 10) })) ∧
      (s.ports[n].attempt = s.tables.options.wakeAttempts ∨ 8 ≤ s.ports[n].attempt →
        s.typeout.sub ≠ some .waitingWake ∨ s.typeout.target ≠ some n →
        exec (.wakeWindowExpiry n) s =
          .next (raise .wake (raise .link (((s.advanceTo due).modPort n fun p =>
            { p with
              link := .suspended
              attempt := 0
              phase := none
              attemptTimer := none
              lastWake := .failed
              wakesFailed := min 65535 (p.wakesFailed + 1)
              pendingKeys := []
              held := p.held.map fun r => { r with buttons := [] } }).setBelief n ⟨[], []⟩)))))

/-! ### Type-out -/

/-- TYPE_TEXT by hotkey in UNLOCKED with a text HELD and a focus computer begins a type-out to that computer: on a
READY port it waits until nothing is held at the console, and with nothing held takes up the text at once, passing over
and counting characters that cannot be typed, to the first that can or to the end, COMPLETE; on a SUSPENDED or WAKING
one it asks for a wake and waits for it. TYPEOUT is raised. Otherwise it has no effect (R124, R126, R127). While it waits
for a wake, the port becoming READY leads on to the wait for a release, or to typing when nothing is held, and a wake
refused or failed cancels it with CANCELLED_WAKE (R125). The press of the first character is a step of its own, log entry
7; that characters are skipped when taken up is log entry 6, an expiry as a command log entry 2. -/
def Obligations.TypeTextBeginsTypeOut : Prop :=
  (∀ (a b : Byte) (s : State),
    (s.lock.state ≠ .unlocked ∨ s.typeout.state ≠ .held ∨ s.focus.focus = none →
      exec (.typeText (.hotkey a b)) s = .next s) ∧
    ∀ f : Computer, s.lock.state = .unlocked → s.typeout.state = .held → s.focus.focus = some f →
      let startedAt := fun (k : Nat) (sub : TypeSub) (pacing : Option Pacing) =>
        raise .typeout { s with
          typeout := { s.typeout with
            state := .typing
            sub := some sub
            target := some f
            index := k
            typed := 0
            skipped := k
            pacing := pacing } }
      let started := startedAt 0
      let desk := s.console.deskKeys = [] ∧ s.console.deskButtons = []
      (s.ports[f].link = .absent ∨ s.ports[f].link = .attaching ∨ s.ports[f].link = .stalled →
        exec (.typeText (.hotkey a b)) s = .next s) ∧
      (s.ports[f].link = .ready → ¬ desk →
        exec (.typeText (.hotkey a b)) s = .next (started .waitingRelease s.typeout.pacing)) ∧
      (∀ k code, s.ports[f].link = .ready → desk →
        (∀ j, j < k → ∃ d, s.typeout.text[j]? = some d ∧ (translate s.tables d).key = 0) →
        s.typeout.text[k]? = some code → (translate s.tables code).key ≠ 0 →
        exec (.typeText (.hotkey a b)) s = .next (startedAt k .active (some ⟨none, s.now⟩))) ∧
      (s.ports[f].link = .ready → desk → (∀ d ∈ s.typeout.text, (translate s.tables d).key = 0) →
        ∃ t, exec (.typeText (.hotkey a b)) s = .next t ∧ announced .typeout t ∧
          t = { s with
            ports := t.ports
            mgmt := { s.mgmt with summaries := t.mgmt.summaries }
            typeout := ⟨.held, none, s.typeout.text, s.typeout.depositor, none, 0, 0, 0, none,
              some ⟨.complete, 0, s.typeout.text.length⟩⟩ }) ∧
      (s.ports[f].link = .waking →
        exec (.typeText (.hotkey a b)) s = .next (started .waitingWake s.typeout.pacing)) ∧
      (s.ports[f].link = .suspended →
        ∃ t, exec (.wake (.hotkey 0 0)) (started .waitingWake s.typeout.pacing) = .next t ∧
          exec (.typeText (.hotkey a b)) s = .next t)) ∧
  ∀ (n : Computer) (a b : Byte) (s : State), s.typeout.state = .typing → s.typeout.sub = some .waitingWake →
    s.typeout.target = some n →
    let p := s.ports[n]
    let allowed := p.remoteWake = true ∧ s.tables.computer[n].wakePermitted = true
    let cancelled := fun (t : State) => t.typeout = ⟨.held, none, s.typeout.text, s.typeout.depositor, none, 0, 0, 0, none,
      some ⟨.cancelledWake, s.typeout.typed, s.typeout.skipped⟩⟩ ∧ announced .typeout t ∧ announced .wake t
    (p.link = .waking ∨ p.link = .suspended →
      (s.console.deskKeys ≠ [] ∨ s.console.deskButtons ≠ [] →
        ∃ t, exec (.resume n) s = .next t ∧ t.ports[n].link = .ready ∧
          t.typeout = { s.typeout with sub := some .waitingRelease }) ∧
      (∀ code, s.console.deskKeys = [] → s.console.deskButtons = [] →
        s.typeout.text[s.typeout.index]? = some code → (translate s.tables code).key ≠ 0 →
        ∃ t, exec (.resume n) s = .next t ∧ t.ports[n].link = .ready ∧
          t.typeout = { s.typeout with sub := some .active, pacing := some ⟨none, s.now⟩ })) ∧
    (p.link = .suspended → ¬ allowed → num n = a.toNat →
      ∃ t, exec (.wake (.hotkey a b)) s = .next t ∧ t.ports[n].lastWake = .refused ∧ cancelled t) ∧
    (p.link = .suspended → p.settle.isSome = true → p.deferred = true → ¬ allowed →
      ∃ t, exec (.settleTimerExpiry n) s = .next t ∧ t.ports[n].lastWake = .refused ∧ cancelled t) ∧
    (p.phase = some .waiting → p.attemptTimer.isSome = true → p.attempt = s.tables.options.wakeAttempts →
      ∃ t, exec (.wakeWindowExpiry n) s = .next t ∧ t.ports[n].lastWake = .failed ∧ cancelled t)

/-- With the target's key report queue empty and the pacing time reached, the unit presses the next character that can be
typed, the ones before it that cannot being passed over and counted: its key, with left Shift when the entry says so,
enters the target's belief set in one snapshot. Half the pacing later it is released in one snapshot, and the text is
taken up again in the same way; after the last character the type-out ends COMPLETE. Where no press, or no release, is
due the command is ignored (R123, R127, R128, R130, R131). The press as a step of its own, characters skipped when taken
up, the clock, and the one snapshot of a release whatever the belief set still holds are log entries 7, 6, 2 and 35. -/
def Obligations.TypeOutPressesAndReleases : Prop :=
  ∀ s : State,
    (s.typeout.sub ≠ some .active → exec .typeOutPress s = .next s ∧ exec .typeOutReleaseDue s = .next s) ∧
    ∀ (n : Computer) (pc : Pacing), s.typeout.sub = some .active → s.typeout.target = some n →
      s.typeout.state = .typing → s.typeout.pacing = some pc →
      let skips := fun (k : Nat) =>
        ∀ j, j < k → ∃ d, s.typeout.text[s.typeout.index + j]? = some d ∧ (translate s.tables d).key = 0
      (pc.pressed.isSome = true ∨ s.ports[n].keyQueue ≠ [] → exec .typeOutPress s = .next s) ∧
      (pc.pressed = none → exec .typeOutReleaseDue s = .next s) ∧
      (∀ k code, pc.pressed = none → s.ports[n].keyQueue = [] → skips k →
        s.typeout.text[s.typeout.index + k]? = some code → (translate s.tables code).key ≠ 0 →
        let e := translate s.tables code
        let later := s.advanceTo pc.nextPress
        let keys := setInsert e.key (if e.shift then setInsert 225 s.focus.beliefs[n].keys else s.focus.beliefs[n].keys)
        let half := s.tables.options.typePacing / 2
        exec .typeOutPress s =
          .next { (later.setBelief n { s.focus.beliefs[n] with keys := keys }).modPort n (Port.addSnapshot later.now keys) with
            typeout := { s.typeout with
              index := s.typeout.index + k + 1
              typed := s.typeout.typed + 1
              skipped := s.typeout.skipped + k
              pacing := some ⟨some ⟨e.key, e.shift, later.now + half⟩, later.now + s.tables.options.typePacing⟩ } }) ∧
      (∀ c : Pressed, pc.pressed = some c →
        let later := s.advanceTo c.releaseDue
        let keys := s.focus.beliefs[n].keys.filter fun k => !decide (k = c.key ∨ (c.shift = true ∧ k = 225))
        let released := (later.setBelief n { s.focus.beliefs[n] with keys := keys }).modPort n (Port.addSnapshot later.now keys)
        (∀ k code, skips k → s.typeout.text[s.typeout.index + k]? = some code → (translate s.tables code).key ≠ 0 →
          exec .typeOutReleaseDue s =
            .next { released with
              typeout := { s.typeout with
                index := s.typeout.index + k
                skipped := s.typeout.skipped + k
                pacing := some ⟨none, pc.nextPress⟩ } }) ∧
        ((∀ d ∈ s.typeout.text.drop s.typeout.index, (translate s.tables d).key = 0) →
          exec .typeOutReleaseDue s =
            .next (raise .typeout { released with
              typeout := ⟨.held, none, s.typeout.text, s.typeout.depositor, none, 0, 0, 0, none,
                some ⟨.complete, s.typeout.typed,
                  s.typeout.skipped + (s.typeout.text.length - s.typeout.index)⟩⟩ })))

/-! ### The links of the computer ports -/

/-- An attach at an ABSENT port leads to ATTACHING, one at any other is a detach and an attach; a configure makes an
ATTACHING port READY and records the permission to wake it, which is all it does elsewhere; in ABSENT it is ignored (R143).
LINK is raised at each change of state (R159; log entry 9). -/
def Obligations.PortsAttachAndConfigure : Prop :=
  ∀ (n : Computer) (w : Bool) (s : State),
    (s.ports[n].link = .absent →
      exec (.computerAttach n) s =
        .next (raise .link ((s.modPort n fun p => { p with link := .attaching }).setBelief n ⟨[], []⟩)) ∧
      exec (.configure n w) s = .next s) ∧
    (s.ports[n].link ≠ .absent →
      ∃ t u, exec (.computerDetach n) s = .next t ∧ exec (.computerAttach n) t = .next u ∧
        exec (.computerAttach n) s = .next u ∧ t.ports[n].link = .absent ∧ u.ports[n].link = .attaching) ∧
    (s.ports[n].link = .attaching → exec (.configure n w) s =
      .next (raise .link (s.modPort n fun p => { p with link := .ready, remoteWake := w }))) ∧
    (s.ports[n].link ≠ .absent → s.ports[n].link ≠ .attaching →
      exec (.configure n w) s = .next (s.modPort n fun p => { p with remoteWake := w }))

/-- A bus reset leads a port that is not ABSENT to ATTACHING and a detach to ABSENT: every timer is stopped, a wake
under way is ABORTED, the queues, the held report, the stored indicators, the reply slot and the notification are
emptied, the belief set is forgotten, an INDICATOR alert of the computer leaves, a type-out to it is cancelled, and
LINK is raised, and WAKE for the wake given up. The counters, the wake permission and the focus record stay; in ABSENT
nothing happens (R20, R133, R138, R144, R172). LINK at each change of state is log entry 9, the phase none outside WAKING log
entry 46. -/
def Obligations.LostLinksAreCleared : Prop :=
  ∀ (n : Computer) (i : Instr) (l : LinkState) (s : State),
    (i = .computerBusReset n ∧ l = .attaching) ∨ (i = .computerDetach n ∧ l = .absent) →
    (s.ports[n].link = .absent → exec i s = .next s) ∧
    (s.ports[n].link ≠ .absent →
      ∃ t, exec i s = .next t ∧
        t.ports[n] =
          { s.ports[n] with
            link := l
            settle := none
            deferred := false
            attempt := 0
            phase := none
            attemptTimer := none
            stall := none
            lastWake :=
              if s.ports[n].link = .waking ∨ (s.ports[n].link = .suspended ∧ s.ports[n].deferred = true) then .aborted
              else s.ports[n].lastWake
            keyQueue := []
            pointerQueue := []
            held := none
            pendingKeys := []
            indicators := Indicators.none
            slot := .empty
            notification := none } ∧
        t.focus = { s.focus with beliefs := s.focus.beliefs.set n ⟨[], []⟩ } ∧
        t.alerts.sources = s.alerts.sources.set n ⟨false, false⟩ ∧ t.alerts.rotation = s.alerts.rotation ∧
        t.alerts.list = s.alerts.list.filter (fun e => !decide (e.computer = n ∧ e.raisedBy = .indicator)) ∧
        (s.focus.focus = some n → t.console.mirrored = Indicators.none) ∧
        (s.typeout.target = some n → s.typeout.state = .typing → t.typeout.state = .held ∧
          t.typeout.outcome = some ⟨.cancelledLink, s.typeout.typed, s.typeout.skipped⟩) ∧
        (s.typeout.target ≠ some n → t.typeout = s.typeout) ∧
        (s.ports[n].link = .waking ∨ (s.ports[n].link = .suspended ∧ s.ports[n].deferred = true) → announced .wake t) ∧
        announced .link t ∧ t.glide = s.glide ∧ DeskKept s t)

/-- An indicator report in READY or STALLED replaces the stored set and makes the computer's source known. A rising of its
alert condition appends an entry for an unparked computer without one; a falling removes a LEVEL entry that an indicator
raised; nothing else changes the list. The lamps of the console follow the focus computer's set: an output of it starts at
each keyboard that shows something else and has none in flight, its byte being the set's. In other link states the report is
ignored (R16, R17, R133, R145, R179). That the state keeps the byte put out is log entry 5. -/
def Obligations.IndicatorReportsAreTakenUp : Prop :=
  ∀ (n : Computer) (lamps : Byte) (s : State),
    (s.ports[n].link ≠ .ready → s.ports[n].link ≠ .stalled → exec (.indicatorReport n lamps) s = .next s) ∧
    (s.ports[n].link = .ready ∨ s.ports[n].link = .stalled → s.console.mirrored = mirrorSource s →
      ∃ t, exec (.indicatorReport n lamps) s = .next t ∧
        let set := Indicators.ofByte lamps
        let e := s.tables.computer[n]
        let cond := ∃ i, e.alertIndicator = some i ∧ set.has i = decide (e.alertSense = .on)
        let old := s.alerts.sources[n].condition = true
        let entry := fun (x : AlertEntry) => x.computer = n
        t.ports[n].indicators = set ∧ t.alerts.rotation = s.alerts.rotation ∧
        (cond → t.alerts.sources = s.alerts.sources.set n ⟨true, true⟩) ∧
        (¬ cond → t.alerts.sources = s.alerts.sources.set n ⟨true, false⟩) ∧
        (cond → ¬ old → e.parked = false → (∀ x ∈ s.alerts.list, ¬ entry x) →
          t.alerts.list = s.alerts.list ++ [⟨n, e.alertKind, .indicator⟩] ∧ tookEvent .alert s t ∧ framesAnew t) ∧
        (¬ cond → old →
          t.alerts.list = s.alerts.list.filter (fun x =>
            !decide (x.computer = n ∧ x.kind = .level ∧ x.raisedBy = .indicator))) ∧
        ((cond ↔ old) ∨ (cond ∧ (e.parked = true ∨ ∃ x ∈ s.alerts.list, entry x)) →
          t.alerts.list = s.alerts.list ∧ t.mgmt = s.mgmt) ∧
        (s.focus.focus = some n → t.console.mirrored = set ∧
          ∀ (c : ConsoleNo) (keys : List Nat) (shown : Indicators), s.console.mirrored ≠ set →
            s.console.ports[c] = .keyboard keys shown none →
            t.console.ports[c] = .keyboard keys shown (if shown = set then none else some set) ∧
            t.console.outputs[c] = if shown = set then s.console.outputs[c] else some set.toByte) ∧
        (s.focus.focus ≠ some n → t.console = s.console) ∧
        t.focus = s.focus ∧ t.glide = s.glide ∧ t.typeout = s.typeout ∧ DeskKept s t)

/-- A poll of a READY port delivers the oldest report of the function polled, or says "no change", and starts the
stall timer again while a report remains, else stops it. The first poll of a STALLED port does so too and makes the
port READY, with LINK. In ATTACHING, SUSPENDED and WAKING a poll is answered "no change" and changes nothing; in
ABSENT it is ignored (R146, R149, R150; the answer is kept in the state, log entry 5). LINK is log entry 9. A snapshot is
64 bytes, the modifiers in byte 0 and the other keys, ascending, from byte 2 on; a pointer report is 7, with its kind, its
buttons, its position or counts and its wheel (R179). -/
def Obligations.PollsDeliverOldestReports : Prop :=
  ∀ (n : Computer) (s : State),
    let p := s.ports[n]
    let restarted := fun (kq : List (List Nat)) (pq : List PtrReport) =>
      if kq = [] ∧ pq = [] then none else some (s.now + 1000)
    let keys := { p with
      link := .ready
      keyQueue := p.keyQueue.tail
      stall := restarted p.keyQueue.tail p.pointerQueue
      keyAnswer := some (match p.keyQueue with
        | [] => .noChange
        | r :: _ => .report (snapshotBytes r)) }
    let pointer := { p with
      link := .ready
      pointerQueue := p.pointerQueue.tail
      stall := restarted p.keyQueue p.pointerQueue.tail
      pointerAnswer := some (match p.pointerQueue with
        | [] => .noChange
        | r :: _ => .report (pointerBytes r)) }
    (p.link = .ready →
      exec (.keyboardPoll n) s = .next (s.modPort n fun _ => keys) ∧
      exec (.pointerPoll n) s = .next (s.modPort n fun _ => pointer)) ∧
    (p.link = .stalled →
      exec (.keyboardPoll n) s = .next (raise .link (s.modPort n fun _ => keys)) ∧
      exec (.pointerPoll n) s = .next (raise .link (s.modPort n fun _ => pointer))) ∧
    (p.link = .attaching ∨ p.link = .suspended ∨ p.link = .waking →
      exec (.keyboardPoll n) s = .next (s.modPort n fun q => { q with keyAnswer := some .noChange }) ∧
      exec (.pointerPoll n) s = .next (s.modPort n fun q => { q with pointerAnswer := some .noChange })) ∧
    (p.link = .absent → exec (.keyboardPoll n) s = .next s ∧ exec (.pointerPoll n) s = .next s) ∧
    (∀ keys : List Nat, keys.Pairwise (· < ·) →
      let others := keys.filter fun k => decide (k < 224 ∨ 231 < k)
      let R := snapshotBytes keys
      others.length ≤ 62 → R.length = 64 ∧ R[1]? = some 0 ∧
        (∃ b : Byte, R[0]? = some b ∧ ∀ i, i < 8 → b.getLsbD i = decide (224 + i ∈ keys)) ∧
        ∀ i, i < 62 → R[2 + i]? = some (byte (others[i]?.getD 0))) ∧
    ∀ r : PtrReport, r.buttons.Pairwise (· < ·) → (∀ b ∈ r.buttons, 1 ≤ b ∧ b ≤ 8) →
      let R := pointerBytes r
      let held := ∃ b : Byte, R[1]? = some b ∧ ∀ i, i < 8 → b.getLsbD i = decide (i + 1 ∈ r.buttons)
      R.length = 7 ∧ held ∧
        (r.kind = .absolute → R[0]? = some 1 ∧
          R[2]? = some (byte r.x.toNat) ∧ R[3]? = some (byte (r.x.toNat / 256)) ∧
          R[4]? = some (byte r.y.toNat) ∧ R[5]? = some (byte (r.y.toNat / 256)) ∧
          R[6]? = some (BitVec.ofInt 8 r.wheel)) ∧
        (r.kind = .relative → R[0]? = some 2 ∧ R[2]? = some (BitVec.ofInt 8 r.x) ∧ R[3]? = some (BitVec.ofInt 8 r.y) ∧
          R[4]? = some (BitVec.ofInt 8 r.wheel) ∧ R[5]? = some 0 ∧ R[6]? = some 0)

/-- When the stall timer runs out the port is STALLED, its queues replaced by one report of nothing held each; a
suspend of a READY or STALLED port makes it SUSPENDED with its queues empty and the settle timer running for 50 ms.
Either forgets the belief set, cancels a type-out to the port that waits for a release or types, and raises LINK
(R150, R151). The expiry as a command is log entry 2, LINK log entry 9. -/
def Obligations.PortsStallAndSuspend : Prop :=
  ∀ (n : Computer) (s : State),
    let undisturbed := s.typeout.target ≠ some n
    let typing := s.typeout.target = some n ∧ s.typeout.state = .typing ∧
      (s.typeout.sub = some .waitingRelease ∨ s.typeout.sub = some .active)
    let cancelled := fun (t : State) => t.typeout.state = .held ∧
      t.typeout.outcome = some ⟨.cancelledLink, s.typeout.typed, s.typeout.skipped⟩ ∧ announced .typeout t
    (s.ports[n].stall = none → exec (.stallTimerExpiry n) s = .next s) ∧
    (∀ due, s.ports[n].stall = some due →
      (undisturbed → exec (.stallTimerExpiry n) s =
        .next (raise .link (((s.advanceTo due).modPort n fun p =>
          { p with
            link := .stalled
            stall := none
            keyQueue := [[]]
            pointerQueue := [⟨.relative, 0, 0, [], 0⟩] }).setBelief n ⟨[], []⟩))) ∧
      (typing → ∃ t, exec (.stallTimerExpiry n) s = .next t ∧ t.ports[n].link = .stalled ∧
        t.ports[n].keyQueue = [[]] ∧ t.focus.beliefs[n] = ⟨[], []⟩ ∧ cancelled t)) ∧
    (s.ports[n].link ≠ .ready → s.ports[n].link ≠ .stalled → exec (.suspend n) s = .next s) ∧
    (s.ports[n].link = .ready ∨ s.ports[n].link = .stalled →
      (undisturbed → exec (.suspend n) s =
        .next (raise .link ((s.modPort n fun p =>
          { p with
            link := .suspended
            keyQueue := []
            pointerQueue := []
            stall := none
            settle := some (s.now + 50)
            deferred := false
            held := none
            notification := none }).setBelief n ⟨[], []⟩))) ∧
      (typing → ∃ t, exec (.suspend n) s = .next t ∧ t.ports[n].link = .suspended ∧ t.ports[n].keyQueue = [] ∧
        t.focus.beliefs[n] = ⟨[], []⟩ ∧ cancelled t))

/-- A resume makes a WAKING or SUSPENDED port READY: it replays the pending key queue, a snapshot for each event, the
16th and later ones taking the newest one's place, so that the last is what the replay leaves held; then it queues the
held pointer report. A wake under way is DONE, with WAKE, and LINK is raised. In other link states a resume is ignored
(R156, R147). A type-out that waits for this wake goes on as TypeTextBeginsTypeOut states; queued reports before a resume,
which R151 and R152 rule out, are no case of it. LINK is log entry 9, the phase none outside WAKING log entry 46. -/
def Obligations.ResumeReplaysPendingKeys : Prop :=
  ∀ (n : Computer) (s : State),
    let p := s.ports[n]
    let underWay := p.link = .waking ∨ (p.link = .suspended ∧ p.deferred = true)
    (p.link ≠ .waking → p.link ≠ .suspended → exec (.resume n) s = .next s) ∧
    (p.link = .waking ∨ p.link = .suspended → p.keyQueue = [] → p.pointerQueue = [] →
      ∃ t, exec (.resume n) s = .next t ∧
        t.ports[n] =
          { p with
            link := .ready
            settle := none
            deferred := false
            attempt := 0
            phase := none
            attemptTimer := none
            lastWake := if underWay then .done else p.lastWake
            pendingKeys := []
            held := none
            keyQueue := t.ports[n].keyQueue
            pointerQueue := p.held.toList
            keyOverruns := t.ports[n].keyOverruns
            stall := if p.pendingKeys = [] ∧ p.held = none then p.stall else some (s.now + 1000)
            notification := t.ports[n].notification } ∧
        t.ports[n].keyQueue.length = min 16 p.pendingKeys.length ∧
        (∀ i, i < 15 → i < p.pendingKeys.length →
          t.ports[n].keyQueue[i]? = some (replaySet [] (p.pendingKeys.take (i + 1)))) ∧
        (p.pendingKeys ≠ [] → t.ports[n].keyQueue.getLast? = some (replaySet [] p.pendingKeys)) ∧
        (p.keyOverruns ≤ 65535 → t.ports[n].keyOverruns = min 65535 (p.keyOverruns + (p.pendingKeys.length - 16))) ∧
        (underWay → announced .wake t) ∧ announced .link t ∧ (s.typeout.target ≠ some n → t.typeout = s.typeout) ∧
        (∀ m : Computer, m ≠ n → t.ports[m].keyQueue = s.ports[m].keyQueue ∧ t.ports[m].link = s.ports[m].link) ∧
        t = { s with ports := t.ports, typeout := t.typeout, mgmt := { s.mgmt with summaries := t.mgmt.summaries } })

/-! ### Invariants -/

/-- The state after power-on reset, with no valid image in the store (the model's choice, log entry 3), meets every law of
the model's safety file. That no port has an attempt phase then is log entry 46. -/
def Obligations.ResetMeetsEveryLaw : Prop :=
  ConsoleSafe State.reset ∧ ParkSafe State.reset ∧ TablesSafe State.reset ∧ PortsSafe State.reset ∧
    PointerSafe State.reset

/-- Every step keeps the desk states the unions of the console devices' last sets, each of these a set without
duplicates, and the console's mirrored value in agreement with the focus computer's stored indicators (R6, R9, R12,
R16). That the model keeps a set as an ascending list is no more than its form. -/
def Obligations.StepKeepsConsole : Prop :=
  ∀ s t : State, ConsoleSafe s → step s = .next t → ConsoleSafe t

/-- Every step leaves no parked computer the focus computer, a broadcast member or in the alert list, at most one alert entry
a computer, and each computer once in the rotation order (R32, R135, R139). -/
def Obligations.StepKeepsParked : Prop :=
  ∀ s t : State, ParkSafe s → step s = .next t → ParkSafe t

/-- Every step keeps the tables in force, stored and being saved valid: fields in range, at least one manager, no enabled
screens overlapping; a console that is not UNLOCKED keeps a sequence to unlock it with, the lock record and the generation
counter stay legal (R46, R113, R114, R162, R163, R167, R174). That a disabled layout entry too has both native sizes 0 or
neither is log entry 39. -/
def Obligations.StepKeepsTables : Prop :=
  ∀ s t : State, TablesSafe s → step s = .next t → TablesSafe t

/-- Every step keeps each computer port legal, with the belief set of its computer, and the mailbox: queues within their
capacities, the belief set equal to what the pending key queue will replay, nothing believed held where nothing was
told, each timer running in the states it belongs to, index equal to typed plus skipped. Every key of a belief set is in
the desk key state, or is the character or the Shift key that the ACTIVE type-out to that computer holds pressed; every
button of one is in the desk button state (R19). A console that is not UNLOCKED types nothing, and every belief set is
empty then (R41, R115, R116). (R121, R127, R142 to R159.) That a port has an attempt phase in WAKING and in no other
state is log entry 46. -/
def Obligations.StepKeepsPorts : Prop :=
  ∀ s t : State, PortsSafe s → step s = .next t → PortsSafe t

/-- Every step from a state with valid tables keeps the pointer inside a live tile while one exists, in GLIDE one of the
focus computer's, and unseated in DETACHED while none does (R35, R44, R55). -/
def Obligations.StepKeepsPointer : Prop :=
  ∀ s t : State, TablesSafe s → PointerSafe s → step s = .next t → PointerSafe t
end

