-- ==== Sys2Proof/Laws/State.lean ====
section
/-! SUPPORT. One lemma per field per update of the state, so that no later proof unfolds a record update. -/

namespace Sys2Proof.Machine

@[simp] theorem State.setNow_now (s : State) (v : Nat) : (s.setNow v).now = v := rfl
@[simp] theorem State.setNow_pending (s : State) (v : Nat) : (s.setNow v).pending = s.pending := rfl
@[simp] theorem State.setNow_console (s : State) (v : Nat) : (s.setNow v).console = s.console := rfl
@[simp] theorem State.setNow_lock (s : State) (v : Nat) : (s.setNow v).lock = s.lock := rfl
@[simp] theorem State.setNow_matcher (s : State) (v : Nat) : (s.setNow v).matcher = s.matcher := rfl
@[simp] theorem State.setNow_focus (s : State) (v : Nat) : (s.setNow v).focus = s.focus := rfl
@[simp] theorem State.setNow_glide (s : State) (v : Nat) : (s.setNow v).glide = s.glide := rfl
@[simp] theorem State.setNow_screens (s : State) (v : Nat) : (s.setNow v).screens = s.screens := rfl
@[simp] theorem State.setNow_channels (s : State) (v : Nat) : (s.setNow v).channels = s.channels := rfl
@[simp] theorem State.setNow_ports (s : State) (v : Nat) : (s.setNow v).ports = s.ports := rfl
@[simp] theorem State.setNow_wakeAll (s : State) (v : Nat) : (s.setNow v).wakeAll = s.wakeAll := rfl
@[simp] theorem State.setNow_typeout (s : State) (v : Nat) : (s.setNow v).typeout = s.typeout := rfl
@[simp] theorem State.setNow_alerts (s : State) (v : Nat) : (s.setNow v).alerts = s.alerts := rfl
@[simp] theorem State.setNow_mgmt (s : State) (v : Nat) : (s.setNow v).mgmt = s.mgmt := rfl
@[simp] theorem State.setNow_tables (s : State) (v : Nat) : (s.setNow v).tables = s.tables := rfl
@[simp] theorem State.setNow_store (s : State) (v : Nat) : (s.setNow v).store = s.store := rfl

@[simp] theorem State.setConsole_now (s : State) (v : Console) : (s.setConsole v).now = s.now := rfl
@[simp] theorem State.setConsole_pending (s : State) (v : Console) : (s.setConsole v).pending = s.pending := rfl
@[simp] theorem State.setConsole_console (s : State) (v : Console) : (s.setConsole v).console = v := rfl
@[simp] theorem State.setConsole_lock (s : State) (v : Console) : (s.setConsole v).lock = s.lock := rfl
@[simp] theorem State.setConsole_matcher (s : State) (v : Console) : (s.setConsole v).matcher = s.matcher := rfl
@[simp] theorem State.setConsole_focus (s : State) (v : Console) : (s.setConsole v).focus = s.focus := rfl
@[simp] theorem State.setConsole_glide (s : State) (v : Console) : (s.setConsole v).glide = s.glide := rfl
@[simp] theorem State.setConsole_screens (s : State) (v : Console) : (s.setConsole v).screens = s.screens := rfl
@[simp] theorem State.setConsole_channels (s : State) (v : Console) : (s.setConsole v).channels = s.channels := rfl
@[simp] theorem State.setConsole_ports (s : State) (v : Console) : (s.setConsole v).ports = s.ports := rfl
@[simp] theorem State.setConsole_wakeAll (s : State) (v : Console) : (s.setConsole v).wakeAll = s.wakeAll := rfl
@[simp] theorem State.setConsole_typeout (s : State) (v : Console) : (s.setConsole v).typeout = s.typeout := rfl
@[simp] theorem State.setConsole_alerts (s : State) (v : Console) : (s.setConsole v).alerts = s.alerts := rfl
@[simp] theorem State.setConsole_mgmt (s : State) (v : Console) : (s.setConsole v).mgmt = s.mgmt := rfl
@[simp] theorem State.setConsole_tables (s : State) (v : Console) : (s.setConsole v).tables = s.tables := rfl
@[simp] theorem State.setConsole_store (s : State) (v : Console) : (s.setConsole v).store = s.store := rfl

@[simp] theorem State.setLock_now (s : State) (v : Lock) : (s.setLock v).now = s.now := rfl
@[simp] theorem State.setLock_pending (s : State) (v : Lock) : (s.setLock v).pending = s.pending := rfl
@[simp] theorem State.setLock_console (s : State) (v : Lock) : (s.setLock v).console = s.console := rfl
@[simp] theorem State.setLock_lock (s : State) (v : Lock) : (s.setLock v).lock = v := rfl
@[simp] theorem State.setLock_matcher (s : State) (v : Lock) : (s.setLock v).matcher = s.matcher := rfl
@[simp] theorem State.setLock_focus (s : State) (v : Lock) : (s.setLock v).focus = s.focus := rfl
@[simp] theorem State.setLock_glide (s : State) (v : Lock) : (s.setLock v).glide = s.glide := rfl
@[simp] theorem State.setLock_screens (s : State) (v : Lock) : (s.setLock v).screens = s.screens := rfl
@[simp] theorem State.setLock_channels (s : State) (v : Lock) : (s.setLock v).channels = s.channels := rfl
@[simp] theorem State.setLock_ports (s : State) (v : Lock) : (s.setLock v).ports = s.ports := rfl
@[simp] theorem State.setLock_wakeAll (s : State) (v : Lock) : (s.setLock v).wakeAll = s.wakeAll := rfl
@[simp] theorem State.setLock_typeout (s : State) (v : Lock) : (s.setLock v).typeout = s.typeout := rfl
@[simp] theorem State.setLock_alerts (s : State) (v : Lock) : (s.setLock v).alerts = s.alerts := rfl
@[simp] theorem State.setLock_mgmt (s : State) (v : Lock) : (s.setLock v).mgmt = s.mgmt := rfl
@[simp] theorem State.setLock_tables (s : State) (v : Lock) : (s.setLock v).tables = s.tables := rfl
@[simp] theorem State.setLock_store (s : State) (v : Lock) : (s.setLock v).store = s.store := rfl

@[simp] theorem State.setMatcher_now (s : State) (v : Matcher) : (s.setMatcher v).now = s.now := rfl
@[simp] theorem State.setMatcher_pending (s : State) (v : Matcher) : (s.setMatcher v).pending = s.pending := rfl
@[simp] theorem State.setMatcher_console (s : State) (v : Matcher) : (s.setMatcher v).console = s.console := rfl
@[simp] theorem State.setMatcher_lock (s : State) (v : Matcher) : (s.setMatcher v).lock = s.lock := rfl
@[simp] theorem State.setMatcher_matcher (s : State) (v : Matcher) : (s.setMatcher v).matcher = v := rfl
@[simp] theorem State.setMatcher_focus (s : State) (v : Matcher) : (s.setMatcher v).focus = s.focus := rfl
@[simp] theorem State.setMatcher_glide (s : State) (v : Matcher) : (s.setMatcher v).glide = s.glide := rfl
@[simp] theorem State.setMatcher_screens (s : State) (v : Matcher) : (s.setMatcher v).screens = s.screens := rfl
@[simp] theorem State.setMatcher_channels (s : State) (v : Matcher) : (s.setMatcher v).channels = s.channels := rfl
@[simp] theorem State.setMatcher_ports (s : State) (v : Matcher) : (s.setMatcher v).ports = s.ports := rfl
@[simp] theorem State.setMatcher_wakeAll (s : State) (v : Matcher) : (s.setMatcher v).wakeAll = s.wakeAll := rfl
@[simp] theorem State.setMatcher_typeout (s : State) (v : Matcher) : (s.setMatcher v).typeout = s.typeout := rfl
@[simp] theorem State.setMatcher_alerts (s : State) (v : Matcher) : (s.setMatcher v).alerts = s.alerts := rfl
@[simp] theorem State.setMatcher_mgmt (s : State) (v : Matcher) : (s.setMatcher v).mgmt = s.mgmt := rfl
@[simp] theorem State.setMatcher_tables (s : State) (v : Matcher) : (s.setMatcher v).tables = s.tables := rfl
@[simp] theorem State.setMatcher_store (s : State) (v : Matcher) : (s.setMatcher v).store = s.store := rfl

@[simp] theorem State.setFocus_now (s : State) (v : FocusCtl) : (s.setFocus v).now = s.now := rfl
@[simp] theorem State.setFocus_pending (s : State) (v : FocusCtl) : (s.setFocus v).pending = s.pending := rfl
@[simp] theorem State.setFocus_console (s : State) (v : FocusCtl) : (s.setFocus v).console = s.console := rfl
@[simp] theorem State.setFocus_lock (s : State) (v : FocusCtl) : (s.setFocus v).lock = s.lock := rfl
@[simp] theorem State.setFocus_matcher (s : State) (v : FocusCtl) : (s.setFocus v).matcher = s.matcher := rfl
@[simp] theorem State.setFocus_focus (s : State) (v : FocusCtl) : (s.setFocus v).focus = v := rfl
@[simp] theorem State.setFocus_glide (s : State) (v : FocusCtl) : (s.setFocus v).glide = s.glide := rfl
@[simp] theorem State.setFocus_screens (s : State) (v : FocusCtl) : (s.setFocus v).screens = s.screens := rfl
@[simp] theorem State.setFocus_channels (s : State) (v : FocusCtl) : (s.setFocus v).channels = s.channels := rfl
@[simp] theorem State.setFocus_ports (s : State) (v : FocusCtl) : (s.setFocus v).ports = s.ports := rfl
@[simp] theorem State.setFocus_wakeAll (s : State) (v : FocusCtl) : (s.setFocus v).wakeAll = s.wakeAll := rfl
@[simp] theorem State.setFocus_typeout (s : State) (v : FocusCtl) : (s.setFocus v).typeout = s.typeout := rfl
@[simp] theorem State.setFocus_alerts (s : State) (v : FocusCtl) : (s.setFocus v).alerts = s.alerts := rfl
@[simp] theorem State.setFocus_mgmt (s : State) (v : FocusCtl) : (s.setFocus v).mgmt = s.mgmt := rfl
@[simp] theorem State.setFocus_tables (s : State) (v : FocusCtl) : (s.setFocus v).tables = s.tables := rfl
@[simp] theorem State.setFocus_store (s : State) (v : FocusCtl) : (s.setFocus v).store = s.store := rfl

@[simp] theorem State.setGlide_now (s : State) (v : Glide) : (s.setGlide v).now = s.now := rfl
@[simp] theorem State.setGlide_pending (s : State) (v : Glide) : (s.setGlide v).pending = s.pending := rfl
@[simp] theorem State.setGlide_console (s : State) (v : Glide) : (s.setGlide v).console = s.console := rfl
@[simp] theorem State.setGlide_lock (s : State) (v : Glide) : (s.setGlide v).lock = s.lock := rfl
@[simp] theorem State.setGlide_matcher (s : State) (v : Glide) : (s.setGlide v).matcher = s.matcher := rfl
@[simp] theorem State.setGlide_focus (s : State) (v : Glide) : (s.setGlide v).focus = s.focus := rfl
@[simp] theorem State.setGlide_glide (s : State) (v : Glide) : (s.setGlide v).glide = v := rfl
@[simp] theorem State.setGlide_screens (s : State) (v : Glide) : (s.setGlide v).screens = s.screens := rfl
@[simp] theorem State.setGlide_channels (s : State) (v : Glide) : (s.setGlide v).channels = s.channels := rfl
@[simp] theorem State.setGlide_ports (s : State) (v : Glide) : (s.setGlide v).ports = s.ports := rfl
@[simp] theorem State.setGlide_wakeAll (s : State) (v : Glide) : (s.setGlide v).wakeAll = s.wakeAll := rfl
@[simp] theorem State.setGlide_typeout (s : State) (v : Glide) : (s.setGlide v).typeout = s.typeout := rfl
@[simp] theorem State.setGlide_alerts (s : State) (v : Glide) : (s.setGlide v).alerts = s.alerts := rfl
@[simp] theorem State.setGlide_mgmt (s : State) (v : Glide) : (s.setGlide v).mgmt = s.mgmt := rfl
@[simp] theorem State.setGlide_tables (s : State) (v : Glide) : (s.setGlide v).tables = s.tables := rfl
@[simp] theorem State.setGlide_store (s : State) (v : Glide) : (s.setGlide v).store = s.store := rfl

@[simp] theorem State.setScreens_now (s : State) (v : Vector Screen 8) : (s.setScreens v).now = s.now := rfl
@[simp] theorem State.setScreens_pending (s : State) (v : Vector Screen 8) : (s.setScreens v).pending = s.pending := rfl
@[simp] theorem State.setScreens_console (s : State) (v : Vector Screen 8) : (s.setScreens v).console = s.console := rfl
@[simp] theorem State.setScreens_lock (s : State) (v : Vector Screen 8) : (s.setScreens v).lock = s.lock := rfl
@[simp] theorem State.setScreens_matcher (s : State) (v : Vector Screen 8) : (s.setScreens v).matcher = s.matcher := rfl
@[simp] theorem State.setScreens_focus (s : State) (v : Vector Screen 8) : (s.setScreens v).focus = s.focus := rfl
@[simp] theorem State.setScreens_glide (s : State) (v : Vector Screen 8) : (s.setScreens v).glide = s.glide := rfl
@[simp] theorem State.setScreens_screens (s : State) (v : Vector Screen 8) : (s.setScreens v).screens = v := rfl
@[simp] theorem State.setScreens_channels (s : State) (v : Vector Screen 8) : (s.setScreens v).channels = s.channels := rfl
@[simp] theorem State.setScreens_ports (s : State) (v : Vector Screen 8) : (s.setScreens v).ports = s.ports := rfl
@[simp] theorem State.setScreens_wakeAll (s : State) (v : Vector Screen 8) : (s.setScreens v).wakeAll = s.wakeAll := rfl
@[simp] theorem State.setScreens_typeout (s : State) (v : Vector Screen 8) : (s.setScreens v).typeout = s.typeout := rfl
@[simp] theorem State.setScreens_alerts (s : State) (v : Vector Screen 8) : (s.setScreens v).alerts = s.alerts := rfl
@[simp] theorem State.setScreens_mgmt (s : State) (v : Vector Screen 8) : (s.setScreens v).mgmt = s.mgmt := rfl
@[simp] theorem State.setScreens_tables (s : State) (v : Vector Screen 8) : (s.setScreens v).tables = s.tables := rfl
@[simp] theorem State.setScreens_store (s : State) (v : Vector Screen 8) : (s.setScreens v).store = s.store := rfl

@[simp] theorem State.setChannels_now (s : State) (v : Vector ChannelRt 16) : (s.setChannels v).now = s.now := rfl
@[simp] theorem State.setChannels_pending (s : State) (v : Vector ChannelRt 16) : (s.setChannels v).pending = s.pending := rfl
@[simp] theorem State.setChannels_console (s : State) (v : Vector ChannelRt 16) : (s.setChannels v).console = s.console := rfl
@[simp] theorem State.setChannels_lock (s : State) (v : Vector ChannelRt 16) : (s.setChannels v).lock = s.lock := rfl
@[simp] theorem State.setChannels_matcher (s : State) (v : Vector ChannelRt 16) : (s.setChannels v).matcher = s.matcher := rfl
@[simp] theorem State.setChannels_focus (s : State) (v : Vector ChannelRt 16) : (s.setChannels v).focus = s.focus := rfl
@[simp] theorem State.setChannels_glide (s : State) (v : Vector ChannelRt 16) : (s.setChannels v).glide = s.glide := rfl
@[simp] theorem State.setChannels_screens (s : State) (v : Vector ChannelRt 16) : (s.setChannels v).screens = s.screens := rfl
@[simp] theorem State.setChannels_channels (s : State) (v : Vector ChannelRt 16) : (s.setChannels v).channels = v := rfl
@[simp] theorem State.setChannels_ports (s : State) (v : Vector ChannelRt 16) : (s.setChannels v).ports = s.ports := rfl
@[simp] theorem State.setChannels_wakeAll (s : State) (v : Vector ChannelRt 16) : (s.setChannels v).wakeAll = s.wakeAll := rfl
@[simp] theorem State.setChannels_typeout (s : State) (v : Vector ChannelRt 16) : (s.setChannels v).typeout = s.typeout := rfl
@[simp] theorem State.setChannels_alerts (s : State) (v : Vector ChannelRt 16) : (s.setChannels v).alerts = s.alerts := rfl
@[simp] theorem State.setChannels_mgmt (s : State) (v : Vector ChannelRt 16) : (s.setChannels v).mgmt = s.mgmt := rfl
@[simp] theorem State.setChannels_tables (s : State) (v : Vector ChannelRt 16) : (s.setChannels v).tables = s.tables := rfl
@[simp] theorem State.setChannels_store (s : State) (v : Vector ChannelRt 16) : (s.setChannels v).store = s.store := rfl

@[simp] theorem State.setPorts_now (s : State) (v : Vector Port 8) : (s.setPorts v).now = s.now := rfl
@[simp] theorem State.setPorts_pending (s : State) (v : Vector Port 8) : (s.setPorts v).pending = s.pending := rfl
@[simp] theorem State.setPorts_console (s : State) (v : Vector Port 8) : (s.setPorts v).console = s.console := rfl
@[simp] theorem State.setPorts_lock (s : State) (v : Vector Port 8) : (s.setPorts v).lock = s.lock := rfl
@[simp] theorem State.setPorts_matcher (s : State) (v : Vector Port 8) : (s.setPorts v).matcher = s.matcher := rfl
@[simp] theorem State.setPorts_focus (s : State) (v : Vector Port 8) : (s.setPorts v).focus = s.focus := rfl
@[simp] theorem State.setPorts_glide (s : State) (v : Vector Port 8) : (s.setPorts v).glide = s.glide := rfl
@[simp] theorem State.setPorts_screens (s : State) (v : Vector Port 8) : (s.setPorts v).screens = s.screens := rfl
@[simp] theorem State.setPorts_channels (s : State) (v : Vector Port 8) : (s.setPorts v).channels = s.channels := rfl
@[simp] theorem State.setPorts_ports (s : State) (v : Vector Port 8) : (s.setPorts v).ports = v := rfl
@[simp] theorem State.setPorts_wakeAll (s : State) (v : Vector Port 8) : (s.setPorts v).wakeAll = s.wakeAll := rfl
@[simp] theorem State.setPorts_typeout (s : State) (v : Vector Port 8) : (s.setPorts v).typeout = s.typeout := rfl
@[simp] theorem State.setPorts_alerts (s : State) (v : Vector Port 8) : (s.setPorts v).alerts = s.alerts := rfl
@[simp] theorem State.setPorts_mgmt (s : State) (v : Vector Port 8) : (s.setPorts v).mgmt = s.mgmt := rfl
@[simp] theorem State.setPorts_tables (s : State) (v : Vector Port 8) : (s.setPorts v).tables = s.tables := rfl
@[simp] theorem State.setPorts_store (s : State) (v : Vector Port 8) : (s.setPorts v).store = s.store := rfl

@[simp] theorem State.setWakeAll_now (s : State) (v : WakeAll) : (s.setWakeAll v).now = s.now := rfl
@[simp] theorem State.setWakeAll_pending (s : State) (v : WakeAll) : (s.setWakeAll v).pending = s.pending := rfl
@[simp] theorem State.setWakeAll_console (s : State) (v : WakeAll) : (s.setWakeAll v).console = s.console := rfl
@[simp] theorem State.setWakeAll_lock (s : State) (v : WakeAll) : (s.setWakeAll v).lock = s.lock := rfl
@[simp] theorem State.setWakeAll_matcher (s : State) (v : WakeAll) : (s.setWakeAll v).matcher = s.matcher := rfl
@[simp] theorem State.setWakeAll_focus (s : State) (v : WakeAll) : (s.setWakeAll v).focus = s.focus := rfl
@[simp] theorem State.setWakeAll_glide (s : State) (v : WakeAll) : (s.setWakeAll v).glide = s.glide := rfl
@[simp] theorem State.setWakeAll_screens (s : State) (v : WakeAll) : (s.setWakeAll v).screens = s.screens := rfl
@[simp] theorem State.setWakeAll_channels (s : State) (v : WakeAll) : (s.setWakeAll v).channels = s.channels := rfl
@[simp] theorem State.setWakeAll_ports (s : State) (v : WakeAll) : (s.setWakeAll v).ports = s.ports := rfl
@[simp] theorem State.setWakeAll_wakeAll (s : State) (v : WakeAll) : (s.setWakeAll v).wakeAll = v := rfl
@[simp] theorem State.setWakeAll_typeout (s : State) (v : WakeAll) : (s.setWakeAll v).typeout = s.typeout := rfl
@[simp] theorem State.setWakeAll_alerts (s : State) (v : WakeAll) : (s.setWakeAll v).alerts = s.alerts := rfl
@[simp] theorem State.setWakeAll_mgmt (s : State) (v : WakeAll) : (s.setWakeAll v).mgmt = s.mgmt := rfl
@[simp] theorem State.setWakeAll_tables (s : State) (v : WakeAll) : (s.setWakeAll v).tables = s.tables := rfl
@[simp] theorem State.setWakeAll_store (s : State) (v : WakeAll) : (s.setWakeAll v).store = s.store := rfl

@[simp] theorem State.setTypeout_now (s : State) (v : Typeout) : (s.setTypeout v).now = s.now := rfl
@[simp] theorem State.setTypeout_pending (s : State) (v : Typeout) : (s.setTypeout v).pending = s.pending := rfl
@[simp] theorem State.setTypeout_console (s : State) (v : Typeout) : (s.setTypeout v).console = s.console := rfl
@[simp] theorem State.setTypeout_lock (s : State) (v : Typeout) : (s.setTypeout v).lock = s.lock := rfl
@[simp] theorem State.setTypeout_matcher (s : State) (v : Typeout) : (s.setTypeout v).matcher = s.matcher := rfl
@[simp] theorem State.setTypeout_focus (s : State) (v : Typeout) : (s.setTypeout v).focus = s.focus := rfl
@[simp] theorem State.setTypeout_glide (s : State) (v : Typeout) : (s.setTypeout v).glide = s.glide := rfl
@[simp] theorem State.setTypeout_screens (s : State) (v : Typeout) : (s.setTypeout v).screens = s.screens := rfl
@[simp] theorem State.setTypeout_channels (s : State) (v : Typeout) : (s.setTypeout v).channels = s.channels := rfl
@[simp] theorem State.setTypeout_ports (s : State) (v : Typeout) : (s.setTypeout v).ports = s.ports := rfl
@[simp] theorem State.setTypeout_wakeAll (s : State) (v : Typeout) : (s.setTypeout v).wakeAll = s.wakeAll := rfl
@[simp] theorem State.setTypeout_typeout (s : State) (v : Typeout) : (s.setTypeout v).typeout = v := rfl
@[simp] theorem State.setTypeout_alerts (s : State) (v : Typeout) : (s.setTypeout v).alerts = s.alerts := rfl
@[simp] theorem State.setTypeout_mgmt (s : State) (v : Typeout) : (s.setTypeout v).mgmt = s.mgmt := rfl
@[simp] theorem State.setTypeout_tables (s : State) (v : Typeout) : (s.setTypeout v).tables = s.tables := rfl
@[simp] theorem State.setTypeout_store (s : State) (v : Typeout) : (s.setTypeout v).store = s.store := rfl

@[simp] theorem State.setAlerts_now (s : State) (v : Alerts) : (s.setAlerts v).now = s.now := rfl
@[simp] theorem State.setAlerts_pending (s : State) (v : Alerts) : (s.setAlerts v).pending = s.pending := rfl
@[simp] theorem State.setAlerts_console (s : State) (v : Alerts) : (s.setAlerts v).console = s.console := rfl
@[simp] theorem State.setAlerts_lock (s : State) (v : Alerts) : (s.setAlerts v).lock = s.lock := rfl
@[simp] theorem State.setAlerts_matcher (s : State) (v : Alerts) : (s.setAlerts v).matcher = s.matcher := rfl
@[simp] theorem State.setAlerts_focus (s : State) (v : Alerts) : (s.setAlerts v).focus = s.focus := rfl
@[simp] theorem State.setAlerts_glide (s : State) (v : Alerts) : (s.setAlerts v).glide = s.glide := rfl
@[simp] theorem State.setAlerts_screens (s : State) (v : Alerts) : (s.setAlerts v).screens = s.screens := rfl
@[simp] theorem State.setAlerts_channels (s : State) (v : Alerts) : (s.setAlerts v).channels = s.channels := rfl
@[simp] theorem State.setAlerts_ports (s : State) (v : Alerts) : (s.setAlerts v).ports = s.ports := rfl
@[simp] theorem State.setAlerts_wakeAll (s : State) (v : Alerts) : (s.setAlerts v).wakeAll = s.wakeAll := rfl
@[simp] theorem State.setAlerts_typeout (s : State) (v : Alerts) : (s.setAlerts v).typeout = s.typeout := rfl
@[simp] theorem State.setAlerts_alerts (s : State) (v : Alerts) : (s.setAlerts v).alerts = v := rfl
@[simp] theorem State.setAlerts_mgmt (s : State) (v : Alerts) : (s.setAlerts v).mgmt = s.mgmt := rfl
@[simp] theorem State.setAlerts_tables (s : State) (v : Alerts) : (s.setAlerts v).tables = s.tables := rfl
@[simp] theorem State.setAlerts_store (s : State) (v : Alerts) : (s.setAlerts v).store = s.store := rfl

@[simp] theorem State.setMgmt_now (s : State) (v : Mgmt) : (s.setMgmt v).now = s.now := rfl
@[simp] theorem State.setMgmt_pending (s : State) (v : Mgmt) : (s.setMgmt v).pending = s.pending := rfl
@[simp] theorem State.setMgmt_console (s : State) (v : Mgmt) : (s.setMgmt v).console = s.console := rfl
@[simp] theorem State.setMgmt_lock (s : State) (v : Mgmt) : (s.setMgmt v).lock = s.lock := rfl
@[simp] theorem State.setMgmt_matcher (s : State) (v : Mgmt) : (s.setMgmt v).matcher = s.matcher := rfl
@[simp] theorem State.setMgmt_focus (s : State) (v : Mgmt) : (s.setMgmt v).focus = s.focus := rfl
@[simp] theorem State.setMgmt_glide (s : State) (v : Mgmt) : (s.setMgmt v).glide = s.glide := rfl
@[simp] theorem State.setMgmt_screens (s : State) (v : Mgmt) : (s.setMgmt v).screens = s.screens := rfl
@[simp] theorem State.setMgmt_channels (s : State) (v : Mgmt) : (s.setMgmt v).channels = s.channels := rfl
@[simp] theorem State.setMgmt_ports (s : State) (v : Mgmt) : (s.setMgmt v).ports = s.ports := rfl
@[simp] theorem State.setMgmt_wakeAll (s : State) (v : Mgmt) : (s.setMgmt v).wakeAll = s.wakeAll := rfl
@[simp] theorem State.setMgmt_typeout (s : State) (v : Mgmt) : (s.setMgmt v).typeout = s.typeout := rfl
@[simp] theorem State.setMgmt_alerts (s : State) (v : Mgmt) : (s.setMgmt v).alerts = s.alerts := rfl
@[simp] theorem State.setMgmt_mgmt (s : State) (v : Mgmt) : (s.setMgmt v).mgmt = v := rfl
@[simp] theorem State.setMgmt_tables (s : State) (v : Mgmt) : (s.setMgmt v).tables = s.tables := rfl
@[simp] theorem State.setMgmt_store (s : State) (v : Mgmt) : (s.setMgmt v).store = s.store := rfl

@[simp] theorem State.setTables_now (s : State) (v : Tables) : (s.setTables v).now = s.now := rfl
@[simp] theorem State.setTables_pending (s : State) (v : Tables) : (s.setTables v).pending = s.pending := rfl
@[simp] theorem State.setTables_console (s : State) (v : Tables) : (s.setTables v).console = s.console := rfl
@[simp] theorem State.setTables_lock (s : State) (v : Tables) : (s.setTables v).lock = s.lock := rfl
@[simp] theorem State.setTables_matcher (s : State) (v : Tables) : (s.setTables v).matcher = s.matcher := rfl
@[simp] theorem State.setTables_focus (s : State) (v : Tables) : (s.setTables v).focus = s.focus := rfl
@[simp] theorem State.setTables_glide (s : State) (v : Tables) : (s.setTables v).glide = s.glide := rfl
@[simp] theorem State.setTables_screens (s : State) (v : Tables) : (s.setTables v).screens = s.screens := rfl
@[simp] theorem State.setTables_channels (s : State) (v : Tables) : (s.setTables v).channels = s.channels := rfl
@[simp] theorem State.setTables_ports (s : State) (v : Tables) : (s.setTables v).ports = s.ports := rfl
@[simp] theorem State.setTables_wakeAll (s : State) (v : Tables) : (s.setTables v).wakeAll = s.wakeAll := rfl
@[simp] theorem State.setTables_typeout (s : State) (v : Tables) : (s.setTables v).typeout = s.typeout := rfl
@[simp] theorem State.setTables_alerts (s : State) (v : Tables) : (s.setTables v).alerts = s.alerts := rfl
@[simp] theorem State.setTables_mgmt (s : State) (v : Tables) : (s.setTables v).mgmt = s.mgmt := rfl
@[simp] theorem State.setTables_tables (s : State) (v : Tables) : (s.setTables v).tables = v := rfl
@[simp] theorem State.setTables_store (s : State) (v : Tables) : (s.setTables v).store = s.store := rfl

@[simp] theorem State.setStore_now (s : State) (v : Option Tables) : (s.setStore v).now = s.now := rfl
@[simp] theorem State.setStore_pending (s : State) (v : Option Tables) : (s.setStore v).pending = s.pending := rfl
@[simp] theorem State.setStore_console (s : State) (v : Option Tables) : (s.setStore v).console = s.console := rfl
@[simp] theorem State.setStore_lock (s : State) (v : Option Tables) : (s.setStore v).lock = s.lock := rfl
@[simp] theorem State.setStore_matcher (s : State) (v : Option Tables) : (s.setStore v).matcher = s.matcher := rfl
@[simp] theorem State.setStore_focus (s : State) (v : Option Tables) : (s.setStore v).focus = s.focus := rfl
@[simp] theorem State.setStore_glide (s : State) (v : Option Tables) : (s.setStore v).glide = s.glide := rfl
@[simp] theorem State.setStore_screens (s : State) (v : Option Tables) : (s.setStore v).screens = s.screens := rfl
@[simp] theorem State.setStore_channels (s : State) (v : Option Tables) : (s.setStore v).channels = s.channels := rfl
@[simp] theorem State.setStore_ports (s : State) (v : Option Tables) : (s.setStore v).ports = s.ports := rfl
@[simp] theorem State.setStore_wakeAll (s : State) (v : Option Tables) : (s.setStore v).wakeAll = s.wakeAll := rfl
@[simp] theorem State.setStore_typeout (s : State) (v : Option Tables) : (s.setStore v).typeout = s.typeout := rfl
@[simp] theorem State.setStore_alerts (s : State) (v : Option Tables) : (s.setStore v).alerts = s.alerts := rfl
@[simp] theorem State.setStore_mgmt (s : State) (v : Option Tables) : (s.setStore v).mgmt = s.mgmt := rfl
@[simp] theorem State.setStore_tables (s : State) (v : Option Tables) : (s.setStore v).tables = s.tables := rfl
@[simp] theorem State.setStore_store (s : State) (v : Option Tables) : (s.setStore v).store = v := rfl

@[simp] theorem State.setPending_now (s : State) (v : List Instr) : (s.setPending v).now = s.now := rfl
@[simp] theorem State.setPending_console (s : State) (v : List Instr) : (s.setPending v).console = s.console := rfl
@[simp] theorem State.setPending_lock (s : State) (v : List Instr) : (s.setPending v).lock = s.lock := rfl
@[simp] theorem State.setPending_matcher (s : State) (v : List Instr) : (s.setPending v).matcher = s.matcher := rfl
@[simp] theorem State.setPending_focus (s : State) (v : List Instr) : (s.setPending v).focus = s.focus := rfl
@[simp] theorem State.setPending_glide (s : State) (v : List Instr) : (s.setPending v).glide = s.glide := rfl
@[simp] theorem State.setPending_screens (s : State) (v : List Instr) : (s.setPending v).screens = s.screens := rfl
@[simp] theorem State.setPending_channels (s : State) (v : List Instr) : (s.setPending v).channels = s.channels := rfl
@[simp] theorem State.setPending_ports (s : State) (v : List Instr) : (s.setPending v).ports = s.ports := rfl
@[simp] theorem State.setPending_wakeAll (s : State) (v : List Instr) : (s.setPending v).wakeAll = s.wakeAll := rfl
@[simp] theorem State.setPending_typeout (s : State) (v : List Instr) : (s.setPending v).typeout = s.typeout := rfl
@[simp] theorem State.setPending_alerts (s : State) (v : List Instr) : (s.setPending v).alerts = s.alerts := rfl
@[simp] theorem State.setPending_mgmt (s : State) (v : List Instr) : (s.setPending v).mgmt = s.mgmt := rfl
@[simp] theorem State.setPending_tables (s : State) (v : List Instr) : (s.setPending v).tables = s.tables := rfl
@[simp] theorem State.setPending_store (s : State) (v : List Instr) : (s.setPending v).store = s.store := rfl
@[simp] theorem State.setPending_pending (s : State) (v : List Instr) : (s.setPending v).pending = v := rfl
@[simp] theorem State.modPort_now (s : State) (p : Computer) (f : Port → Port) : (s.modPort p f).now = s.now := rfl
@[simp] theorem State.modPort_pending (s : State) (p : Computer) (f : Port → Port) : (s.modPort p f).pending = s.pending := rfl
@[simp] theorem State.modPort_console (s : State) (p : Computer) (f : Port → Port) : (s.modPort p f).console = s.console := rfl
@[simp] theorem State.modPort_lock (s : State) (p : Computer) (f : Port → Port) : (s.modPort p f).lock = s.lock := rfl
@[simp] theorem State.modPort_matcher (s : State) (p : Computer) (f : Port → Port) : (s.modPort p f).matcher = s.matcher := rfl
@[simp] theorem State.modPort_focus (s : State) (p : Computer) (f : Port → Port) : (s.modPort p f).focus = s.focus := rfl
@[simp] theorem State.modPort_glide (s : State) (p : Computer) (f : Port → Port) : (s.modPort p f).glide = s.glide := rfl
@[simp] theorem State.modPort_screens (s : State) (p : Computer) (f : Port → Port) : (s.modPort p f).screens = s.screens := rfl
@[simp] theorem State.modPort_channels (s : State) (p : Computer) (f : Port → Port) : (s.modPort p f).channels = s.channels := rfl
@[simp] theorem State.modPort_wakeAll (s : State) (p : Computer) (f : Port → Port) : (s.modPort p f).wakeAll = s.wakeAll := rfl
@[simp] theorem State.modPort_typeout (s : State) (p : Computer) (f : Port → Port) : (s.modPort p f).typeout = s.typeout := rfl
@[simp] theorem State.modPort_alerts (s : State) (p : Computer) (f : Port → Port) : (s.modPort p f).alerts = s.alerts := rfl
@[simp] theorem State.modPort_mgmt (s : State) (p : Computer) (f : Port → Port) : (s.modPort p f).mgmt = s.mgmt := rfl
@[simp] theorem State.modPort_tables (s : State) (p : Computer) (f : Port → Port) : (s.modPort p f).tables = s.tables := rfl
@[simp] theorem State.modPort_store (s : State) (p : Computer) (f : Port → Port) : (s.modPort p f).store = s.store := rfl
@[simp] theorem State.modScreen_now (s : State) (sc : ScreenNo) (f : Screen → Screen) : (s.modScreen sc f).now = s.now := rfl
@[simp] theorem State.modScreen_pending (s : State) (sc : ScreenNo) (f : Screen → Screen) : (s.modScreen sc f).pending = s.pending := rfl
@[simp] theorem State.modScreen_console (s : State) (sc : ScreenNo) (f : Screen → Screen) : (s.modScreen sc f).console = s.console := rfl
@[simp] theorem State.modScreen_lock (s : State) (sc : ScreenNo) (f : Screen → Screen) : (s.modScreen sc f).lock = s.lock := rfl
@[simp] theorem State.modScreen_matcher (s : State) (sc : ScreenNo) (f : Screen → Screen) : (s.modScreen sc f).matcher = s.matcher := rfl
@[simp] theorem State.modScreen_focus (s : State) (sc : ScreenNo) (f : Screen → Screen) : (s.modScreen sc f).focus = s.focus := rfl
@[simp] theorem State.modScreen_glide (s : State) (sc : ScreenNo) (f : Screen → Screen) : (s.modScreen sc f).glide = s.glide := rfl
@[simp] theorem State.modScreen_channels (s : State) (sc : ScreenNo) (f : Screen → Screen) : (s.modScreen sc f).channels = s.channels := rfl
@[simp] theorem State.modScreen_ports (s : State) (sc : ScreenNo) (f : Screen → Screen) : (s.modScreen sc f).ports = s.ports := rfl
@[simp] theorem State.modScreen_wakeAll (s : State) (sc : ScreenNo) (f : Screen → Screen) : (s.modScreen sc f).wakeAll = s.wakeAll := rfl
@[simp] theorem State.modScreen_typeout (s : State) (sc : ScreenNo) (f : Screen → Screen) : (s.modScreen sc f).typeout = s.typeout := rfl
@[simp] theorem State.modScreen_alerts (s : State) (sc : ScreenNo) (f : Screen → Screen) : (s.modScreen sc f).alerts = s.alerts := rfl
@[simp] theorem State.modScreen_mgmt (s : State) (sc : ScreenNo) (f : Screen → Screen) : (s.modScreen sc f).mgmt = s.mgmt := rfl
@[simp] theorem State.modScreen_tables (s : State) (sc : ScreenNo) (f : Screen → Screen) : (s.modScreen sc f).tables = s.tables := rfl
@[simp] theorem State.modScreen_store (s : State) (sc : ScreenNo) (f : Screen → Screen) : (s.modScreen sc f).store = s.store := rfl
@[simp] theorem State.setBelief_now (s : State) (n : Computer) (b : Belief) : (s.setBelief n b).now = s.now := rfl
@[simp] theorem State.setBelief_pending (s : State) (n : Computer) (b : Belief) : (s.setBelief n b).pending = s.pending := rfl
@[simp] theorem State.setBelief_console (s : State) (n : Computer) (b : Belief) : (s.setBelief n b).console = s.console := rfl
@[simp] theorem State.setBelief_lock (s : State) (n : Computer) (b : Belief) : (s.setBelief n b).lock = s.lock := rfl
@[simp] theorem State.setBelief_matcher (s : State) (n : Computer) (b : Belief) : (s.setBelief n b).matcher = s.matcher := rfl
@[simp] theorem State.setBelief_glide (s : State) (n : Computer) (b : Belief) : (s.setBelief n b).glide = s.glide := rfl
@[simp] theorem State.setBelief_screens (s : State) (n : Computer) (b : Belief) : (s.setBelief n b).screens = s.screens := rfl
@[simp] theorem State.setBelief_channels (s : State) (n : Computer) (b : Belief) : (s.setBelief n b).channels = s.channels := rfl
@[simp] theorem State.setBelief_ports (s : State) (n : Computer) (b : Belief) : (s.setBelief n b).ports = s.ports := rfl
@[simp] theorem State.setBelief_wakeAll (s : State) (n : Computer) (b : Belief) : (s.setBelief n b).wakeAll = s.wakeAll := rfl
@[simp] theorem State.setBelief_typeout (s : State) (n : Computer) (b : Belief) : (s.setBelief n b).typeout = s.typeout := rfl
@[simp] theorem State.setBelief_alerts (s : State) (n : Computer) (b : Belief) : (s.setBelief n b).alerts = s.alerts := rfl
@[simp] theorem State.setBelief_mgmt (s : State) (n : Computer) (b : Belief) : (s.setBelief n b).mgmt = s.mgmt := rfl
@[simp] theorem State.setBelief_tables (s : State) (n : Computer) (b : Belief) : (s.setBelief n b).tables = s.tables := rfl
@[simp] theorem State.setBelief_store (s : State) (n : Computer) (b : Belief) : (s.setBelief n b).store = s.store := rfl

/-! ### The indexed updates: the index changed and the others -/

theorem State.modPort_ports (s : State) (p q : Computer) (f : Port → Port) :
    (s.modPort p f).ports[q.val] = if p = q then f s.ports[q.val] else s.ports[q.val] := by
  by_cases h : p = q
  · subst h
    simp [State.modPort]
  · have h1 : p.val ≠ q.val := fun e => h (Fin.ext e)
    simp [State.modPort, h, h1]

@[simp] theorem State.modPort_ports_self (s : State) (p : Computer) (f : Port → Port) :
    (s.modPort p f).ports[p.val] = f s.ports[p.val] := by
  rw [State.modPort_ports, if_pos rfl]

theorem State.modPort_ports_ne (s : State) {p q : Computer} (f : Port → Port) (h : p ≠ q) :
    (s.modPort p f).ports[q.val] = s.ports[q.val] := by
  rw [State.modPort_ports, if_neg h]

theorem State.modScreen_screens (s : State) (p q : ScreenNo) (f : Screen → Screen) :
    (s.modScreen p f).screens[q.val] = if p = q then f s.screens[q.val] else s.screens[q.val] := by
  by_cases h : p = q
  · subst h
    simp [State.modScreen]
  · have h1 : p.val ≠ q.val := fun e => h (Fin.ext e)
    simp [State.modScreen, h, h1]

@[simp] theorem State.modScreen_screens_self (s : State) (p : ScreenNo) (f : Screen → Screen) :
    (s.modScreen p f).screens[p.val] = f s.screens[p.val] := by
  rw [State.modScreen_screens, if_pos rfl]

theorem State.modScreen_screens_ne (s : State) {p q : ScreenNo} (f : Screen → Screen) (h : p ≠ q) :
    (s.modScreen p f).screens[q.val] = s.screens[q.val] := by
  rw [State.modScreen_screens, if_neg h]

theorem State.setBelief_beliefs (s : State) (p q : Computer) (b : Belief) :
    (s.setBelief p b).focus.beliefs[q.val] = if p = q then b else s.focus.beliefs[q.val] := by
  by_cases h : p = q
  · subst h
    simp [State.setBelief]
  · have h1 : p.val ≠ q.val := fun e => h (Fin.ext e)
    simp [State.setBelief, h, h1]

@[simp] theorem State.setBelief_beliefs_self (s : State) (p : Computer) (b : Belief) :
    (s.setBelief p b).focus.beliefs[p.val] = b := by
  rw [State.setBelief_beliefs, if_pos rfl]

theorem State.setBelief_beliefs_ne (s : State) {p q : Computer} (b : Belief) (h : p ≠ q) :
    (s.setBelief p b).focus.beliefs[q.val] = s.focus.beliefs[q.val] := by
  rw [State.setBelief_beliefs, if_neg h]

@[simp] theorem State.setBelief_focus (s : State) (n : Computer) (b : Belief) :
    (s.setBelief n b).focus.focus = s.focus.focus ∧ (s.setBelief n b).focus.previous = s.focus.previous ∧
      (s.setBelief n b).focus.mode = s.focus.mode ∧ (s.setBelief n b).focus.broadcast = s.focus.broadcast ∧
      (s.setBelief n b).focus.rx = s.focus.rx ∧ (s.setBelief n b).focus.ry = s.focus.ry :=
  ⟨rfl, rfl, rfl, rfl, rfl, rfl⟩

/-- What starting the outputs due at all console ports changes: the records and the bytes put out (R17, R179). -/
@[simp] theorem Console.startOutputs_deskKeys (k : Console) : k.startOutputs.deskKeys = k.deskKeys := rfl
@[simp] theorem Console.startOutputs_deskButtons (k : Console) : k.startOutputs.deskButtons = k.deskButtons := rfl
@[simp] theorem Console.startOutputs_mirrored (k : Console) : k.startOutputs.mirrored = k.mirrored := rfl

@[simp] theorem Console.startOutputs_ports (k : Console) (c : ConsoleNo) :
    k.startOutputs.ports[c.val] = k.ports[c.val].startOutput k.mirrored := by
  simp [Console.startOutputs]

@[simp] theorem Console.startOutputs_outputs (k : Console) (c : ConsoleNo) :
    k.startOutputs.outputs[c.val] = k.outputFrom c := by
  simp [Console.startOutputs]

@[simp] theorem Console.startOutputAt_deskKeys (k : Console) (c : ConsoleNo) :
    (k.startOutputAt c).deskKeys = k.deskKeys := rfl
@[simp] theorem Console.startOutputAt_deskButtons (k : Console) (c : ConsoleNo) :
    (k.startOutputAt c).deskButtons = k.deskButtons := rfl
@[simp] theorem Console.startOutputAt_mirrored (k : Console) (c : ConsoleNo) :
    (k.startOutputAt c).mirrored = k.mirrored := rfl

theorem Console.startOutputAt_ports (k : Console) (c d : ConsoleNo) :
    (k.startOutputAt c).ports[d.val] = if c = d then k.ports[d.val].startOutput k.mirrored else k.ports[d.val] := by
  by_cases h : c = d
  · subst h
    simp [Console.startOutputAt]
  · have h1 : c.val ≠ d.val := fun e => h (Fin.ext e)
    simp [Console.startOutputAt, h, h1]

theorem Console.startOutputAt_outputs (k : Console) (c d : ConsoleNo) :
    (k.startOutputAt c).outputs[d.val] = if c = d then k.outputFrom d else k.outputs[d.val] := by
  by_cases h : c = d
  · subst h
    simp [Console.startOutputAt]
  · have h1 : c.val ≠ d.val := fun e => h (Fin.ext e)
    simp [Console.startOutputAt, h, h1]

/-- An output starts where one is due and nowhere else: the record of the port shows it in flight (R17). -/
theorem ConsolePort.startOutput_eq (v : Indicators) (p : ConsolePort) :
    (p.needsOutput v = false → p.startOutput v = p) ∧
      ∀ keys shown, p = .keyboard keys shown Option.none → shown ≠ v →
        p.needsOutput v = true ∧ p.startOutput v = .keyboard keys shown (some v) := by
  refine ⟨fun h => ?_, ?_⟩
  · unfold ConsolePort.needsOutput at h
    unfold ConsolePort.startOutput
    split at h
    · rename_i keys shown
      have h1 : shown = v := by simpa using h
      simp [h1]
    · rfl
    · rfl
    · rfl
    · rfl
  · rintro keys shown rfl h
    simp [ConsolePort.needsOutput, ConsolePort.startOutput, h]

/-- Two changes of one port record are one. -/
@[simp] theorem State.modPort_modPort (s : State) (p : Computer) (f g : Port → Port) :
    (s.modPort p f).modPort p g = s.modPort p (g ∘ f) := by
  simp [State.modPort, State.setPorts]

/-- Two changes of one screen record are one. -/
@[simp] theorem State.modScreen_modScreen (s : State) (p : ScreenNo) (f g : Screen → Screen) :
    (s.modScreen p f).modScreen p g = s.modScreen p (g ∘ f) := by
  simp [State.modScreen, State.setScreens]

end Sys2Proof.Machine
end

