-- ==== Sys2Proof/Laws/Quiet.lean ====
section
/-! SUPPORT. What the shared operations leave alone: one lemma per operation saying that it is quiet, for the provers to
cite instead of unfolding it. -/

namespace Sys2Proof.Machine

/-- `t` agrees with `s` in everything but the belief sets, the focus record, the pointer, the screens' own records, the
ports, the mailbox, the alerts, the event summaries, and the console's lamps. -/
structure Quiet (s t : State) : Prop where
  now : t.now = s.now
  pending : t.pending = s.pending
  store : t.store = s.store
  lock : t.lock = s.lock
  matcher : t.matcher = s.matcher
  channels : t.channels = s.channels
  tables : t.tables = s.tables
  wakeAll : t.wakeAll = s.wakeAll
  deskKeys : t.console.deskKeys = s.console.deskKeys
  deskButtons : t.console.deskButtons = s.console.deskButtons
  keys : ∀ c : ConsoleNo, t.console.ports[c].keys = s.console.ports[c].keys
  buttons : ∀ c : ConsoleNo, t.console.ports[c].buttons = s.console.ports[c].buttons
  codes : ∀ c : ConsoleNo, t.console.ports[c].code = s.console.ports[c].code
  generation : t.mgmt.generation = s.mgmt.generation
  masks : t.mgmt.masks = s.mgmt.masks
  freezeSet : t.mgmt.freezeSet = s.mgmt.freezeSet
  saving : t.mgmt.saving = s.mgmt.saving
  lastSave : t.mgmt.lastSave = s.mgmt.lastSave
  source : t.mgmt.source = s.mgmt.source

theorem Quiet.refl (s : State) : Quiet s s :=
  ⟨rfl, rfl, rfl, rfl, rfl, rfl, rfl, rfl, rfl, rfl, fun _ => rfl, fun _ => rfl, fun _ => rfl, rfl, rfl, rfl, rfl, rfl,
    rfl⟩

theorem Quiet.trans {s t u : State} (h : Quiet s t) (k : Quiet t u) : Quiet s u :=
  ⟨k.now.trans h.now, k.pending.trans h.pending, k.store.trans h.store, k.lock.trans h.lock, k.matcher.trans h.matcher,
    k.channels.trans h.channels, k.tables.trans h.tables, k.wakeAll.trans h.wakeAll, k.deskKeys.trans h.deskKeys,
    k.deskButtons.trans h.deskButtons, fun c => (k.keys c).trans (h.keys c),
    fun c => (k.buttons c).trans (h.buttons c), fun c => (k.codes c).trans (h.codes c),
    k.generation.trans h.generation, k.masks.trans h.masks, k.freezeSet.trans h.freezeSet, k.saving.trans h.saving,
    k.lastSave.trans h.lastSave, k.source.trans h.source⟩

/-- An operation is quiet when it is so on every state. -/
abbrev QuietOp (f : State → State) : Prop :=
  ∀ s, Quiet s (f s)

theorem QuietOp.comp {f g : State → State} (hf : QuietOp f) (hg : QuietOp g) : QuietOp fun s => g (f s) :=
  fun s => (hf s).trans (hg (f s))

theorem QuietOp.ite {p : State → Prop} [∀ s, Decidable (p s)] {f g : State → State} (hf : QuietOp f) (hg : QuietOp g) :
    QuietOp fun s => if p s then f s else g s := by
  intro s
  by_cases h : p s <;> simp only [h, if_true, if_false]
  · exact hf s
  · exact hg s

theorem quiet_foldl {α : Type} (f : State → α → State) (h : ∀ s a, Quiet s (f s a)) (l : List α) :
    QuietOp fun s => l.foldl f s := by
  induction l with
  | nil => exact fun s => Quiet.refl s
  | cons a l ih => exact fun s => (h s a).trans (ih (f s a))

/-! ### Updates of one field -/

theorem quiet_setFocus (s : State) (v : FocusCtl) : Quiet s (s.setFocus v) :=
  ⟨rfl, rfl, rfl, rfl, rfl, rfl, rfl, rfl, rfl, rfl, fun _ => rfl, fun _ => rfl, fun _ => rfl, rfl, rfl, rfl, rfl, rfl,
    rfl⟩

theorem quiet_setGlide (s : State) (v : Glide) : Quiet s (s.setGlide v) :=
  ⟨rfl, rfl, rfl, rfl, rfl, rfl, rfl, rfl, rfl, rfl, fun _ => rfl, fun _ => rfl, fun _ => rfl, rfl, rfl, rfl, rfl, rfl,
    rfl⟩

theorem quiet_setScreens (s : State) (v : Vector Screen 8) : Quiet s (s.setScreens v) :=
  ⟨rfl, rfl, rfl, rfl, rfl, rfl, rfl, rfl, rfl, rfl, fun _ => rfl, fun _ => rfl, fun _ => rfl, rfl, rfl, rfl, rfl, rfl,
    rfl⟩

theorem quiet_setPorts (s : State) (v : Vector Port 8) : Quiet s (s.setPorts v) :=
  ⟨rfl, rfl, rfl, rfl, rfl, rfl, rfl, rfl, rfl, rfl, fun _ => rfl, fun _ => rfl, fun _ => rfl, rfl, rfl, rfl, rfl, rfl,
    rfl⟩

theorem quiet_setTypeout (s : State) (v : Typeout) : Quiet s (s.setTypeout v) :=
  ⟨rfl, rfl, rfl, rfl, rfl, rfl, rfl, rfl, rfl, rfl, fun _ => rfl, fun _ => rfl, fun _ => rfl, rfl, rfl, rfl, rfl, rfl,
    rfl⟩

theorem quiet_setAlerts (s : State) (v : Alerts) : Quiet s (s.setAlerts v) :=
  ⟨rfl, rfl, rfl, rfl, rfl, rfl, rfl, rfl, rfl, rfl, fun _ => rfl, fun _ => rfl, fun _ => rfl, rfl, rfl, rfl, rfl, rfl,
    rfl⟩

theorem quiet_setSummaries (s : State) (v : Vector EventSet 8) : Quiet s (s.setMgmt { s.mgmt with summaries := v }) :=
  ⟨rfl, rfl, rfl, rfl, rfl, rfl, rfl, rfl, rfl, rfl, fun _ => rfl, fun _ => rfl, fun _ => rfl, rfl, rfl, rfl, rfl, rfl,
    rfl⟩

theorem quiet_modPort (p : Computer) (f : Port → Port) (s : State) : Quiet s (s.modPort p f) :=
  quiet_setPorts s _

theorem quiet_modScreen (sc : ScreenNo) (f : Screen → Screen) (s : State) : Quiet s (s.modScreen sc f) :=
  quiet_setScreens s _

theorem quiet_setBelief (n : Computer) (b : Belief) (s : State) : Quiet s (s.setBelief n b) :=
  quiet_setFocus s _

/-! ### Shared operations -/

theorem quiet_raise (e : EventKind) : QuietOp (raise e) :=
  fun s => (quiet_setSummaries s _).trans (quiet_setPorts _ _)

theorem quiet_clearBelief (n : Computer) : QuietOp (clearBelief n) :=
  fun s => quiet_setBelief n _ s

theorem quiet_releaseBelief (n : Computer) : QuietOp (releaseBelief n) :=
  fun s => (quiet_clearBelief n s).trans (quiet_modPort n _ _)

@[simp] theorem ConsolePort.startOutput_keys (v : Indicators) (p : ConsolePort) : (p.startOutput v).keys = p.keys := by
  unfold ConsolePort.startOutput
  split
  · split <;> rfl
  · rfl

@[simp] theorem ConsolePort.startOutput_buttons (v : Indicators) (p : ConsolePort) :
    (p.startOutput v).buttons = p.buttons := by
  unfold ConsolePort.startOutput
  split
  · split <;> rfl
  · rfl

@[simp] theorem ConsolePort.startOutput_code (v : Indicators) (p : ConsolePort) : (p.startOutput v).code = p.code := by
  unfold ConsolePort.startOutput
  split
  · split <;> rfl
  · rfl

theorem quiet_syncMirror : QuietOp syncMirror := by
  intro s
  unfold syncMirror
  split
  · exact Quiet.refl s
  · constructor <;> first | rfl | (intro c; simp)

theorem quiet_recomputeFrames : QuietOp recomputeFrames :=
  fun s => quiet_setScreens s _

theorem quiet_syncBlanked : QuietOp syncBlanked :=
  fun s => quiet_setScreens s _

/-! ### Alerts -/

theorem quiet_setAlertList (l : List AlertEntry) : QuietOp (setAlertList l) := by
  intro s
  unfold setAlertList
  split
  · exact Quiet.refl s
  · exact ((quiet_setAlerts s _).trans (quiet_raise _ _)).trans (quiet_recomputeFrames _)

theorem quiet_setSource (n : Computer) (src : AlertSource) : QuietOp (setSource n src) :=
  fun s => quiet_setAlerts s _

theorem quiet_takeIndicatorReport (n : Computer) : QuietOp (takeIndicatorReport n) :=
  fun s => (quiet_setSource n _ s).trans (quiet_setAlertList _ _)

theorem quiet_freshEvaluate (n : Computer) : QuietOp (freshEvaluate n) :=
  fun s => (quiet_setSource n _ s).trans (quiet_setAlertList _ _)

theorem quiet_acknowledge (n : Computer) : QuietOp (acknowledge n) :=
  fun s => quiet_setAlertList _ s

theorem quiet_dropAlert (n : Computer) : QuietOp (dropAlert n) :=
  fun s => quiet_setAlertList _ s

theorem quiet_alertLinkLost (n : Computer) : QuietOp (alertLinkLost n) :=
  fun s => (quiet_setSource n _ s).trans (quiet_setAlertList _ _)

theorem quiet_rotateTo (c : Computer) : QuietOp (rotateTo c) := by
  intro s
  unfold rotateTo
  split
  · exact quiet_setAlerts s _
  · exact Quiet.refl s

theorem quiet_freshQuiet (s : State) (n : Computer) : Quiet s (freshQuiet s n) :=
  (quiet_setSource n _ s).trans (quiet_setAlerts _ _)

theorem quiet_resetAlerts : QuietOp resetAlerts := by
  intro s
  have h : Quiet s (computers.foldl freshQuiet (s.setAlerts { s.alerts with list := [], rotation := computers })) :=
    (quiet_setAlerts s _).trans (quiet_foldl freshQuiet quiet_freshQuiet computers _)
  unfold resetAlerts
  dsimp only
  split
  · exact h
  · exact h.trans (quiet_raise _ _)

/-! ### Type-out -/

theorem quiet_releaseTyped (n : Computer) (c : Pressed) : QuietOp (releaseTyped n c) := by
  intro s
  unfold releaseTyped
  dsimp only
  split
  · exact Quiet.refl s
  · exact (quiet_setBelief n _ s).trans (quiet_modPort n _ _)

theorem quiet_releaseIfPressed : QuietOp releaseIfPressed := by
  intro s
  unfold releaseIfPressed
  split
  · split
    · exact quiet_releaseTyped _ _ s
    · exact Quiet.refl s
  · exact Quiet.refl s

theorem quiet_endTypeout (e : TypeEnd) : QuietOp (endTypeout e) := by
  intro s
  unfold endTypeout
  split
  · exact ((quiet_releaseIfPressed s).trans (quiet_setTypeout _ _)).trans (quiet_raise _ _)
  · exact Quiet.refl s

theorem quiet_takeUp : QuietOp takeUp := by
  intro s
  unfold takeUp
  dsimp only
  split
  · exact (quiet_setTypeout s _).trans (quiet_endTypeout _ _)
  · exact quiet_setTypeout s _

theorem quiet_enterActive : QuietOp enterActive :=
  fun s => (quiet_setTypeout s _).trans (quiet_takeUp _)

theorem quiet_enterWaitingRelease : QuietOp enterWaitingRelease := by
  intro s
  unfold enterWaitingRelease
  dsimp only
  split
  · exact (quiet_setTypeout s _).trans (quiet_enterActive _)
  · exact quiet_setTypeout s _

theorem quiet_typeoutMark : QuietOp typeoutMark := by
  intro s
  unfold typeoutMark
  split
  · exact quiet_enterActive s
  · exact Quiet.refl s

theorem quiet_typeoutWakeLost (n : Computer) : QuietOp (typeoutWakeLost n) := by
  intro s
  unfold typeoutWakeLost
  split
  · exact quiet_endTypeout _ s
  · exact Quiet.refl s

theorem quiet_typeoutLeftReady (n : Computer) : QuietOp (typeoutLeftReady n) := by
  intro s
  unfold typeoutLeftReady
  split
  · exact quiet_endTypeout _ s
  · exact Quiet.refl s

theorem quiet_typeoutLinkLost (n : Computer) : QuietOp (typeoutLinkLost n) := by
  intro s
  unfold typeoutLinkLost
  split
  · exact quiet_endTypeout _ s
  · exact Quiet.refl s

theorem quiet_typeoutReady (n : Computer) : QuietOp (typeoutReady n) := by
  intro s
  unfold typeoutReady
  split
  · exact quiet_enterWaitingRelease s
  · exact Quiet.refl s

/-! ### Wake -/

theorem quiet_refuseWake (n : Computer) : QuietOp (refuseWake n) :=
  fun s => (((quiet_modPort n _ s).trans (quiet_clearBelief n _)).trans (quiet_raise _ _)).trans
    (quiet_typeoutWakeLost n _)

theorem quiet_startWake (n : Computer) : QuietOp (startWake n) :=
  fun s => (quiet_modPort n _ s).trans (quiet_raise _ _)

theorem quiet_wakeRequest (n : Computer) : QuietOp (wakeRequest n) := by
  intro s
  unfold wakeRequest
  split
  · split
    · split
      · exact Quiet.refl s
      · split
        · exact quiet_modPort n _ s
        · exact quiet_startWake n s
    · exact quiet_refuseWake n s
  · exact Quiet.refl s

theorem quiet_deferredWake (n : Computer) : QuietOp (deferredWake n) := by
  intro s
  unfold deferredWake
  dsimp only
  split
  · exact (quiet_modPort n _ s).trans (quiet_startWake n _)
  · exact (quiet_modPort n _ s).trans (quiet_refuseWake n _)

theorem quiet_failWake (n : Computer) : QuietOp (failWake n) :=
  fun s => ((((quiet_modPort n _ s).trans (quiet_clearBelief n _)).trans (quiet_raise _ _)).trans
    (quiet_raise _ _)).trans (quiet_typeoutWakeLost n _)

/-! ### Pointer -/

theorem quiet_handAbsolute (n : Computer) (pos : Nat × Nat) (wheel : Int) : QuietOp (handAbsolute n pos wheel) := by
  intro s
  unfold handAbsolute
  dsimp only
  split
  · exact (quiet_modPort n _ s).trans (quiet_setGlide _ _)
  · exact Quiet.refl s

theorem quiet_considerReport (wheel : Int) : QuietOp (considerReport wheel) := by
  intro s
  unfold considerReport
  split
  · exact Quiet.refl s
  · split
    · split
      · exact Quiet.refl s
      · exact quiet_handAbsolute _ _ _ s
    · split
      · exact quiet_handAbsolute _ _ _ s
      · exact Quiet.refl s

theorem quiet_considerPosition : QuietOp considerPosition := by
  intro s
  unfold considerPosition
  split
  · exact quiet_considerReport 0 s
  · exact Quiet.refl s

theorem quiet_buttonAbsolute (n : Computer) : QuietOp (buttonAbsolute n) :=
  fun s => quiet_handAbsolute _ _ _ s

theorem quiet_placeAt (pos : Nat × Nat) (t : Tile) (n : Computer) : QuietOp (placeAt pos t n) :=
  fun s => quiet_setGlide s _

theorem quiet_setMode (m : PointerMode) : QuietOp (setMode m) := by
  intro s
  cases m <;> exact quiet_setFocus s _

theorem quiet_seatFor (n : Option Computer) : QuietOp (seatFor n) := by
  intro s
  unfold seatFor
  split
  · exact quiet_setMode _ s
  · split
    · exact quiet_setMode _ s
    · split
      · exact (quiet_placeAt _ _ _ s).trans (quiet_setMode _ _)
      · split
        · exact (quiet_placeAt _ _ _ s).trans (quiet_setMode _ _)
        · exact quiet_setMode _ s

theorem quiet_seatFirst : QuietOp seatFirst := by
  intro s
  unfold seatFirst
  split
  · exact quiet_setGlide s _
  · split
    · exact Quiet.refl s
    · exact quiet_placeAt _ _ _ s

theorem quiet_modeFromSeat : QuietOp modeFromSeat := by
  intro s
  unfold modeFromSeat
  split
  · exact quiet_setMode _ s
  · split <;> exact quiet_setMode _ s

theorem quiet_reseatPlace (s : State) : Quiet s (reseatPlace s).1 := by
  unfold reseatPlace
  split
  · exact quiet_setGlide s _
  · split
    · exact quiet_placeAt _ _ _ s
    · exact quiet_setGlide s _

/-! ### Focus -/

theorem quiet_releaseOldFocus : QuietOp releaseOldFocus := by
  intro s
  unfold releaseOldFocus
  split
  · exact Quiet.refl s
  · split
    · exact Quiet.refl s
    · exact quiet_releaseBelief _ s

theorem quiet_remember (n : Computer) (pos : Nat × Nat) : QuietOp (remember n pos) :=
  fun s => quiet_setGlide s _

theorem quiet_rememberHere : QuietOp rememberHere := by
  intro s
  unfold rememberHere
  split
  · exact Quiet.refl s
  · split
    · exact quiet_remember _ _ s
    · exact Quiet.refl s

theorem quiet_rememberHanded (handed : Option (Nat × Nat)) : QuietOp (rememberHanded handed) := by
  intro s
  unfold rememberHanded
  split
  · exact quiet_remember _ _ s
  · exact Quiet.refl s

theorem quiet_setFocusTo (n : Option Computer) : QuietOp (setFocusTo n) := by
  intro s
  have h : Quiet s (syncMirror (s.setFocus { s.focus with previous := s.focus.focus, focus := n, rx := 0, ry := 0 })) :=
    (quiet_setFocus s _).trans (quiet_syncMirror _)
  unfold setFocusTo
  dsimp only
  split
  · exact h
  · exact h.trans (quiet_acknowledge _ _)

theorem quiet_wakeOnFocus (n : Option Computer) : QuietOp (wakeOnFocus n) := by
  intro s
  unfold wakeOnFocus
  split
  · exact Quiet.refl s
  · split
    · exact quiet_wakeRequest _ s
    · exact Quiet.refl s

theorem quiet_announceFocus : QuietOp announceFocus :=
  fun s => (quiet_raise _ s).trans (quiet_recomputeFrames _)

theorem quiet_focusChange (n : Option Computer) : QuietOp (focusChange n) := by
  intro s
  unfold focusChange
  split
  · exact Quiet.refl s
  · exact (((((((quiet_endTypeout _ s).trans (quiet_releaseOldFocus _)).trans (quiet_rememberHere _)).trans
      (quiet_setFocusTo n _)).trans (quiet_seatFor n _)).trans (quiet_considerPosition _)).trans
      (quiet_wakeOnFocus n _)).trans (quiet_announceFocus _)

theorem quiet_focusChangePlaced (n : Computer) (handed : Option (Nat × Nat)) : QuietOp (focusChangePlaced n handed) := by
  intro s
  unfold focusChangePlaced
  split
  · exact Quiet.refl s
  · exact (((((quiet_endTypeout _ s).trans (quiet_releaseOldFocus _)).trans (quiet_rememberHanded _ _)).trans
      (quiet_setFocusTo _ _)).trans (quiet_wakeOnFocus _ _)).trans (quiet_announceFocus _)

theorem quiet_actOnReseat (o : ReseatOutcome) : QuietOp (actOnReseat o) := by
  intro s
  unfold actOnReseat
  split
  · exact Quiet.refl s
  · split
    · exact quiet_setMode _ s
    · split
      · exact (quiet_focusChangePlaced _ _ s).trans (quiet_setMode _ _)
      · exact quiet_setMode _ s
  · exact quiet_setMode _ s

theorem quiet_reseat : QuietOp reseat :=
  fun s => ((quiet_reseatPlace s).trans (quiet_actOnReseat _ _)).trans (quiet_considerPosition _)

theorem quiet_focusMark : QuietOp focusMark := by
  intro s
  unfold focusMark
  split
  · split
    · exact Quiet.refl s
    · exact (quiet_focusChangePlaced _ _ s).trans (quiet_setMode _ _)
  · exact Quiet.refl s

/-! ### Receivers of key and button events -/

theorem quiet_deliverPress (n : Computer) (isFocus : Bool) (k : Nat) : QuietOp (deliverPress n isFocus k) := by
  intro s
  unfold deliverPress
  split
  · exact Quiet.refl s
  · split
    · exact (quiet_setBelief n _ s).trans (quiet_modPort n _ _)
    · split
      · unfold queuePress
        dsimp only
        split
        · exact (quiet_setBelief n _ s).trans (quiet_modPort n _ _)
        · exact quiet_modPort n _ s
      · exact Quiet.refl s

theorem quiet_wakeOnInput (n : Computer) : QuietOp (wakeOnInput n) := by
  intro s
  unfold wakeOnInput
  split
  · exact quiet_wakeRequest n s
  · exact Quiet.refl s

theorem quiet_focusKeyPress (k : Nat) : QuietOp (focusKeyPress k) := by
  intro s
  have h1 : Quiet s (pressForFocus k s) := by
    unfold pressForFocus
    split
    · exact Quiet.refl s
    · exact (quiet_wakeOnInput _ s).trans (quiet_deliverPress _ _ _ _)
  refine h1.trans (quiet_foldl _ ?_ computers _)
  intro s n
  unfold pressForMember
  split
  · exact quiet_deliverPress _ _ _ s
  · exact Quiet.refl s

theorem quiet_focusKeyRelease (k : Nat) (mark : Bool) : QuietOp (focusKeyRelease k mark) := by
  intro s
  have h : Quiet s (computers.foldl (releaseAt k) s) := by
    refine quiet_foldl _ ?_ computers s
    intro s n
    unfold releaseAt
    dsimp only
    split
    · exact (quiet_setBelief n _ s).trans (quiet_modPort n _ _)
    · exact Quiet.refl s
  unfold focusKeyRelease
  dsimp only
  split
  · exact h.trans (quiet_focusMark _)
  · exact h

theorem quiet_tellButtons (n : Computer) : QuietOp (tellButtons n) := by
  intro s
  unfold tellButtons
  split
  · split
    · exact quiet_buttonAbsolute n s
    · exact quiet_modPort n _ s
  · split
    · exact quiet_modPort n _ s
    · exact Quiet.refl s

theorem quiet_deliverButton (n : Computer) (b : Nat) : QuietOp (deliverButton n b) := by
  intro s
  unfold deliverButton
  dsimp only
  split
  · exact Quiet.refl _
  · split
    · exact (quiet_setBelief _ _ _).trans (quiet_tellButtons _ _)
    · exact Quiet.refl _

theorem quiet_focusButtonPress (b : Nat) : QuietOp (focusButtonPress b) := by
  intro s
  unfold focusButtonPress
  split
  · exact Quiet.refl s
  · exact (quiet_wakeOnInput _ s).trans (quiet_deliverButton _ _ _)

theorem quiet_focusButtonRelease (b : Nat) (mark : Bool) : QuietOp (focusButtonRelease b mark) := by
  intro s
  have h : Quiet s (computers.foldl (buttonReleaseAt b) s) := by
    refine quiet_foldl _ ?_ computers s
    intro s n
    unfold buttonReleaseAt
    dsimp only
    split
    · exact (quiet_setBelief n _ s).trans (quiet_tellButtons n _)
    · exact Quiet.refl s
  unfold focusButtonRelease
  dsimp only
  split
  · exact h.trans (quiet_focusMark _)
  · exact h

/-! ### Motion -/

theorem quiet_forwardRelative (dx dy wheel : Int) : QuietOp (forwardRelative dx dy wheel) := by
  intro s
  unfold forwardRelative
  split
  · exact quiet_setFocus s _
  · dsimp only
    split
    · split
      · exact quiet_setFocus s _
      · exact (quiet_setFocus s _).trans (quiet_modPort _ _ _)
    · exact quiet_setFocus s _

theorem quiet_setAxis (a : Axis) (p : Nat) : QuietOp (setAxis a p) := by
  intro s
  cases a <;> exact quiet_setGlide s _

theorem quiet_cross (a : Axis) (p : Nat) (t : Tile) (n : Computer) : QuietOp (cross a p t n) := by
  intro s
  have h : Quiet s ((setAxis a p s).setGlide
      { (setAxis a p s).glide with seat := some ⟨t.screen, t.quad, n⟩ }) :=
    (quiet_setAxis a p s).trans (quiet_setGlide _ _)
  unfold cross
  dsimp only
  split
  · exact h
  · refine (h.trans ?_).trans (quiet_focusChangePlaced _ _ _)
    unfold wakeOnGlide
    split
    · exact quiet_wakeRequest _ _
    · exact Quiet.refl _

theorem quiet_moveAxis (a : Axis) (step : Int) : QuietOp (moveAxis a step) := by
  intro s
  unfold moveAxis
  split
  · exact Quiet.refl s
  · dsimp only
    split
    · exact quiet_setAxis _ _ s
    · split
      · exact quiet_setAxis _ _ s
      · split
        · exact quiet_setAxis _ _ s
        · split
          · exact quiet_cross _ _ _ _ s
          · exact quiet_setAxis _ _ s

theorem quiet_motionItem (dx dy wheel : Int) (c : ConsoleNo) : QuietOp (motionItem dx dy wheel c) := by
  intro s
  have hg : Quiet s (glideMotion dx dy wheel c s) :=
    ((quiet_moveAxis _ _ s).trans (quiet_moveAxis _ _ _)).trans (quiet_considerReport _ _)
  unfold motionItem
  split
  · exact hg
  · exact quiet_forwardRelative _ _ _ s
  · exact quiet_forwardRelative _ _ _ s

/-! ### Broadcast, peeks and assignments -/

theorem quiet_removeBroadcast (n : Computer) : QuietOp (removeBroadcast n) := by
  intro s
  unfold removeBroadcast
  split
  · unfold setBroadcast
    split
    · exact (quiet_setFocus s _).trans (quiet_raise _ _)
    · exact ((quiet_releaseBelief n s).trans (quiet_setFocus _ _)).trans (quiet_raise _ _)
  · exact Quiet.refl s

theorem quiet_leaveParked (n : Computer) : QuietOp (leaveParked n) := by
  intro s
  unfold leaveParked
  split
  · exact quiet_focusChange _ s
  · exact Quiet.refl s

theorem quiet_parkSteps (n : Computer) : QuietOp (parkSteps n) :=
  fun s => ((quiet_removeBroadcast n s).trans (quiet_leaveParked n _)).trans (quiet_dropAlert n _)

theorem quiet_releaseAllBeliefs : QuietOp releaseAllBeliefs :=
  fun s => quiet_foldl _ (fun s n => quiet_releaseBelief n s) computers s

theorem quiet_focusAtLock : QuietOp focusAtLock :=
  fun s => (quiet_releaseAllBeliefs s).trans (quiet_setFocus _ _)

theorem quiet_focusAtDeskReset : QuietOp focusAtDeskReset :=
  fun s => ((((((quiet_releaseAllBeliefs s).trans (quiet_setFocus _ _)).trans (quiet_syncMirror _)).trans
    (quiet_setGlide _ _)).trans (quiet_seatFirst _)).trans (quiet_modeFromSeat _)).trans
    ((quiet_considerPosition _).trans (quiet_raise _ _))

theorem quiet_assignScreen (sc : ScreenNo) (a : Assignment) : QuietOp (assignScreen sc a) := by
  intro s
  unfold assignScreen
  split
  · exact quiet_modScreen _ _ s
  · exact (quiet_modScreen _ _ s).trans (quiet_reseat _)

theorem quiet_setRequested (sc : ScreenNo) (a : Assignment) : QuietOp (setRequested sc a) := by
  intro s
  unfold setRequested
  split
  · exact quiet_modScreen _ _ s
  · exact quiet_assignScreen _ _ s

theorem quiet_closePeek (sc : ScreenNo) : QuietOp (closePeek sc) :=
  fun s => ((quiet_modScreen _ _ s).trans (quiet_recomputeFrames _)).trans (quiet_raise _ _)

theorem quiet_endPeek (sc : ScreenNo) : QuietOp (endPeek sc) := by
  intro s
  unfold endPeek
  split
  · exact Quiet.refl s
  · exact (quiet_assignScreen _ _ s).trans (quiet_closePeek _ _)

theorem quiet_endPeekQuiet (s : State) (sc : ScreenNo) : Quiet s (endPeekQuiet s sc) := by
  unfold endPeekQuiet
  split
  · exact Quiet.refl s
  · split
    · exact (quiet_modScreen _ _ s).trans (quiet_closePeek _ _)
    · exact (quiet_modScreen _ _ s).trans (quiet_closePeek _ _)

theorem quiet_endAllPeeks : QuietOp endAllPeeks :=
  fun s => quiet_foldl _ (fun s sc => quiet_endPeek sc s) screenNos s

theorem quiet_startPeek (sc : ScreenNo) (c : Channel) : QuietOp (startPeek sc c) :=
  fun s => (((quiet_modScreen _ _ s).trans (quiet_assignScreen _ _ _)).trans (quiet_recomputeFrames _)).trans
    (quiet_raise _ _)

theorem quiet_retargetPeek (sc : ScreenNo) (c : Channel) (p : Peek) : QuietOp (retargetPeek sc c p) := by
  intro s
  unfold retargetPeek
  dsimp only
  split
  · exact quiet_modScreen _ _ s
  · exact (quiet_modScreen _ _ s).trans (quiet_assignScreen _ _ _)

theorem quiet_actPeek (sn c : Nat) : QuietOp (actPeek sn c) := by
  intro s
  unfold actPeek
  split
  · split
    · exact Quiet.refl s
    · split
      · exact quiet_endPeek _ s
      · exact quiet_startPeek _ _ s
      · exact quiet_retargetPeek _ _ _ s
  · exact Quiet.refl s

theorem quiet_displayPending (sc : ScreenNo) : QuietOp (displayPending sc) := by
  intro s
  unfold displayPending
  split
  · exact Quiet.refl s
  · exact (quiet_modScreen _ _ s).trans (quiet_reseat _)

theorem quiet_doDisplayDetach (sc : ScreenNo) : QuietOp (doDisplayDetach sc) := by
  intro s
  unfold doDisplayDetach
  split
  · exact ((((quiet_modScreen _ _ s).trans (quiet_displayPending sc _)).trans (quiet_modScreen _ _ _)).trans
      (quiet_raise _ _)).trans (quiet_reseat _)
  · exact Quiet.refl s

theorem quiet_doDisplayAttach (sc : ScreenNo) (preferred : Option (Nat × Nat)) : QuietOp (doDisplayAttach sc preferred) :=
  fun s => (((quiet_doDisplayDetach sc s).trans (quiet_modScreen _ _ _)).trans (quiet_raise _ _)).trans (quiet_reseat _)

theorem quiet_takePending (sc : ScreenNo) : QuietOp (takePending sc) := by
  intro s
  unfold takePending
  split <;> exact quiet_modScreen _ _ s

theorem quiet_composeScreen (sc : ScreenNo) : QuietOp (composeScreen sc) := by
  intro s
  unfold composeScreen
  exact (quiet_modScreen _ _ s).trans (quiet_modScreen _ _ _)

theorem quiet_doFrameStart (sc : ScreenNo) : QuietOp (doFrameStart sc) := by
  intro s
  unfold doFrameStart
  split
  · have h : Quiet s (composeScreen sc (takePending sc s)) :=
      (quiet_takePending sc s).trans (quiet_composeScreen sc _)
    dsimp only
    split
    · exact h.trans (quiet_reseat _)
    · exact h
  · exact Quiet.refl s

/-! ### Focus actions -/

theorem quiet_focusFound (found : Option Computer) : QuietOp (focusFound found) := by
  intro s
  unfold focusFound
  split
  · exact Quiet.refl s
  · exact quiet_focusChange _ s

theorem quiet_actFocus (n : Nat) : QuietOp (actFocus n) := by
  intro s
  unfold actFocus
  split
  · exact Quiet.refl s
  · split
    · exact Quiet.refl s
    · exact quiet_focusChange _ s

theorem quiet_actFocusBack : QuietOp actFocusBack := by
  intro s
  unfold actFocusBack
  split
  · exact Quiet.refl s
  · split
    · exact Quiet.refl s
    · exact quiet_focusChange _ s

theorem quiet_actBroadcastToggle (n : Nat) : QuietOp (actBroadcastToggle n) := by
  intro s
  unfold actBroadcastToggle
  split
  · exact Quiet.refl s
  · split
    · exact quiet_removeBroadcast _ s
    · split
      · exact Quiet.refl s
      · exact (quiet_setFocus s _).trans (quiet_raise _ _)

theorem quiet_actBroadcastClear : QuietOp actBroadcastClear :=
  fun s => quiet_foldl _ (fun s n => quiet_removeBroadcast n s) computers s

theorem quiet_goToAlert (c : Computer) : QuietOp (goToAlert c) := by
  intro s
  unfold goToAlert
  split
  · exact quiet_acknowledge _ _
  · exact quiet_focusChange _ _

theorem quiet_actGoAlert : QuietOp actGoAlert := by
  intro s
  unfold actGoAlert
  split
  · exact Quiet.refl s
  · exact (quiet_rotateTo _ s).trans (quiet_goToAlert _ _)

theorem quiet_actTypeText : QuietOp actTypeText := by
  intro s
  unfold actTypeText
  split
  · split
    · exact Quiet.refl s
    · dsimp only
      split
      · exact ((quiet_setTypeout s _).trans (quiet_raise _ _)).trans (quiet_enterWaitingRelease _)
      · exact ((quiet_setTypeout s _).trans (quiet_raise _ _)).trans (quiet_wakeRequest _ _)
      · exact ((quiet_setTypeout s _).trans (quiet_raise _ _)).trans (quiet_wakeRequest _ _)
      · exact Quiet.refl s
      · exact Quiet.refl s
      · exact Quiet.refl s
  · exact Quiet.refl s

theorem quiet_actWake (n : Nat) : QuietOp (actWake n) := by
  intro s
  unfold actWake
  split
  · split
    · exact Quiet.refl s
    · exact quiet_wakeRequest _ s
  · split
    · exact Quiet.refl s
    · exact quiet_wakeRequest _ s

/-! ### Link events -/

theorem quiet_loseLink (n : Computer) (link : LinkState) : QuietOp (loseLink n link) := by
  intro s
  unfold loseLink
  split
  · exact Quiet.refl s
  · dsimp only
    have h (u : State) (hu : Quiet s u) :
        Quiet s (raise .link (typeoutLinkLost n (syncMirror (alertLinkLost n (clearBelief n u))))) :=
      ((((hu.trans (quiet_clearBelief n _)).trans (quiet_alertLinkLost n _)).trans (quiet_syncMirror _)).trans
        (quiet_typeoutLinkLost n _)).trans (quiet_raise _ _)
    split
    · exact h _ ((quiet_modPort n _ s).trans (quiet_raise _ _))
    · exact h _ (quiet_modPort n _ s)

theorem quiet_doComputerAttach (n : Computer) : QuietOp (doComputerAttach n) :=
  fun s => (((quiet_loseLink n _ s).trans (quiet_modPort n _ _)).trans (quiet_clearBelief n _)).trans (quiet_raise _ _)

theorem quiet_doConfigure (n : Computer) (remoteWake : Bool) : QuietOp (doConfigure n remoteWake) := by
  intro s
  unfold doConfigure
  split
  · exact Quiet.refl s
  · exact (quiet_modPort n _ s).trans (quiet_raise _ _)
  all_goals exact quiet_modPort n _ s

theorem quiet_doIndicatorReport (n : Computer) (lamps : Byte) : QuietOp (doIndicatorReport n lamps) := by
  intro s
  unfold doIndicatorReport
  split
  · exact ((quiet_modPort n _ s).trans (quiet_takeIndicatorReport n _)).trans (quiet_syncMirror _)
  · exact Quiet.refl s

theorem quiet_doKeyboardPoll (n : Computer) : QuietOp (doKeyboardPoll n) := by
  intro s
  unfold doKeyboardPoll
  split
  · exact quiet_modPort n _ s
  · exact (quiet_modPort n _ s).trans (quiet_raise _ _)
  · exact quiet_modPort n _ s
  · exact quiet_modPort n _ s
  · exact quiet_modPort n _ s
  · exact Quiet.refl s

theorem quiet_doPointerPoll (n : Computer) : QuietOp (doPointerPoll n) := by
  intro s
  unfold doPointerPoll
  split
  · exact quiet_modPort n _ s
  · exact (quiet_modPort n _ s).trans (quiet_raise _ _)
  · exact quiet_modPort n _ s
  · exact quiet_modPort n _ s
  · exact quiet_modPort n _ s
  · exact Quiet.refl s

theorem quiet_doSuspend (n : Computer) : QuietOp (doSuspend n) := by
  intro s
  unfold doSuspend
  split
  · exact (((quiet_modPort n _ s).trans (quiet_clearBelief n _)).trans (quiet_typeoutLeftReady n _)).trans
      (quiet_raise _ _)
  · exact Quiet.refl s

theorem quiet_doResume (n : Computer) : QuietOp (doResume n) := by
  intro s
  unfold doResume
  split
  · dsimp only
    split
    · exact (((quiet_modPort n _ s).trans (quiet_raise _ _)).trans (quiet_raise _ _)).trans (quiet_typeoutReady n _)
    · exact ((quiet_modPort n _ s).trans (quiet_raise _ _)).trans (quiet_typeoutReady n _)
  · exact Quiet.refl s

end Sys2Proof.Machine
end

