-- ==== Sys2Proof/Laws/Desk.lean ====
section
/-! SUPPORT. What key events do to the console: one lemma per operation between a console device and the blocks behind the
lock unit, so that a proof about the desk states unfolds none of them. -/

namespace Sys2Proof.Machine

/-- A press that comes alone is handed to the lock unit, and its key set then becomes the last one (R8, R9). -/
theorem exec_pressAlone {c r k n s} (h : PressAlone c r k n s) :
    exec (.keyboardReport c r) s = .next (keySetTaken c n (lockKeyPress k (keyEntered k s))) := by
  obtain ⟨o, shown, flight, hp, h1, h2⟩ := h.keyboard
  have hr : keyReleases o n = [] := by simp [keyReleases, h1]
  have hk : keyPresses o n = [k] := by
    simp only [keyPresses, h2]; cases hm : isModifier k <;> simp [hm]
  simp only [exec, execKeyboardReport, doKeyboardReport, h.reduced]
  rw [hp]
  simp only [takeKeySet, hr, hk, List.foldl, devicePress, if_neg h.fresh, modConsolePort, keySetTaken]
  rfl

/-- A number up to 255 is the value of its byte. -/
theorem byte_toNat {n : Nat} (h : n ≤ 255) : (byte n).toNat = n := by
  simp [byte]; omega

/-- The command of a hotkey entry runs the entry's action with its arguments (R105). -/
theorem exec_actionRow (e : HotkeyEntry) (ok : e.Ok) (s : State) :
    exec (actionRow e.action (.hotkey (byte e.arg1) (byte e.arg2))) s = .next (runAction e.action e.arg1 e.arg2 s) := by
  have h1 := byte_toNat ok.2.1
  have h2 := byte_toNat ok.2.2.1
  cases e.action <;>
    simp [actionRow, exec, runAction, h1, h2, execNoAction, execFocus, execFocusNext, execFocusPrev, execFocusBack,
      execBroadcastToggle, execBroadcastClear, execShowChannel, execPeek, execPreset, execParkToggle, execWake,
      execWakeAll, execLock, execTypeText, execGoAlert, execCommand, callAction, callTypeText]

/-- The first entry of a table that a test holds of is found. -/
theorem find?_first {α} {n} (v : Vector α n) (p : α → Bool) (i : Fin n) (h : p v[i] = true)
    (hn : ∀ j : Fin n, j < i → p v[j] = false) :
    v.toList.find? p = some v[i] := by
  rw [List.find?_eq_some_iff_getElem]
  refine ⟨h, i.val, by simp, by simp, ?_⟩
  intro j hj
  have := hn ⟨j, by omega⟩ hj
  simpa using this

/-- Where a test holds of no entry of a table, none is found. -/
theorem find?_none {α} {n} (v : Vector α n) (p : α → Bool) (hn : ∀ j : Fin n, p v[j] = false) :
    v.toList.find? p = none := by
  rw [List.find?_eq_none]
  intro x hx
  obtain ⟨j, hj, rfl⟩ := List.mem_iff_getElem.1 hx
  have := hn ⟨j, by simpa using hj⟩
  simpa using this

/-- `t` has the console's sets, the channels, the store and the clock of `s`. -/
structure SameDesk (s t : State) : Prop where
  now : t.now = s.now
  store : t.store = s.store
  channels : t.channels = s.channels
  deskKeys : t.console.deskKeys = s.console.deskKeys
  deskButtons : t.console.deskButtons = s.console.deskButtons
  keys : ∀ c : ConsoleNo, t.console.ports[c].keys = s.console.ports[c].keys
  buttons : ∀ c : ConsoleNo, t.console.ports[c].buttons = s.console.ports[c].buttons
  codes : ∀ c : ConsoleNo, t.console.ports[c].code = s.console.ports[c].code

theorem SameDesk.refl (s : State) : SameDesk s s := ⟨rfl, rfl, rfl, rfl, rfl, fun _ => rfl, fun _ => rfl, fun _ => rfl⟩
theorem SameDesk.trans {s t u : State} (h : SameDesk s t) (k : SameDesk t u) : SameDesk s u :=
  ⟨k.now.trans h.now, k.store.trans h.store, k.channels.trans h.channels, k.deskKeys.trans h.deskKeys,
    k.deskButtons.trans h.deskButtons, fun c => (k.keys c).trans (h.keys c), fun c => (k.buttons c).trans (h.buttons c), fun c => (k.codes c).trans (h.codes c)⟩
theorem Quiet.sameDesk {s t : State} (h : Quiet s t) : SameDesk s t :=
  ⟨h.now, h.store, h.channels, h.deskKeys, h.deskButtons, h.keys, h.buttons, h.codes⟩
theorem sameDesk_of {s t : State} (h1 : t.now = s.now) (h2 : t.store = s.store) (h3 : t.channels = s.channels)
    (h4 : t.console = s.console) : SameDesk s t :=
  ⟨h1, h2, h3, by rw [h4], by rw [h4], fun _ => by rw [h4], fun _ => by rw [h4], fun _ => by rw [h4]⟩

theorem sameDesk_foldl {α : Type} (f : State → α → State) (h : ∀ s a, SameDesk s (f s a)) (l : List α) (s) :
    SameDesk s (l.foldl f s) := by
  induction l generalizing s with
  | nil => exact .refl s
  | cons a l ih => exact (h s a).trans (ih _)

theorem sameDesk_setMatcher (s : State) (m) : SameDesk s (s.setMatcher m) := sameDesk_of rfl rfl rfl rfl
theorem sameDesk_setLock (s : State) (m) : SameDesk s (s.setLock m) := sameDesk_of rfl rfl rfl rfl
theorem sameDesk_setWakeAll (s : State) (m) : SameDesk s (s.setWakeAll m) := sameDesk_of rfl rfl rfl rfl
theorem sameDesk_changeTables (tb) (s : State) : SameDesk s (changeTables tb s) := sameDesk_of rfl rfl rfl rfl

theorem sameDesk_issueWakes (l : List Computer) : ∀ s : State, SameDesk s (issueWakes l s) := by
  induction l with
  | nil => intro s; exact sameDesk_setWakeAll _ _
  | cons n l ih =>
    intro s
    unfold issueWakes
    have h1 := (quiet_wakeRequest n s).sameDesk
    simp only
    split
    · exact h1.trans (sameDesk_setWakeAll _ _)
    · split
      · exact h1.trans (ih _)
      · exact h1.trans (sameDesk_setWakeAll _ _)

theorem sameDesk_setLockRecord (l : Lock) (s : State) : SameDesk s (setLockRecord l s) :=
  (sameDesk_setLock s l).trans (quiet_syncBlanked _).sameDesk

theorem sameDesk_lockConsole (s : State) : SameDesk s (lockConsole s) :=
  (sameDesk_setLockRecord _ s).trans <| (quiet_endTypeout _ _).sameDesk.trans <| (sameDesk_setMatcher _ _).trans <|
   (quiet_endAllPeeks _).sameDesk.trans <| (quiet_focusAtLock _).sameDesk.trans (quiet_raise _ _).sameDesk

theorem sameDesk_runAction (a : Action) (x y : Nat) (s : State) : SameDesk s (runAction a x y s) := by
  cases a <;> simp only [runAction]
  · exact .refl s
  · exact (quiet_actFocus _ _).sameDesk
  · exact (quiet_focusFound _ _).sameDesk
  · exact (quiet_focusFound _ _).sameDesk
  · exact (quiet_actFocusBack _).sameDesk
  · exact (quiet_actBroadcastToggle _ _).sameDesk
  · exact (quiet_actBroadcastClear _).sameDesk
  · unfold actShow
    split
    · split
      · exact .refl s
      · exact (sameDesk_changeTables _ _).trans (quiet_setRequested _ _ _).sameDesk
    · exact .refl s
  · exact (quiet_actPeek _ _ _).sameDesk
  · unfold actPreset
    split
    · exact .refl s
    · simp only
      split
      · exact .refl s
      · refine (sameDesk_changeTables _ _).trans (sameDesk_foldl _ ?_ _ _)
        intro s sc
        unfold presetScreen
        split
        · exact .refl s
        · exact (quiet_setRequested _ _ _).sameDesk
  · unfold actParkToggle
    split
    · exact .refl s
    · rename_i c _
      simp only
      refine SameDesk.trans (sameDesk_changeTables
        { s.tables with
          computer := s.tables.computer.set c { s.tables.computer[c] with parked := !s.tables.computer[c].parked } } s) ?_
      split
      · exact ((quiet_reseat _).trans ((quiet_freshEvaluate _ _).trans (quiet_recomputeFrames _))).sameDesk
      · exact ((quiet_parkSteps _ _).trans ((quiet_reseat _).trans (quiet_recomputeFrames _))).sameDesk
  · exact (quiet_actWake _ _).sameDesk
  · unfold actWakeAll
    split
    · exact .refl s
    · split
      · exact .refl s
      · exact sameDesk_issueWakes _ _
  · unfold actLock
    split
    · exact sameDesk_lockConsole s
    · exact .refl s
  · exact (quiet_actTypeText _).sameDesk
  · exact (quiet_actGoAlert _).sameDesk
  · unfold actCommand
    split
    · exact sameDesk_setMatcher _ _
    · exact .refl s

theorem sameDesk_runEntry (e) (s : State) : SameDesk s (runEntry e s) := by
  unfold runEntry
  split
  · exact .refl s
  · exact sameDesk_runAction _ _ _ _

theorem sameDesk_matcherPress (k : Nat) (s : State) : SameDesk s (matcherPress k s) := by
  unfold matcherPress
  split
  · exact (sameDesk_setMatcher _ _).trans (sameDesk_runEntry _ _)
  · split
    · exact (sameDesk_setMatcher _ _).trans (sameDesk_runEntry _ _)
    · split
      · exact (sameDesk_setMatcher _ _).trans (sameDesk_runEntry _ _)
      · exact (sameDesk_setMatcher _ _).trans ((quiet_endTypeout _ _).trans (quiet_focusKeyPress _ _)).sameDesk

theorem sameDesk_lockKeyPress (k : Nat) (s : State) : SameDesk s (lockKeyPress k s) := by
  unfold lockKeyPress
  split
  · exact sameDesk_matcherPress k s
  · unfold lockedPress
    split
    · exact .refl s
    · unfold comparePress
      split
      · split
        · exact sameDesk_setLock _ _
        · exact (sameDesk_setLockRecord _ _).trans (quiet_raise _ _).sameDesk
      · split
        · exact .refl s
        · unfold failAttempt
          simp only
          split
          · exact (sameDesk_setLockRecord _ _).trans (quiet_raise _ _).sameDesk
          · exact (sameDesk_setLockRecord _ _).trans (quiet_raise _ _).sameDesk
  · exact .refl s

theorem quiet_markAlone (m : Bool) (s : State) : Quiet s (markAlone m s) := by
  unfold markAlone
  split
  · exact (quiet_typeoutMark _).trans (quiet_focusMark _)
  · exact .refl s

theorem quiet_markTypeout (m : Bool) (s : State) : Quiet s (markTypeout m s) := by
  unfold markTypeout
  split
  · exact (quiet_typeoutMark _)
  · exact .refl s

theorem sameDesk_lockKeyRelease (k : Nat) (m : Bool) (s : State) : SameDesk s (lockKeyRelease k m s) := by
  unfold lockKeyRelease
  split
  · exact (sameDesk_setMatcher _ _).trans ((quiet_markTypeout _ _).trans (quiet_focusKeyRelease _ _ _)).sameDesk
  · exact (quiet_markAlone _ _).sameDesk
  · exact (quiet_markAlone _ _).sameDesk

/-! ### Members of the desk key state -/
theorem mem_setErase (k a : Nat) (l : List Nat) : a ∈ setErase k l ↔ a ∈ l ∧ a ≠ k := by simp [setErase]
theorem mem_setInsert (k a : Nat) (l : List Nat) : a ∈ setInsert k l ↔ a = k ∨ a ∈ l := by
  induction l with
  | nil => simp [setInsert]
  | cons b l ih =>
    simp only [setInsert]
    split
    · simp
    · split
      · simp_all
      · simp [ih]; tauto
theorem mem_setDiff (a : Nat) (l m : List Nat) : a ∈ setDiff l m ↔ a ∈ l ∧ a ∉ m := by simp [setDiff]

theorem heldElsewhere_iff (c : ConsoleNo) (k : Nat) (s : State) :
    heldElsewhere c k s = true ↔ ∃ d : ConsoleNo, d ≠ c ∧ k ∈ s.console.ports[d].keys := by
  simp only [heldElsewhere, List.any_eq_true, Bool.and_eq_true, decide_eq_true_eq]
  constructor
  · rintro ⟨d, _, h⟩; exact ⟨d, h.1, by simpa using h.2⟩
  · rintro ⟨d, h⟩; refine ⟨d, ?_, h.1, by simpa using h.2⟩
    fin_cases d <;> simp [consoleNos]

theorem buttonElsewhere_iff (c : ConsoleNo) (k : Nat) (s : State) :
    buttonElsewhere c k s = true ↔ ∃ d : ConsoleNo, d ≠ c ∧ k ∈ s.console.ports[d].buttons := by
  simp only [buttonElsewhere, List.any_eq_true, Bool.and_eq_true, decide_eq_true_eq]
  constructor
  · rintro ⟨d, _, h⟩; exact ⟨d, h.1, by simpa using h.2⟩
  · rintro ⟨d, h⟩; refine ⟨d, ?_, h.1, by simpa using h.2⟩
    fin_cases d <;> simp [consoleNos]

/-- `t` agrees with `s` in the console's other sets, the channels, the store and the clock; the desk key state may differ. -/
structure KeysMoved (s t : State) : Prop where
  now : t.now = s.now
  store : t.store = s.store
  channels : t.channels = s.channels
  deskButtons : t.console.deskButtons = s.console.deskButtons
  keys : ∀ c : ConsoleNo, t.console.ports[c].keys = s.console.ports[c].keys
  buttons : ∀ c : ConsoleNo, t.console.ports[c].buttons = s.console.ports[c].buttons
  codes : ∀ c : ConsoleNo, t.console.ports[c].code = s.console.ports[c].code

theorem KeysMoved.refl (s : State) : KeysMoved s s := ⟨rfl, rfl, rfl, rfl, fun _ => rfl, fun _ => rfl, fun _ => rfl⟩
theorem KeysMoved.trans {s t u : State} (h : KeysMoved s t) (k : KeysMoved t u) : KeysMoved s u :=
  ⟨k.now.trans h.now, k.store.trans h.store, k.channels.trans h.channels, k.deskButtons.trans h.deskButtons,
   fun c => (k.keys c).trans (h.keys c), fun c => (k.buttons c).trans (h.buttons c), fun c => (k.codes c).trans (h.codes c)⟩
theorem SameDesk.moved {s t : State} (h : SameDesk s t) : KeysMoved s t :=
  ⟨h.now, h.store, h.channels, h.deskButtons, h.keys, h.buttons, h.codes⟩

/-- A release of `k` from one device takes `k` out of the desk key state unless another device holds it (R9). -/
theorem deviceRelease_moved (c : ConsoleNo) (s : State) (k : Nat) : KeysMoved s (deviceRelease c s k) ∧
    ∀ a, a ∈ (deviceRelease c s k).console.deskKeys ↔
      a ∈ s.console.deskKeys ∧ (a ≠ k ∨ ∃ d : ConsoleNo, d ≠ c ∧ a ∈ s.console.ports[d].keys) := by
  unfold deviceRelease
  split
  · rename_i h
    rw [heldElsewhere_iff] at h
    refine ⟨.refl s, ?_⟩
    intro a
    by_cases ha : a = k
    · subst ha; simp only [h, or_true, and_true]
    · simp [ha]
  · rename_i h
    rw [heldElsewhere_iff] at h
    have := sameDesk_lockKeyRelease k
      (deskEmpty (s.setConsole { s.console with deskKeys := setErase k s.console.deskKeys }))
      (s.setConsole { s.console with deskKeys := setErase k s.console.deskKeys })
    have e : KeysMoved s (s.setConsole { s.console with deskKeys := setErase k s.console.deskKeys }) :=
      ⟨rfl, rfl, rfl, rfl, fun _ => rfl, fun _ => rfl, fun _ => rfl⟩
    refine ⟨e.trans this.moved, ?_⟩
    intro a
    simp only [this.deskKeys, State.setConsole_console, mem_setErase]
    by_cases ha : a = k
    · subst ha; simp only [ne_eq, not_true_eq_false, and_false, false_or, false_iff, not_and]; intro _; exact h
    · simp [ha]

/-- The releases of a report, one after another (R8, R9). -/
theorem releases_moved (c : ConsoleNo) (l : List Nat) : ∀ s : State, KeysMoved s (l.foldl (deviceRelease c) s) ∧
    ∀ a, a ∈ (l.foldl (deviceRelease c) s).console.deskKeys ↔
      a ∈ s.console.deskKeys ∧ (a ∉ l ∨ ∃ d : ConsoleNo, d ≠ c ∧ a ∈ s.console.ports[d].keys) := by
  induction l with
  | nil => intro s; exact ⟨.refl s, by simp⟩
  | cons k l ih =>
    intro s
    obtain ⟨h1, h2⟩ := deviceRelease_moved c s k
    obtain ⟨h3, h4⟩ := ih (deviceRelease c s k)
    refine ⟨h1.trans h3, ?_⟩
    intro a
    simp only [List.foldl, h4, h2, h1.keys, List.mem_cons]
    tauto

/-- A press of `k` enters `k` in the desk key state (R9). -/
theorem devicePress_moved (s : State) (k : Nat) : KeysMoved s (devicePress s k) ∧
    ∀ a, a ∈ (devicePress s k).console.deskKeys ↔ a ∈ s.console.deskKeys ∨ a = k := by
  unfold devicePress
  split
  · rename_i h
    refine ⟨.refl s, ?_⟩
    intro a; constructor
    · exact .inl
    · rintro (h'|rfl) <;> assumption
  · have := sameDesk_lockKeyPress k (s.setConsole { s.console with deskKeys := setInsert k s.console.deskKeys })
    have e : KeysMoved s (s.setConsole { s.console with deskKeys := setInsert k s.console.deskKeys }) :=
      ⟨rfl, rfl, rfl, rfl, fun _ => rfl, fun _ => rfl, fun _ => rfl⟩
    refine ⟨e.trans this.moved, ?_⟩
    intro a
    simp only [this.deskKeys, State.setConsole_console, mem_setInsert]
    tauto

/-- The presses of a report, one after another (R8, R9). -/
theorem presses_moved (l : List Nat) : ∀ s : State, KeysMoved s (l.foldl devicePress s) ∧
    ∀ a, a ∈ (l.foldl devicePress s).console.deskKeys ↔ a ∈ s.console.deskKeys ∨ a ∈ l := by
  induction l with
  | nil => intro s; exact ⟨.refl s, by simp⟩
  | cons k l ih =>
    intro s
    obtain ⟨h1, h2⟩ := devicePress_moved s k
    obtain ⟨h3, h4⟩ := ih (devicePress s k)
    refine ⟨h1.trans h3, ?_⟩
    intro a
    simp only [List.foldl, h4, h2, List.mem_cons]
    tauto

theorem mem_keyReleases (a : Nat) (o n : List Nat) : a ∈ keyReleases o n ↔ a ∈ o ∧ a ∉ n := by
  simp [keyReleases, mem_setDiff]; cases isModifier a <;> simp
theorem mem_keyPresses (a : Nat) (o n : List Nat) : a ∈ keyPresses o n ↔ a ∈ n ∧ a ∉ o := by
  simp [keyPresses, mem_setDiff]; cases isModifier a <;> simp

end Sys2Proof.Machine
end

