-- ==== Sys2Proof/Laws/LastSets.lean ====
section
/-! SUPPORT. No block sees a device's last sets: changing the last set of one console port alone commutes with what the
blocks do with an event, so the changes of a report may be made one report each (R8, R13). -/

namespace Sys2Proof.Machine

/-- A change of a console port's record that touches a device's last sets alone, so that outputs start as they would. -/
structure SetsOnly (g : ConsolePort → ConsolePort) : Prop where
  output : ∀ v p, (g p).startOutput v = g (p.startOutput v)
  due : ∀ v p, (g p).needsOutput v = p.needsOutput v

theorem setsOnly_setKeys (n : List Nat) : SetsOnly (ConsolePort.setKeys n) := by
  refine ⟨fun v p => ?_, fun v p => ?_⟩ <;> unfold ConsolePort.setKeys <;>
    rcases p with _ | ⟨_, _, _ | _⟩ | _ | _ <;> simp [ConsolePort.startOutput, ConsolePort.needsOutput]
  split <;> rfl

theorem setsOnly_setButtons (n : List Nat) : SetsOnly (ConsolePort.setButtons n) := by
  refine ⟨fun v p => ?_, fun v p => ?_⟩ <;> unfold ConsolePort.setButtons <;>
    rcases p with _ | ⟨_, _, _ | _⟩ | _ | _ <;> simp [ConsolePort.startOutput, ConsolePort.needsOutput]
  split <;> rfl

variable {c : ConsoleNo} {g : ConsolePort → ConsolePort} {s : State}

/-! ### The fields such a change leaves alone -/

@[simp] theorem modConsolePort_now : (modConsolePort c g s).now = s.now := rfl
@[simp] theorem modConsolePort_lock : (modConsolePort c g s).lock = s.lock := rfl
@[simp] theorem modConsolePort_matcher : (modConsolePort c g s).matcher = s.matcher := rfl
@[simp] theorem modConsolePort_focus : (modConsolePort c g s).focus = s.focus := rfl
@[simp] theorem modConsolePort_glide : (modConsolePort c g s).glide = s.glide := rfl
@[simp] theorem modConsolePort_screens : (modConsolePort c g s).screens = s.screens := rfl
@[simp] theorem modConsolePort_channels : (modConsolePort c g s).channels = s.channels := rfl
@[simp] theorem modConsolePort_ports : (modConsolePort c g s).ports = s.ports := rfl
@[simp] theorem modConsolePort_wakeAll : (modConsolePort c g s).wakeAll = s.wakeAll := rfl
@[simp] theorem modConsolePort_typeout : (modConsolePort c g s).typeout = s.typeout := rfl
@[simp] theorem modConsolePort_alerts : (modConsolePort c g s).alerts = s.alerts := rfl
@[simp] theorem modConsolePort_mgmt : (modConsolePort c g s).mgmt = s.mgmt := rfl
@[simp] theorem modConsolePort_tables : (modConsolePort c g s).tables = s.tables := rfl
@[simp] theorem modConsolePort_deskKeys : (modConsolePort c g s).console.deskKeys = s.console.deskKeys := rfl
@[simp] theorem modConsolePort_deskButtons : (modConsolePort c g s).console.deskButtons = s.console.deskButtons := rfl
@[simp] theorem modConsolePort_mirrored : (modConsolePort c g s).console.mirrored = s.console.mirrored := rfl

/-! ### Updates of one field -/

@[simp] theorem setLock_lastSets (v) : (modConsolePort c g s).setLock v = modConsolePort c g (s.setLock v) := rfl
@[simp] theorem setMatcher_lastSets (v) : (modConsolePort c g s).setMatcher v = modConsolePort c g (s.setMatcher v) := rfl
@[simp] theorem setFocus_lastSets (v) : (modConsolePort c g s).setFocus v = modConsolePort c g (s.setFocus v) := rfl
@[simp] theorem setGlide_lastSets (v) : (modConsolePort c g s).setGlide v = modConsolePort c g (s.setGlide v) := rfl
@[simp] theorem setScreens_lastSets (v) : (modConsolePort c g s).setScreens v = modConsolePort c g (s.setScreens v) := rfl
@[simp] theorem setPorts_lastSets (v) : (modConsolePort c g s).setPorts v = modConsolePort c g (s.setPorts v) := rfl
@[simp] theorem setWakeAll_lastSets (v) : (modConsolePort c g s).setWakeAll v = modConsolePort c g (s.setWakeAll v) := rfl
@[simp] theorem setTypeout_lastSets (v) : (modConsolePort c g s).setTypeout v = modConsolePort c g (s.setTypeout v) := rfl
@[simp] theorem setAlerts_lastSets (v) : (modConsolePort c g s).setAlerts v = modConsolePort c g (s.setAlerts v) := rfl
@[simp] theorem modPort_lastSets (p f) : (modConsolePort c g s).modPort p f = modConsolePort c g (s.modPort p f) := rfl
@[simp] theorem modScreen_lastSets (sc f) :
    (modConsolePort c g s).modScreen sc f = modConsolePort c g (s.modScreen sc f) := rfl
@[simp] theorem setBelief_lastSets (n b) :
    (modConsolePort c g s).setBelief n b = modConsolePort c g (s.setBelief n b) := rfl

@[simp] theorem syncMirror_lastSets (hg : SetsOnly g) :
    syncMirror (modConsolePort c g s) = modConsolePort c g (syncMirror s) := by
  unfold syncMirror
  have e : mirrorSource (modConsolePort c g s) = mirrorSource s := rfl
  rw [e, modConsolePort_mirrored]
  by_cases hm : mirrorSource s = s.console.mirrored
  · rw [if_pos hm, if_pos hm]
  · rw [if_neg hm, if_neg hm]
    simp only [modConsolePort, Console.startOutputs, State.setConsole, State.mk.injEq, Console.mk.injEq, true_and,
      and_true]
    constructor
    · ext i hi : 1
      by_cases h : c.val = i
      · subst h; simp [hg.output]
      · simp [Vector.getElem_set, h]
    · ext i hi : 1
      by_cases h : c.val = i
      · subst h; simp [Console.outputFrom, hg.due]
      · simp [Console.outputFrom, Vector.getElem_set, h]

/-! ### What the blocks read -/

@[simp] theorem mirrorSource_lastSets : mirrorSource (modConsolePort c g s) = mirrorSource s := rfl
@[simp] theorem deskEmpty_lastSets : deskEmpty (modConsolePort c g s) = deskEmpty s := rfl
@[simp] theorem screenTiles_lastSets (sc) : screenTiles (modConsolePort c g s) sc = screenTiles s sc := rfl
@[simp] theorem allTiles_lastSets : allTiles (modConsolePort c g s) = allTiles s := rfl
@[simp] theorem liveOwner_lastSets (t) : liveOwner (modConsolePort c g s) t = liveOwner s t := rfl
@[simp] theorem alerting_lastSets : alerting (modConsolePort c g s) = alerting s := rfl
@[simp] theorem kindsFor_lastSets (sc a) : kindsFor (modConsolePort c g s) sc a = kindsFor s sc a := rfl
@[simp] theorem blankCall_lastSets : blankCall (modConsolePort c g s) = blankCall s := rfl
@[simp] theorem compose_lastSets (sc) : compose (modConsolePort c g s) sc = compose s sc := rfl
@[simp] theorem summaryAfter_lastSets (e n) : summaryAfter e (modConsolePort c g s) n = summaryAfter e s n := rfl
@[simp] theorem wakeAllList_lastSets : wakeAllList (modConsolePort c g s) = wakeAllList s := rfl
@[simp] theorem wakeAllowed_lastSets (n) : wakeAllowed n (modConsolePort c g s) = wakeAllowed n s := rfl
@[simp] theorem lastAttempt_lastSets (n) : lastAttempt n (modConsolePort c g s) = lastAttempt n s := rfl
@[simp] theorem skipCount_lastSets : skipCount (modConsolePort c g s) = skipCount s := rfl
@[simp] theorem fallList_lastSets (n) : fallList (modConsolePort c g s) n = fallList s n := rfl
@[simp] theorem freshSource_lastSets (n) : freshSource (modConsolePort c g s) n = freshSource s n := rfl
@[simp] theorem freshList_lastSets (n) : freshList (modConsolePort c g s) n = freshList s n := rfl
@[simp] theorem riseList_lastSets (n) : riseList (modConsolePort c g s) n = riseList s n := rfl
@[simp] theorem seatTile_lastSets : seatTile (modConsolePort c g s) = seatTile s := rfl
@[simp] theorem knownTiming_lastSets (c') : knownTiming (modConsolePort c g s) c' = knownTiming s c' := rfl
@[simp] theorem desktopWidth_lastSets (n) : desktopWidth (modConsolePort c g s) n = desktopWidth s n := rfl
@[simp] theorem desktopHeight_lastSets (n) : desktopHeight (modConsolePort c g s) n = desktopHeight s n := rfl
@[simp] theorem absoluteHere_lastSets (n) : absoluteHere (modConsolePort c g s) n = absoluteHere s n := rfl
@[simp] theorem withheldPosition_lastSets (n) : withheldPosition (modConsolePort c g s) n = withheldPosition s n := rfl
@[simp] theorem locate_lastSets (x y) : locate (modConsolePort c g s) x y = locate s x y := rfl
@[simp] theorem firstLiveOf_lastSets (n) : firstLiveOf (modConsolePort c g s) n = firstLiveOf s n := rfl
@[simp] theorem firstLive_lastSets : firstLive (modConsolePort c g s) = firstLive s := rfl
@[simp] theorem seatOwner_lastSets : seatOwner (modConsolePort c g s) = seatOwner s := rfl
@[simp] theorem rememberedTile_lastSets (n) : rememberedTile (modConsolePort c g s) n = rememberedTile s n := rfl
@[simp] theorem stayTile_lastSets : stayTile (modConsolePort c g s) = stayTile s := rfl
@[simp] theorem newTile_lastSets : newTile (modConsolePort c g s) = newTile s := rfl
@[simp] theorem crossingPermitted_lastSets (n) :
    crossingPermitted n (modConsolePort c g s) = crossingPermitted n s := rfl
@[simp] theorem axisPos_lastSets (a) : axisPos a (modConsolePort c g s) = axisPos a s := rfl
@[simp] theorem axisPoint_lastSets (a p) : axisPoint a p (modConsolePort c g s) = axisPoint a p s := rfl
@[simp] theorem reachable_lastSets (n) : reachable (modConsolePort c g s) n = reachable s n := rfl
@[simp] theorem secondTap_lastSets (k) : secondTap k (modConsolePort c g s) = secondTap k s := rfl
@[simp] theorem candidateOf_lastSets (k) : candidateOf k (modConsolePort c g s) = candidateOf k s := rfl
@[simp] theorem peekTime_lastSets : peekTime (modConsolePort c g s) = peekTime s := rfl

/-! ### Shared operations -/

@[simp] theorem raise_lastSets (e) : raise e (modConsolePort c g s) = modConsolePort c g (raise e s) := rfl
@[simp] theorem clearBelief_lastSets (n) :
    clearBelief n (modConsolePort c g s) = modConsolePort c g (clearBelief n s) := rfl
@[simp] theorem releaseBelief_lastSets (n) :
    releaseBelief n (modConsolePort c g s) = modConsolePort c g (releaseBelief n s) := rfl
@[simp] theorem recomputeFrames_lastSets :
    recomputeFrames (modConsolePort c g s) = modConsolePort c g (recomputeFrames s) := rfl
@[simp] theorem syncBlanked_lastSets : syncBlanked (modConsolePort c g s) = modConsolePort c g (syncBlanked s) := rfl
@[simp] theorem changeTables_lastSets (tb) :
    changeTables tb (modConsolePort c g s) = modConsolePort c g (changeTables tb s) := rfl

@[simp] theorem bestPriority_lastSets (l) : bestPriority (modConsolePort c g s) l = bestPriority s l := by
  induction l with
  | nil => rfl
  | cons e l ih => unfold bestPriority; rw [ih]; rfl

@[simp] theorem alertChoice_lastSets : alertChoice (modConsolePort c g s) = alertChoice s := by
  simp [alertChoice]

@[simp] theorem foldl_lastSets {α : Type} {f : State → α → State} (l : List α)
    (h : ∀ a s, f (modConsolePort c g s) a = modConsolePort c g (f s a)) :
    l.foldl f (modConsolePort c g s) = modConsolePort c g (l.foldl f s) := by
  induction l generalizing s with
  | nil => rfl
  | cons a l ih => simp only [List.foldl_cons, h, ih]

theorem reachable_lastSets' : reachable (modConsolePort c g s) = reachable s := rfl

/-! ### Alerts -/

@[simp] theorem setAlertList_lastSets (l) :
    setAlertList l (modConsolePort c g s) = modConsolePort c g (setAlertList l s) := by
  unfold setAlertList
  simp
  (repeat' split) <;> simp_all

@[simp] theorem setSource_lastSets (n src) :
    setSource n src (modConsolePort c g s) = modConsolePort c g (setSource n src s) := rfl

@[simp] theorem takeIndicatorReport_lastSets (n) :
    takeIndicatorReport n (modConsolePort c g s) = modConsolePort c g (takeIndicatorReport n s) := by
  unfold takeIndicatorReport
  simp

@[simp] theorem freshEvaluate_lastSets (n) :
    freshEvaluate n (modConsolePort c g s) = modConsolePort c g (freshEvaluate n s) := by
  unfold freshEvaluate
  simp

@[simp] theorem acknowledge_lastSets (n) :
    acknowledge n (modConsolePort c g s) = modConsolePort c g (acknowledge n s) := by
  unfold acknowledge
  simp

@[simp] theorem dropAlert_lastSets (n) : dropAlert n (modConsolePort c g s) = modConsolePort c g (dropAlert n s) := by
  unfold dropAlert
  simp

@[simp] theorem rotateTo_lastSets (n) : rotateTo n (modConsolePort c g s) = modConsolePort c g (rotateTo n s) := by
  unfold rotateTo
  simp
  split <;> rfl

/-! ### Type-out -/

@[simp] theorem releaseTyped_lastSets (n p) :
    releaseTyped n p (modConsolePort c g s) = modConsolePort c g (releaseTyped n p s) := by
  unfold releaseTyped
  simp
  split <;> rfl

@[simp] theorem releaseIfPressed_lastSets :
    releaseIfPressed (modConsolePort c g s) = modConsolePort c g (releaseIfPressed s) := by
  unfold releaseIfPressed
  simp
  (repeat' split) <;> simp_all

@[simp] theorem endTypeout_lastSets (e) :
    endTypeout e (modConsolePort c g s) = modConsolePort c g (endTypeout e s) := by
  unfold endTypeout
  simp
  split <;> rfl

@[simp] theorem takeUp_lastSets : takeUp (modConsolePort c g s) = modConsolePort c g (takeUp s) := by
  unfold takeUp
  by_cases h : s.typeout.text.length ≤ s.typeout.index + skipCount s <;> simp [h]

@[simp] theorem enterActive_lastSets : enterActive (modConsolePort c g s) = modConsolePort c g (enterActive s) := by
  unfold enterActive
  simp

@[simp] theorem enterWaitingRelease_lastSets :
    enterWaitingRelease (modConsolePort c g s) = modConsolePort c g (enterWaitingRelease s) := by
  unfold enterWaitingRelease
  simp
  split <;> rfl

@[simp] theorem typeoutMark_lastSets : typeoutMark (modConsolePort c g s) = modConsolePort c g (typeoutMark s) := by
  unfold typeoutMark
  simp
  split <;> rfl

@[simp] theorem typeoutWakeLost_lastSets (n) :
    typeoutWakeLost n (modConsolePort c g s) = modConsolePort c g (typeoutWakeLost n s) := by
  unfold typeoutWakeLost
  simp
  split <;> rfl

/-! ### Wakes -/

@[simp] theorem refuseWake_lastSets (n) :
    refuseWake n (modConsolePort c g s) = modConsolePort c g (refuseWake n s) := by
  unfold refuseWake
  simp

@[simp] theorem startWake_lastSets (n) : startWake n (modConsolePort c g s) = modConsolePort c g (startWake n s) := by
  unfold startWake
  simp

@[simp] theorem wakeRequest_lastSets (n) :
    wakeRequest n (modConsolePort c g s) = modConsolePort c g (wakeRequest n s) := by
  unfold wakeRequest
  simp
  (repeat' split) <;> simp_all

@[simp] theorem issueWakes_lastSets (l) :
    issueWakes l (modConsolePort c g s) = modConsolePort c g (issueWakes l s) := by
  induction l generalizing s with
  | nil => rfl
  | cons n l ih =>
    unfold issueWakes
    simp [ih]
    (repeat' split) <;> simp_all

@[simp] theorem actWakeAll_lastSets : actWakeAll (modConsolePort c g s) = modConsolePort c g (actWakeAll s) := by
  unfold actWakeAll
  simp
  (repeat' split) <;> simp_all

@[simp] theorem actWake_lastSets (n) : actWake n (modConsolePort c g s) = modConsolePort c g (actWake n s) := by
  unfold actWake
  simp
  (repeat' split) <;> simp_all

/-! ### Pointer -/

@[simp] theorem handAbsolute_lastSets (n pos wheel) :
    handAbsolute n pos wheel (modConsolePort c g s) = modConsolePort c g (handAbsolute n pos wheel s) := by
  unfold handAbsolute
  simp
  (repeat' split) <;> simp_all

@[simp] theorem considerReport_lastSets (wheel) :
    considerReport wheel (modConsolePort c g s) = modConsolePort c g (considerReport wheel s) := by
  unfold considerReport
  simp
  (repeat' split) <;> simp_all

@[simp] theorem considerPosition_lastSets :
    considerPosition (modConsolePort c g s) = modConsolePort c g (considerPosition s) := by
  unfold considerPosition
  simp
  split <;> rfl

@[simp] theorem buttonAbsolute_lastSets (n) :
    buttonAbsolute n (modConsolePort c g s) = modConsolePort c g (buttonAbsolute n s) := by
  unfold buttonAbsolute
  simp

@[simp] theorem placeAt_lastSets (pos t n) :
    placeAt pos t n (modConsolePort c g s) = modConsolePort c g (placeAt pos t n s) := rfl

@[simp] theorem setMode_lastSets (m) : setMode m (modConsolePort c g s) = modConsolePort c g (setMode m s) := by
  unfold setMode
  simp
  split <;> rfl

@[simp] theorem seatFor_lastSets (n) : seatFor n (modConsolePort c g s) = modConsolePort c g (seatFor n s) := by
  unfold seatFor
  simp
  (repeat' split) <;> simp_all

/-! ### Focus -/

@[simp] theorem releaseOldFocus_lastSets :
    releaseOldFocus (modConsolePort c g s) = modConsolePort c g (releaseOldFocus s) := by
  unfold releaseOldFocus
  simp
  (repeat' split) <;> simp_all

@[simp] theorem remember_lastSets (n pos) :
    remember n pos (modConsolePort c g s) = modConsolePort c g (remember n pos s) := rfl

@[simp] theorem rememberHere_lastSets : rememberHere (modConsolePort c g s) = modConsolePort c g (rememberHere s) := by
  unfold rememberHere
  simp
  (repeat' split) <;> simp_all

@[simp] theorem rememberHanded_lastSets (h) :
    rememberHanded h (modConsolePort c g s) = modConsolePort c g (rememberHanded h s) := by
  unfold rememberHanded
  simp
  split <;> rfl

@[simp] theorem setFocusTo_lastSets (hg : SetsOnly g) (n) :
    setFocusTo n (modConsolePort c g s) = modConsolePort c g (setFocusTo n s) := by
  unfold setFocusTo
  simp [hg]
  split <;> rfl

@[simp] theorem wakeOnFocus_lastSets (n) :
    wakeOnFocus n (modConsolePort c g s) = modConsolePort c g (wakeOnFocus n s) := by
  unfold wakeOnFocus
  simp
  (repeat' split) <;> simp_all

@[simp] theorem announceFocus_lastSets :
    announceFocus (modConsolePort c g s) = modConsolePort c g (announceFocus s) := by
  unfold announceFocus
  simp

@[simp] theorem focusChange_lastSets (hg : SetsOnly g) (n) :
    focusChange n (modConsolePort c g s) = modConsolePort c g (focusChange n s) := by
  unfold focusChange
  simp [hg]
  split <;> rfl

@[simp] theorem focusChangePlaced_lastSets (hg : SetsOnly g) (n h) :
    focusChangePlaced n h (modConsolePort c g s) = modConsolePort c g (focusChangePlaced n h s) := by
  unfold focusChangePlaced
  simp [hg]
  split <;> rfl

@[simp] theorem actOnReseat_lastSets (hg : SetsOnly g) (o) :
    actOnReseat o (modConsolePort c g s) = modConsolePort c g (actOnReseat o s) := by
  unfold actOnReseat
  simp [hg]
  (repeat' split) <;> simp_all

theorem reseatPlace_lastSets :
    reseatPlace (modConsolePort c g s) = (modConsolePort c g (reseatPlace s).1, (reseatPlace s).2) := by
  unfold reseatPlace
  rw [stayTile_lastSets, newTile_lastSets]
  split
  · rfl
  · split <;> rfl

@[simp] theorem reseat_lastSets (hg : SetsOnly g) : reseat (modConsolePort c g s) = modConsolePort c g (reseat s) := by
  unfold reseat
  simp [hg, reseatPlace_lastSets]

@[simp] theorem focusMark_lastSets (hg : SetsOnly g) :
    focusMark (modConsolePort c g s) = modConsolePort c g (focusMark s) := by
  unfold focusMark
  simp [hg]
  (repeat' split) <;> simp_all

@[simp] theorem queuePress_lastSets (n k) :
    queuePress n k (modConsolePort c g s) = modConsolePort c g (queuePress n k s) := by
  unfold queuePress
  simp
  (repeat' split) <;> simp_all

@[simp] theorem sendPress_lastSets (n k) :
    sendPress n k (modConsolePort c g s) = modConsolePort c g (sendPress n k s) := by
  unfold sendPress
  simp

@[simp] theorem deliverPress_lastSets (n b k) :
    deliverPress n b k (modConsolePort c g s) = modConsolePort c g (deliverPress n b k s) := by
  unfold deliverPress
  simp
  (repeat' split) <;> simp_all

@[simp] theorem wakeOnInput_lastSets (n) :
    wakeOnInput n (modConsolePort c g s) = modConsolePort c g (wakeOnInput n s) := by
  unfold wakeOnInput
  simp
  split <;> rfl

@[simp] theorem pressForFocus_lastSets (k) :
    pressForFocus k (modConsolePort c g s) = modConsolePort c g (pressForFocus k s) := by
  unfold pressForFocus
  simp
  split <;> rfl

@[simp] theorem pressForMember_lastSets (k n) :
    pressForMember k (modConsolePort c g s) n = modConsolePort c g (pressForMember k s n) := by
  unfold pressForMember
  simp
  split <;> rfl

@[simp] theorem releaseAt_lastSets (k n) :
    releaseAt k (modConsolePort c g s) n = modConsolePort c g (releaseAt k s n) := by
  unfold releaseAt
  simp
  (repeat' split) <;> simp_all

@[simp] theorem tellButtons_lastSets (n) :
    tellButtons n (modConsolePort c g s) = modConsolePort c g (tellButtons n s) := by
  unfold tellButtons
  simp
  (repeat' split) <;> simp_all

@[simp] theorem deliverButton_lastSets (n b) :
    deliverButton n b (modConsolePort c g s) = modConsolePort c g (deliverButton n b s) := by
  unfold deliverButton
  simp
  (repeat' split) <;> simp_all

@[simp] theorem focusButtonPress_lastSets (b) :
    focusButtonPress b (modConsolePort c g s) = modConsolePort c g (focusButtonPress b s) := by
  unfold focusButtonPress
  simp
  split <;> rfl

@[simp] theorem buttonReleaseAt_lastSets (b n) :
    buttonReleaseAt b (modConsolePort c g s) n = modConsolePort c g (buttonReleaseAt b s n) := by
  unfold buttonReleaseAt
  simp
  split <;> rfl

@[simp] theorem clearRemainder_lastSets :
    clearRemainder (modConsolePort c g s) = modConsolePort c g (clearRemainder s) := by
  unfold clearRemainder
  simp

@[simp] theorem forwardRelative_lastSets (dx dy wheel) :
    forwardRelative dx dy wheel (modConsolePort c g s) = modConsolePort c g (forwardRelative dx dy wheel s) := by
  unfold forwardRelative
  simp
  (repeat' split) <;> simp_all

@[simp] theorem setAxis_lastSets (a p) : setAxis a p (modConsolePort c g s) = modConsolePort c g (setAxis a p s) := by
  unfold setAxis
  simp
  split <;> rfl

@[simp] theorem wakeOnGlide_lastSets (n) :
    wakeOnGlide n (modConsolePort c g s) = modConsolePort c g (wakeOnGlide n s) := by
  unfold wakeOnGlide
  simp
  split <;> rfl

@[simp] theorem cross_lastSets (hg : SetsOnly g) (a p t n) :
    cross a p t n (modConsolePort c g s) = modConsolePort c g (cross a p t n s) := by
  unfold cross
  simp [hg]
  split <;> rfl

@[simp] theorem moveAxis_lastSets (hg : SetsOnly g) (a step) :
    moveAxis a step (modConsolePort c g s) = modConsolePort c g (moveAxis a step s) := by
  unfold moveAxis
  simp [hg]
  (repeat' split) <;> simp_all

@[simp] theorem glideMotion_lastSets (hg : SetsOnly g) (dx dy wheel d) :
    glideMotion dx dy wheel d (modConsolePort c g s) = modConsolePort c g (glideMotion dx dy wheel d s) := by
  unfold glideMotion
  simp [hg]

@[simp] theorem motionItem_lastSets (hg : SetsOnly g) (dx dy wheel d) :
    motionItem dx dy wheel d (modConsolePort c g s) = modConsolePort c g (motionItem dx dy wheel d s) := by
  unfold motionItem
  simp [hg]
  split <;> rfl

/-! ### Broadcast, park, screens -/

@[simp] theorem setBroadcast_lastSets (n b) :
    setBroadcast n b (modConsolePort c g s) = modConsolePort c g (setBroadcast n b s) := rfl

@[simp] theorem removeBroadcast_lastSets (n) :
    removeBroadcast n (modConsolePort c g s) = modConsolePort c g (removeBroadcast n s) := by
  unfold removeBroadcast
  by_cases h : s.focus.broadcast[n] = true <;> by_cases h2 : s.focus.focus = some n <;> simp [h, h2]

@[simp] theorem leaveParked_lastSets (hg : SetsOnly g) (n) :
    leaveParked n (modConsolePort c g s) = modConsolePort c g (leaveParked n s) := by
  unfold leaveParked
  by_cases h : s.focus.focus = some n <;> simp [h, hg, reachable_lastSets']

@[simp] theorem parkSteps_lastSets (hg : SetsOnly g) (n) :
    parkSteps n (modConsolePort c g s) = modConsolePort c g (parkSteps n s) := by
  unfold parkSteps
  simp [hg]

@[simp] theorem releaseAllBeliefs_lastSets :
    releaseAllBeliefs (modConsolePort c g s) = modConsolePort c g (releaseAllBeliefs s) := by
  unfold releaseAllBeliefs
  simp

@[simp] theorem focusAtLock_lastSets : focusAtLock (modConsolePort c g s) = modConsolePort c g (focusAtLock s) := by
  unfold focusAtLock
  simp

@[simp] theorem putDisplayed_lastSets (sc a) :
    putDisplayed sc a (modConsolePort c g s) = modConsolePort c g (putDisplayed sc a s) := rfl

@[simp] theorem assignScreen_lastSets (hg : SetsOnly g) (sc a) :
    assignScreen sc a (modConsolePort c g s) = modConsolePort c g (assignScreen sc a s) := by
  unfold assignScreen
  simp [hg]
  split <;> rfl

@[simp] theorem setRequested_lastSets (hg : SetsOnly g) (sc a) :
    setRequested sc a (modConsolePort c g s) = modConsolePort c g (setRequested sc a s) := by
  unfold setRequested
  simp [hg]
  (repeat' split) <;> simp_all

@[simp] theorem startPeek_lastSets (hg : SetsOnly g) (sc d) :
    startPeek sc d (modConsolePort c g s) = modConsolePort c g (startPeek sc d s) := by
  unfold startPeek
  simp [hg]

@[simp] theorem retargetPeek_lastSets (hg : SetsOnly g) (sc d p) :
    retargetPeek sc d p (modConsolePort c g s) = modConsolePort c g (retargetPeek sc d p s) := by
  unfold retargetPeek
  simp [hg]
  split <;> rfl

@[simp] theorem closePeek_lastSets (sc) :
    closePeek sc (modConsolePort c g s) = modConsolePort c g (closePeek sc s) := rfl

@[simp] theorem endPeek_lastSets (hg : SetsOnly g) (sc) :
    endPeek sc (modConsolePort c g s) = modConsolePort c g (endPeek sc s) := by
  unfold endPeek
  simp [hg]
  (repeat' split) <;> simp_all

@[simp] theorem endAllPeeks_lastSets (hg : SetsOnly g) :
    endAllPeeks (modConsolePort c g s) = modConsolePort c g (endAllPeeks s) := by
  unfold endAllPeeks
  simp [hg]

/-! ### Actions -/

@[simp] theorem focusFound_lastSets (hg : SetsOnly g) (f) :
    focusFound f (modConsolePort c g s) = modConsolePort c g (focusFound f s) := by
  unfold focusFound
  simp [hg]
  split <;> rfl

@[simp] theorem actFocusNext_lastSets (hg : SetsOnly g) :
    actFocusNext (modConsolePort c g s) = modConsolePort c g (actFocusNext s) := by
  unfold actFocusNext
  simp only [modConsolePort_focus, reachable_lastSets', focusFound_lastSets hg]

@[simp] theorem actFocusPrev_lastSets (hg : SetsOnly g) :
    actFocusPrev (modConsolePort c g s) = modConsolePort c g (actFocusPrev s) := by
  unfold actFocusPrev
  simp only [modConsolePort_focus, reachable_lastSets', focusFound_lastSets hg]

@[simp] theorem actFocus_lastSets (hg : SetsOnly g) (n) :
    actFocus n (modConsolePort c g s) = modConsolePort c g (actFocus n s) := by
  unfold actFocus
  simp [hg]
  (repeat' split) <;> simp_all

@[simp] theorem actFocusBack_lastSets (hg : SetsOnly g) :
    actFocusBack (modConsolePort c g s) = modConsolePort c g (actFocusBack s) := by
  unfold actFocusBack
  simp [hg]
  (repeat' split) <;> simp_all

@[simp] theorem actBroadcastToggle_lastSets (n) :
    actBroadcastToggle n (modConsolePort c g s) = modConsolePort c g (actBroadcastToggle n s) := by
  unfold actBroadcastToggle
  simp
  (repeat' split) <;> simp_all

@[simp] theorem actBroadcastClear_lastSets :
    actBroadcastClear (modConsolePort c g s) = modConsolePort c g (actBroadcastClear s) := by
  unfold actBroadcastClear
  simp

@[simp] theorem actShow_lastSets (hg : SetsOnly g) (sn d) :
    actShow sn d (modConsolePort c g s) = modConsolePort c g (actShow sn d s) := by
  unfold actShow
  simp [hg]
  (repeat' split) <;> simp_all

@[simp] theorem presetScreen_lastSets (hg : SetsOnly g) (old p sc) :
    presetScreen old p (modConsolePort c g s) sc = modConsolePort c g (presetScreen old p s sc) := by
  unfold presetScreen
  simp [hg]
  split <;> rfl

@[simp] theorem actPreset_lastSets (hg : SetsOnly g) (n) :
    actPreset n (modConsolePort c g s) = modConsolePort c g (actPreset n s) := by
  unfold actPreset
  simp [hg]
  (repeat' split) <;> simp_all

@[simp] theorem actPeek_lastSets (hg : SetsOnly g) (sn d) :
    actPeek sn d (modConsolePort c g s) = modConsolePort c g (actPeek sn d s) := by
  unfold actPeek
  simp [hg]
  (repeat' split) <;> simp_all

@[simp] theorem actParkToggle_lastSets (hg : SetsOnly g) (n) :
    actParkToggle n (modConsolePort c g s) = modConsolePort c g (actParkToggle n s) := by
  unfold actParkToggle
  simp [hg]
  (repeat' split) <;> simp_all

@[simp] theorem goToAlert_lastSets (hg : SetsOnly g) (d) :
    goToAlert d (modConsolePort c g s) = modConsolePort c g (goToAlert d s) := by
  unfold goToAlert
  simp [hg]
  split <;> rfl

@[simp] theorem actGoAlert_lastSets (hg : SetsOnly g) :
    actGoAlert (modConsolePort c g s) = modConsolePort c g (actGoAlert s) := by
  unfold actGoAlert
  simp [hg]
  split <;> rfl

@[simp] theorem setLockRecord_lastSets (l) :
    setLockRecord l (modConsolePort c g s) = modConsolePort c g (setLockRecord l s) := rfl
@[simp] theorem clearMatcher_lastSets : clearMatcher (modConsolePort c g s) = modConsolePort c g (clearMatcher s) := rfl

@[simp] theorem lockConsole_lastSets (hg : SetsOnly g) :
    lockConsole (modConsolePort c g s) = modConsolePort c g (lockConsole s) := by
  unfold lockConsole
  simp [hg]

@[simp] theorem actLock_lastSets (hg : SetsOnly g) :
    actLock (modConsolePort c g s) = modConsolePort c g (actLock s) := by
  unfold actLock
  simp [hg]
  split <;> rfl

@[simp] theorem actTypeText_lastSets : actTypeText (modConsolePort c g s) = modConsolePort c g (actTypeText s) := by
  unfold actTypeText
  simp
  (repeat' split) <;> simp_all

@[simp] theorem actCommand_lastSets : actCommand (modConsolePort c g s) = modConsolePort c g (actCommand s) := by
  unfold actCommand
  simp
  (repeat' split) <;> simp_all

@[simp] theorem runAction_lastSets (hg : SetsOnly g) (a x y) :
    runAction a x y (modConsolePort c g s) = modConsolePort c g (runAction a x y s) := by
  unfold runAction
  simp [hg]
  split <;> rfl

/-! ### The matcher and the lock unit -/

@[simp] theorem runEntry_lastSets (hg : SetsOnly g) (e) :
    runEntry e (modConsolePort c g s) = modConsolePort c g (runEntry e s) := by
  unfold runEntry
  simp [hg]
  split <;> rfl

@[simp] theorem setCandidate_lastSets (d) :
    setCandidate d (modConsolePort c g s) = modConsolePort c g (setCandidate d s) := rfl

@[simp] theorem focusKeyPress_lastSets (k) :
    focusKeyPress k (modConsolePort c g s) = modConsolePort c g (focusKeyPress k s) := by
  unfold focusKeyPress
  simp

@[simp] theorem handOnPress_lastSets (k) :
    handOnPress k (modConsolePort c g s) = modConsolePort c g (handOnPress k s) := by
  unfold handOnPress
  simp

@[simp] theorem followerPress_lastSets (hg : SetsOnly g) (k) :
    followerPress k (modConsolePort c g s) = modConsolePort c g (followerPress k s) := by
  unfold followerPress
  simp [hg]

@[simp] theorem matcherPress_lastSets (hg : SetsOnly g) (k) :
    matcherPress k (modConsolePort c g s) = modConsolePort c g (matcherPress k s) := by
  unfold matcherPress
  simp [hg]
  (repeat' split) <;> simp_all

@[simp] theorem unlockConsole_lastSets :
    unlockConsole (modConsolePort c g s) = modConsolePort c g (unlockConsole s) := rfl

@[simp] theorem failAttempt_lastSets (p) :
    failAttempt p (modConsolePort c g s) = modConsolePort c g (failAttempt p s) := by
  unfold failAttempt
  by_cases h : Config.lockoutFailures ≤ s.lock.failures + 1 <;> simp [h]

@[simp] theorem comparePress_lastSets (q k) :
    comparePress q k (modConsolePort c g s) = modConsolePort c g (comparePress q k s) := by
  unfold comparePress
  by_cases h1 : q[s.lock.progress]? = some k
  · have h1' : q[(modConsolePort c g s).lock.progress]? = some k := h1
    rw [if_pos h1, if_pos h1']
    by_cases h2 : s.lock.progress + 1 < q.length
    · have h2' : (modConsolePort c g s).lock.progress + 1 < q.length := h2
      rw [if_pos h2, if_pos h2']; rfl
    · have h2' : ¬ (modConsolePort c g s).lock.progress + 1 < q.length := h2
      rw [if_neg h2, if_neg h2']; rfl
  · have h1' : ¬ q[(modConsolePort c g s).lock.progress]? = some k := h1
    rw [if_neg h1, if_neg h1']
    by_cases h2 : s.lock.progress = 0
    · have h2' : (modConsolePort c g s).lock.progress = 0 := h2
      rw [if_pos h2, if_pos h2']
    · have h2' : ¬ (modConsolePort c g s).lock.progress = 0 := h2
      rw [if_neg h2, if_neg h2']
      exact failAttempt_lastSets _

@[simp] theorem lockedPress_lastSets (k) :
    lockedPress k (modConsolePort c g s) = modConsolePort c g (lockedPress k s) := by
  unfold lockedPress
  simp
  split <;> rfl

@[simp] theorem lockKeyPress_lastSets (hg : SetsOnly g) (k) :
    lockKeyPress k (modConsolePort c g s) = modConsolePort c g (lockKeyPress k s) := by
  unfold lockKeyPress
  simp [hg]
  split <;> rfl

@[simp] theorem markAlone_lastSets (hg : SetsOnly g) (m) :
    markAlone m (modConsolePort c g s) = modConsolePort c g (markAlone m s) := by
  unfold markAlone
  simp [hg]
  split <;> rfl

@[simp] theorem markTypeout_lastSets (m) :
    markTypeout m (modConsolePort c g s) = modConsolePort c g (markTypeout m s) := by
  unfold markTypeout
  simp
  split <;> rfl

@[simp] theorem focusKeyRelease_lastSets (hg : SetsOnly g) (k m) :
    focusKeyRelease k m (modConsolePort c g s) = modConsolePort c g (focusKeyRelease k m s) := by
  unfold focusKeyRelease
  simp [hg]
  split <;> rfl

@[simp] theorem matcherRelease_lastSets (hg : SetsOnly g) (k m) :
    matcherRelease k m (modConsolePort c g s) = modConsolePort c g (matcherRelease k m s) := by
  unfold matcherRelease
  simp [hg]

@[simp] theorem lockKeyRelease_lastSets (hg : SetsOnly g) (k m) :
    lockKeyRelease k m (modConsolePort c g s) = modConsolePort c g (lockKeyRelease k m s) := by
  unfold lockKeyRelease
  simp [hg]
  split <;> rfl

@[simp] theorem focusButtonRelease_lastSets (hg : SetsOnly g) (b m) :
    focusButtonRelease b m (modConsolePort c g s) = modConsolePort c g (focusButtonRelease b m s) := by
  unfold focusButtonRelease
  simp [hg]
  split <;> rfl

@[simp] theorem lockButtonPress_lastSets (b) :
    lockButtonPress b (modConsolePort c g s) = modConsolePort c g (lockButtonPress b s) := by
  unfold lockButtonPress
  simp
  split <;> rfl

@[simp] theorem lockButtonRelease_lastSets (hg : SetsOnly g) (b m) :
    lockButtonRelease b m (modConsolePort c g s) = modConsolePort c g (lockButtonRelease b m s) := by
  unfold lockButtonRelease
  simp [hg]
  split <;> rfl

@[simp] theorem lockMotion_lastSets (hg : SetsOnly g) (dx dy wheel d) :
    lockMotion dx dy wheel d (modConsolePort c g s) = modConsolePort c g (lockMotion dx dy wheel d s) := by
  unfold lockMotion
  simp [hg]
  split <;> rfl

/-! ### The console -/

/-! ### The console input unit -/

theorem heldElsewhere_lastSets (k : Nat) : heldElsewhere c k (modConsolePort c g s) = heldElsewhere c k s := by
  unfold heldElsewhere
  congr 1; funext d
  by_cases h : d = c
  · simp [h]
  · have : c.val ≠ d.val := fun e => h (Fin.ext e.symm)
    simp [modConsolePort, h, this]

theorem buttonElsewhere_lastSets (b : Nat) : buttonElsewhere c b (modConsolePort c g s) = buttonElsewhere c b s := by
  unfold buttonElsewhere
  congr 1; funext d
  by_cases h : d = c
  · simp [h]
  · have : c.val ≠ d.val := fun e => h (Fin.ext e.symm)
    simp [modConsolePort, h, this]

theorem setDeskKeys_lastSets (keys : List Nat) :
    (modConsolePort c g s).setConsole { (modConsolePort c g s).console with deskKeys := keys } =
      modConsolePort c g (s.setConsole { s.console with deskKeys := keys }) := rfl

theorem setDeskButtons_lastSets (buttons : List Nat) :
    (modConsolePort c g s).setConsole { (modConsolePort c g s).console with deskButtons := buttons } =
      modConsolePort c g (s.setConsole { s.console with deskButtons := buttons }) := rfl

theorem deviceRelease_lastSets (hg : SetsOnly g) (k : Nat) :
    deviceRelease c (modConsolePort c g s) k = modConsolePort c g (deviceRelease c s k) := by
  unfold deviceRelease
  rw [heldElsewhere_lastSets]
  split
  · rfl
  · simp only [modConsolePort_deskKeys, setDeskKeys_lastSets, deskEmpty_lastSets, lockKeyRelease_lastSets hg]

theorem devicePress_lastSets (hg : SetsOnly g) (k : Nat) :
    devicePress (modConsolePort c g s) k = modConsolePort c g (devicePress s k) := by
  unfold devicePress
  rw [modConsolePort_deskKeys]
  split
  · rfl
  · rw [setDeskKeys_lastSets, lockKeyPress_lastSets hg]

theorem deviceButtonRelease_lastSets (hg : SetsOnly g) (b : Nat) :
    deviceButtonRelease c (modConsolePort c g s) b = modConsolePort c g (deviceButtonRelease c s b) := by
  unfold deviceButtonRelease
  rw [buttonElsewhere_lastSets]
  split
  · rfl
  · simp only [modConsolePort_deskButtons, setDeskButtons_lastSets, deskEmpty_lastSets, lockButtonRelease_lastSets hg]

theorem deviceButtonPress_lastSets (b : Nat) :
    deviceButtonPress (modConsolePort c g s) b = modConsolePort c g (deviceButtonPress s b) := by
  unfold deviceButtonPress
  rw [modConsolePort_deskButtons]
  split
  · rfl
  · rw [setDeskButtons_lastSets, lockButtonPress_lastSets]

theorem reportMotion_lastSets (hg : SetsOnly g) (dx dy wheel : Int) :
    reportMotion dx dy wheel c (modConsolePort c g s) = modConsolePort c g (reportMotion dx dy wheel c s) := by
  unfold reportMotion
  split
  · rfl
  · exact lockMotion_lastSets hg dx dy wheel c

/-- The changes of a key report, made when the device's last set has been replaced before them or after them (R8). -/
theorem keyChanges_lastSets (hg : SetsOnly g) (releases presses : List Nat) :
    presses.foldl devicePress (releases.foldl (deviceRelease c) (modConsolePort c g s)) =
      modConsolePort c g (presses.foldl devicePress (releases.foldl (deviceRelease c) s)) := by
  rw [foldl_lastSets releases fun k _ => deviceRelease_lastSets hg k,
    foldl_lastSets presses fun k _ => devicePress_lastSets hg k]

/-- The items of a pointer report, likewise (R13). -/
theorem buttonChanges_lastSets (hg : SetsOnly g) (releases presses : List Nat) (dx dy wheel : Int) :
    presses.foldl deviceButtonPress
        (reportMotion dx dy wheel c (releases.foldl (deviceButtonRelease c) (modConsolePort c g s))) =
      modConsolePort c g
        (presses.foldl deviceButtonPress (reportMotion dx dy wheel c (releases.foldl (deviceButtonRelease c) s))) := by
  rw [foldl_lastSets releases fun b _ => deviceButtonRelease_lastSets hg b, reportMotion_lastSets hg,
    foldl_lastSets presses fun b _ => deviceButtonPress_lastSets b]

/-- The last of two replacements of a device's key set stands. -/
theorem setKeys_twice (m n : List Nat) :
    modConsolePort c (ConsolePort.setKeys n) (modConsolePort c (ConsolePort.setKeys m) s) =
      modConsolePort c (ConsolePort.setKeys n) s := by
  have h : ∀ p : ConsolePort, (p.setKeys m).setKeys n = p.setKeys n := by intro p; cases p <;> rfl
  simp [modConsolePort, State.setConsole, h]

/-- The last of two replacements of a device's button set stands. -/
theorem setButtons_twice (m n : List Nat) :
    modConsolePort c (ConsolePort.setButtons n) (modConsolePort c (ConsolePort.setButtons m) s) =
      modConsolePort c (ConsolePort.setButtons n) s := by
  have h : ∀ p : ConsolePort, (p.setButtons m).setButtons n = p.setButtons n := by intro p; cases p <;> rfl
  simp [modConsolePort, State.setConsole, h]

end Sys2Proof.Machine
end

