-- ==== Sys2Proof/Laws/Serve.lean ====
section
/-! SUPPORT. What the serving of a request can do, and how the frame checks of the model agree with the manual's. -/

namespace Sys2Proof.Machine

theorem servesRequests_iff (l : LinkState) : l.servesRequests = true ↔ l = .ready ∨ l = .stalled := by
  cases l <;> simp [LinkState.servesRequests]

/-- A request at a port that takes none is ignored. -/
theorem serve_ignored {command : Byte} {r : Request} {formed : Bool} {a : Authority}
    {body : State → State × Option (Status × List Byte)} {s : State} (h : ¬ takesRequests s r.port) :
    serve command r formed a body s = s := by
  have : s.ports[r.port].link.servesRequests = false := by
    rw [Bool.eq_false_iff]
    exact fun e => h ((servesRequests_iff _).1 e)
  unfold serve
  rw [this]
  rfl

/-- Two replacements of one slot are one. -/
theorem putReply_setSlot (p : Computer) (command tag : Byte) (st : Status) (results : List Byte) (slot : ReplySlot)
    (s : State) : putReply p command tag st results (setSlot p slot s) = putReply p command tag st results s := by
  simp only [putReply, setSlot, State.modPort_modPort]
  rfl

/-- A malformed request is answered BAD_REQUEST. -/
theorem serve_malformed {command : Byte} {r : Request} {a : Authority}
    {body : State → State × Option (Status × List Byte)} {s : State} (h : takesRequests s r.port) :
    serve command r false a body s = replied command r .badRequest [] s := by
  have h1 : s.ports[r.port].link.servesRequests = true := (servesRequests_iff _).2 h
  unfold serve
  rw [h1]
  exact putReply_setSlot _ _ _ _ _ _ _

/-- A formed request without authority is answered NO_AUTHORITY. -/
theorem serve_unauthorised {command : Byte} {r : Request} {a : Authority}
    {body : State → State × Option (Status × List Byte)} {s : State} (h : takesRequests s r.port)
    (ha : hasAuthority a r.port s = false) :
    serve command r true a body s = replied command r .noAuthority [] s := by
  have h1 : s.ports[r.port].link.servesRequests = true := (servesRequests_iff _).2 h
  have h2 : hasAuthority a r.port (setSlot r.port .empty s) = false := by cases a <;> exact ha
  unfold serve
  rw [h1]
  simp only [if_true, Bool.not_true, Bool.false_eq_true, if_false, h2, Bool.not_false]
  exact putReply_setSlot _ _ _ _ _ _ _

/-- A formed request with authority is answered by its body, on the state with the slot emptied. -/
theorem serve_taken {command : Byte} {r : Request} {a : Authority}
    {body : State → State × Option (Status × List Byte)} {s : State} (h : takesRequests s r.port)
    (ha : hasAuthority a r.port s = true) :
    serve command r true a body s = answer command r (body (setSlot r.port .empty s)) := by
  have h1 : s.ports[r.port].link.servesRequests = true := (servesRequests_iff _).2 h
  have h2 : hasAuthority a r.port (setSlot r.port .empty s) = true := by cases a <;> exact ha
  unfold serve
  rw [h1]
  simp only [if_true, Bool.not_true, Bool.false_eq_true, if_false, h2]

/-- The frame check with the length a command calls for. -/
theorem frameFits_iff (r : Request) (lead want : Nat) :
    frameFits r lead want = true ↔ lengthAgrees r lead ∧ lead + r.params.length = want := by
  unfold frameFits lengthAgrees Config.requestMax
  rw [decide_eq_true_iff]
  omega

/-- The table identifiers are 1 to 10. -/
theorem tableOf_isSome_iff (b : Byte) : (tableOf b).isSome = true ↔ 1 ≤ b.toNat ∧ b.toNat ≤ 10 := by
  revert b
  decide

theorem readArgs_isSome_iff (r : Request) :
    (readArgs r).isSome = true ↔ ∃ t first count : Byte, r.params = [t, first, count] ∧ 1 ≤ t.toNat ∧ t.toNat ≤ 10 ∧
      count.toNat ≤ 16 := by
  unfold readArgs
  split
  · rename_i t first count hp
    have ht := tableOf_isSome_iff t
    cases h : tableOf t with
    | none =>
      rw [h] at ht
      simp only [Option.isSome_none, Bool.false_eq_true, false_iff, not_and] at ht
      constructor
      · simp
      · rintro ⟨t', f', c', e, h1, h2, _⟩
        rw [hp] at e
        cases e
        exact absurd h2 (ht h1)
    | some table =>
      rw [h] at ht
      simp only [Option.isSome_some, true_iff] at ht
      simp only [Config.readMax]
      constructor
      · intro hs
        refine ⟨t, first, count, hp, ht.1, ht.2, ?_⟩
        by_contra hc
        simp [hc] at hs
      · rintro ⟨t', f', c', e, _, _, h3⟩
        rw [hp] at e
        cases e
        simp [h3]
  · rename_i hne
    constructor
    · simp
    · rintro ⟨t, f, c, e, _⟩
      exact absurd e (hne t f c)

theorem writeArgs_isSome_iff (r : Request) :
    (writeArgs r).isSome = true ↔ ∃ t first count : Byte, ∃ entries : List Byte, ∃ table : TableId,
      r.params = t :: first :: count :: entries ∧ tableOf t = some table ∧ 1 ≤ count.toNat ∧ count.toNat ≤ 4 ∧
      entries.length = count.toNat * table.size := by
  unfold writeArgs
  split
  · rename_i t first count rest hp
    cases h : tableOf t with
    | none =>
      constructor
      · simp
      · rintro ⟨t', f', c', e', table, e, h1, _⟩
        rw [hp] at e
        cases e
        rw [h] at h1
        cases h1
    | some table =>
      constructor
      · intro hs
        refine ⟨t, first, count, rest, table, hp, h, ?_⟩
        by_contra hc
        simp [hc] at hs
      · rintro ⟨t', f', c', e', table', e, h1, h2⟩
        rw [hp] at e
        cases e
        rw [h] at h1
        cases h1
        simp [h2]
  · rename_i hne
    constructor
    · simp
    · rintro ⟨t, f, c, e', table, e, _⟩
      exact absurd e (hne t f c e')

theorem eventsArgs_isSome_iff (r : Request) :
    (eventsArgs r).isSome = true ↔ ∃ flags c0 c1 m0 m1 : Byte, r.params = [flags, c0, c1, m0, m1] ∧ word c0 c1 < 512 ∧
      word m0 m1 < 512 := by
  unfold eventsArgs
  split
  · rename_i fl c0 c1 m0 m1 hp
    constructor
    · intro hs
      refine ⟨fl, c0, c1, m0, m1, hp, ?_⟩
      by_contra hc
      simp [hc] at hs
    · rintro ⟨fl', a, b, c, d, e, h2⟩
      rw [hp] at e
      cases e
      simp [h2]
  · rename_i hne
    constructor
    · simp
    · rintro ⟨fl, a, b, c, d, e, _⟩
      exact absurd e (hne fl a b c d)

theorem freezeArgs_isSome_iff (r : Request) :
    (freezeArgs r).isSome = true ↔ ∃ t0 t1 : Byte, r.params = [t0, t1] ∧ word t0 t1 < 1024 := by
  unfold freezeArgs
  split
  · rename_i t0 t1 hp
    constructor
    · intro hs
      refine ⟨t0, t1, hp, ?_⟩
      by_contra hc
      simp [hc] at hs
    · rintro ⟨a, b, e, h2⟩
      rw [hp] at e
      cases e
      simp [h2]
  · rename_i hne
    constructor
    · simp
    · rintro ⟨a, b, e, _⟩
      exact absurd e (hne a b)

end Sys2Proof.Machine
end

