-- ==== Sys2Proof/WellFormed.lean ====
section
/-! DEFINITION. Which commands the world at the ports can send: operand values the manual rules out are not well formed.
Port, screen and channel numbers are in range by their types. -/

namespace Sys2Proof

/-- A preferred size the display gives and the compositor can read names at least one pixel each way and fits the two
bytes the status record has for it (R78, 11.3). -/
def WellFormed.size (preferred : Option (Nat × Nat)) : Bool :=
  match preferred with
  | none => true
  | some (w, h) => 0 < w && w < 65536 && 0 < h && h < 65536

/-- A measured timing fits the fields the status record has for it (R74, 11.3). -/
def WellFormed.timing (t : Timing) : Bool :=
  t.width < 65536 && t.height < 65536 && t.refresh < 4294967296

/-- The codes of the known commands are 1 to 12, and the action codes 0 to 17 (R177). -/
def WellFormed.unknownCode (code : Byte) (params : List Byte) : Bool :=
  code.toNat == 0 || 12 < code.toNat ||
    (code.toNat == 4 && (match params with | [] => true | a :: _ => 17 < a.toNat))

/-- The operands are ones the command can carry. -/
def WellFormed (i : Instr) : Bool :=
  match i with
  | .displayAttach _ preferred => WellFormed.size preferred
  | .channelFrame _ t => WellFormed.timing t
  | .unknownCommandRequest r code => WellFormed.unknownCode code r.params
  | .powerOnReset _ | .consoleAttach _ _ | .consoleDetach _ | .keyboardReport _ _ | .pointerReport _ _
  | .indicatorOutputEnd _ _ _ | .doubleTapWindowExpiry | .commandTimerExpiry | .lockoutTimerExpiry
  | .noAction _ | .focus _ | .focusNext _ | .focusPrev _ | .focusBack _ | .broadcastToggle _ | .broadcastClear _
  | .showChannel _ | .peek _ | .preset _ | .parkToggle _ | .wake _ | .wakeAll _ | .lock _ | .typeText _ | .goAlert _
  | .command _ | .unlock _ | .channelActivity _ | .channelLoss _ | .displayDetach _ | .frameStart _ | .peekExpiry _
  | .typeOutPress | .typeOutReleaseDue | .computerAttach _ | .configure _ _ | .computerBusReset _ | .computerDetach _
  | .indicatorReport _ _ | .keyboardPoll _ | .pointerPoll _ | .stallTimerExpiry _ | .suspend _ | .settleTimerExpiry _
  | .signallingEnd _ | .wakeWindowExpiry _ | .resume _ | .staggerTimerExpiry | .status _ | .tableRead _ | .tableWrite _
  | .depositText _ | .clearText _ | .raiseAlert _ | .withdrawAlert _ | .events _ | .freeze _ | .save _
  | .saveCompletion _ | .deskReset _ | .replyRead _ | .notificationTake _ => true

end Sys2Proof
end

