-- ==== Sys2Proof/Tests/Slice0.lean ====
section
/-! SUPPORT. Tests: ill-formed terms refused, the manual's worked examples (each test names its own), and, for each
statement with hypotheses, a state and operands that meet them, clause by clause. -/

namespace Sys2Proof.Tests

open Sys2Proof.Machine

/-! ### Small states -/

/-- The state an outcome gives. -/
def after (o : Host.Outcome State Fault Refusal) : State :=
  match o with
  | .next t => t
  | .refused _ => State.reset

/-- The state after a command. -/
def run (i : Instr) (s : State) : State :=
  after (exec i s)

/-- A port that is READY. -/
def readyPort : Port :=
  { Port.powerOn with link := .ready }

/-- Right after power-on reset, with every computer READY. -/
def desk : State :=
  { State.reset with ports := Vector.replicate 8 readyPort }

/-- `s` with a keyboard on console port `c` whose last key set is `keys`. -/
def withKeyboard (c : ConsoleNo) (keys : List Nat) (s : State) : State :=
  { s with console := { s.console with ports := s.console.ports.set c (.keyboard keys Indicators.none none) } }

/-- `s` with a pointer on console port `c` whose last button set is `buttons`. -/
def withPointer (c : ConsoleNo) (buttons : List Nat) (s : State) : State :=
  { s with console := { s.console with ports := s.console.ports.set c (.pointer buttons) } }

/-- `s` with the desk key state `keys`. -/
def withDeskKeys (keys : List Nat) (s : State) : State :=
  { s with console := { s.console with deskKeys := keys } }

/-- `s` with a focus computer. -/
def withFocus (n : Option Computer) (s : State) : State :=
  { s with focus := { s.focus with focus := n } }

/-- `s` with the port of computer `n` changed. -/
def withPort (n : Computer) (f : Port → Port) (s : State) : State :=
  { s with ports := s.ports.set n (f s.ports[n]) }

/-- A report of held keys, with the modifier byte `m`. -/
def keysHeld (m : Byte) (keys : List Byte) : KeyInput :=
  ⟨false, m, keys⟩

/-- A press of `k` alone on console port 1. -/
def tap (k : Byte) : Instr :=
  .keyboardReport 0 (keysHeld 0 [k])

/-- The desk with a keyboard on console port 1 that holds nothing. -/
def typingDesk : State :=
  withKeyboard 0 [] desk

/-- A request frame at port `p` with tag 5. -/
def request (p : Computer) (params : List Byte) : Request :=
  ⟨p, 5, 0, 0, BitVec.ofNat 16 params.length, params⟩

/-- An ACTION request at port 1: its length counts the action code. -/
def actionFrame (a b : Byte) : Request :=
  ⟨0, 5, 0, 0, 3, [a, b]⟩

/-- The status of the reply in a port's slot. -/
def slotStatus (p : Computer) (s : State) : Option Status :=
  match s.ports[p].slot with
  | .ready r => some r.status
  | .empty | .inProgress _ => none

/-! ### Well-formed terms -/

/-- A preferred size of no pixels is refused (R78, 11.3). -/
theorem test_wellFormed_refuses_size : WellFormed (.displayAttach 0 (some (0, 1080))) = false := by decide

/-- A width that does not fit its two bytes is refused (R74, 11.3). -/
theorem test_wellFormed_refuses_timing : WellFormed (.channelFrame 0 ⟨65536, 1080, 60000⟩) = false := by decide

/-- Code 12 is DESK_RESET, no unknown command (R177). -/
theorem test_wellFormed_refuses_known : WellFormed (.unknownCommandRequest (request 0 []) 12) = false := by decide

/-- Action code 17 is UNLOCK, 18 is unknown (R177). -/
theorem test_wellFormed_action_codes :
    WellFormed (.unknownCommandRequest (request 0 [17, 0, 0]) 4) = false ∧
      WellFormed (.unknownCommandRequest (request 0 [18, 0, 0]) 4) = true := by decide

/-! ### Frames (R176, R177) -/

/-- An ACTION frame with code 1 and arguments 3 and 0 is FOCUS 3. -/
theorem test_frame_focus :
    frameCommand 0 [4, 5, 0, 0, 3, 0, 1, 3, 0] = some (.focus (.request (actionFrame 3 0))) := by decide

/-- Command code 13 names no command. -/
theorem test_frame_unknown : frameCommand 0 [13, 5, 0, 0, 0, 0] = some (.unknownCommandRequest (request 0 []) 13) := by
  decide

/-! ### Console input (examples 1.4.1 and 1.5.1) -/

/-- Two keyboards on ports 1 and 3, with the last key sets and the desk key state given. -/
def twoKeyboards (a b d : List Nat) : State :=
  withDeskKeys d (withKeyboard 0 a (withKeyboard 2 b desk))

/-- 1.4.1, second line: modifier byte bit 5 is key 229. -/
theorem test_keys_second_line :
    (run (.keyboardReport 2 (keysHeld 32 [4])) (twoKeyboards [225] [] [225])).console.deskKeys = [4, 225, 229] := by
  decide

/-- 1.4.1, fourth line: key 4 stays, A still holds it. -/
theorem test_keys_fourth_line :
    (run (.keyboardReport 2 (keysHeld 0 [])) (twoKeyboards [4, 225] [4, 229] [4, 225, 229])).console.deskKeys =
      [4, 225] := by decide

/-- 1.4.1, unplugged after the fifth line. -/
theorem test_detach_releases :
    (run (.consoleDetach 0) (twoKeyboards [4, 225] [] [4, 225])).console.deskKeys = [] := by decide

/-- 1.5.1, third line: the mouse still holds button 1. -/
theorem test_buttons_third_line :
    (run (.pointerReport 1 ⟨[], 5, 5, 0⟩)
      { withPointer 1 [1] (withPointer 3 [1] desk) with
        console := { (withPointer 1 [1] (withPointer 3 [1] desk)).console with deskButtons := [1] }
      }).console.deskButtons = [1] := by decide

/-- 1.7 (R2): a hub is UNSUPPORTED, a keyboard that is also a pointer a KEYBOARD. -/
theorem test_classes :
    (run (.consoleAttach 0 ⟨true, true, true, false, false⟩) desk).console.ports[0] = .unsupported ∧
      (run (.consoleAttach 0 ⟨true, false, true, true, false⟩) desk).console.ports[0].code = 1 := by decide

/-! ### Focus (examples 2.4.1 and 2.9.1) -/

/-- 2.4.1: computer 2 has focus, computer 4 is a broadcast member, and the press is of key 79 with Ctrl and Alt held. -/
def chordDesk : State :=
  let s := withDeskKeys [224, 226] (withKeyboard 0 [224, 226] (withFocus (some 1) desk))
  { s with
    focus := { s.focus with
      broadcast := s.focus.broadcast.set 3 true
      beliefs := (s.focus.beliefs.set 1 ⟨[224, 226], []⟩).set 3 ⟨[224, 226], []⟩ } }

/-- 2.4.1, fourth line: FOCUS_NEXT moves on to computer 3, computer 2 is released and computer 4 keeps its keys. -/
theorem test_chord_focus :
    let t := run (.keyboardReport 0 (keysHeld 5 [79])) chordDesk
    t.focus.focus = some 2 ∧ t.focus.previous = some 1 ∧ t.focus.beliefs[1] = ⟨[], []⟩ ∧
      t.focus.beliefs[3] = ⟨[224, 226], []⟩ ∧ t.ports[1].keyQueue = [[]] := by decide

/-- 2.9.1, first line: 127 of 300 counts are sent. -/
theorem test_remainder_first :
    let t := run (.pointerReport 0 ⟨[], 300, 0, 0⟩) (withPointer 0 [] desk)
    t.focus.rx = 173 ∧ t.ports[0].pointerQueue = [⟨.relative, 127, 0, [], 0⟩] := by decide

/-- 2.9.1, third line. -/
theorem test_remainder_third :
    let s := withPointer 0 [] desk
    let t := run (.pointerReport 0 ⟨[], -100, 0, 0⟩) { s with focus := { s.focus with rx := 96 } }
    t.focus.rx = 0 ∧ t.ports[0].pointerQueue = [⟨.relative, -4, 0, [], 0⟩] := by decide

/-! ### The glide engine (examples 3.8.1 to 3.8.3) -/

/-- A channel LOCKED at a timing. -/
def lockedAt (w h : Nat) : ChannelRt :=
  ⟨.locked, some ⟨w, h, 60000⟩, 3, some ⟨w, h, 60000⟩⟩

/-- The desk of 3.8: a pointer on console port 2 with g 24, T 8, k 16; focus computer 1 and the pointer at
(30408, 8000), the buttons `held` held. -/
def glideDesk (held : List Nat) : State :=
  let s := withPointer 1 held desk
  { s with
    console := { s.console with deskButtons := held }
    focus := { s.focus with mode := .glide, beliefs := s.focus.beliefs.set 0 ⟨[], held⟩ }
    glide := { s.glide with px := 30408, py := 8000, seat := some ⟨0, 0, 0⟩ }
    channels := ((s.channels.set 0 (lockedAt 1920 1080)).set 4 (lockedAt 1920 1200)).set 5 (lockedAt 1920 1200)
    tables := { s.tables with
      pointer := s.tables.pointer.set 1 ⟨24, 8, 16⟩
      layout := Vector.ofFn fun sc : ScreenNo =>
        if sc = 0 then ⟨true, 0, 0, 1920, 1080, .fit, 0, 0⟩
        else ⟨decide (sc = 1), 1920, 0, 2560, 1440, .fit, 0, 0⟩ }
    screens := (s.screens.set 0 { s.screens[0] with attached := true }).set 1
      { s.screens[1] with attached := true, displayed := .quad (some 4) none none none } }

/-- The motion item of 3.8.1 and 3.8.2. -/
def glideMotion (held : List Nat) : Instr :=
  .pointerReport 1 ⟨held, 60, -3, 0⟩

/-- 3.8.1: the crossing. -/
theorem test_glide_crossing :
    let t := run (glideMotion []) (glideDesk [])
    t.glide.px = 32680 ∧ t.glide.py = 7928 ∧ t.focus.focus = some 2 ∧ t.focus.previous = some 0 ∧
      t.ports[2].pointerQueue = [⟨.absolute, 819, 22528, [], 0⟩] ∧ t.ports[0].pointerQueue = [] ∧
      t.glide.remembered[0] = some (30408, 8000) := by decide +kernel

/-- 3.8.2: with a button held the drag stops at the edge. -/
theorem test_glide_drag :
    let t := run (glideMotion [1]) (glideDesk [1])
    t.glide.px = 30719 ∧ t.glide.py = 7928 ∧ t.focus.focus = some 0 ∧
      t.ports[0].pointerQueue = [⟨.absolute, 32750, 15018, [1], 0⟩] := by decide +kernel

/-- 3.8.3: the picture on a portrait screen, and the coordinates in the lower bar. -/
theorem test_glide_bars :
    fitPicture .fit 1080 1920 1920 1080 = ⟨1080, 607, 0, 656⟩ ∧ pictureCoord 1700 0 656 607 = 606 ∧
      absoluteCoord (sourceCoord 606 1080 607) 1080 = 32707 ∧ absoluteCoord 1800 1600 = 32767 := by decide

/-! ### Channels and screens (example 4.3.1, R84) -/

/-- Channel 5 as in 4.3.1, with `n` frames of the new timing seen. -/
def changing (n : Nat) : State :=
  { desk with channels := desk.channels.set 4 ⟨.locking, some ⟨2560, 1440, 59951⟩, n, some ⟨1920, 1200, 60000⟩⟩ }

/-- 4.3.1, last line: the third frame locks and VIDEO is raised. -/
theorem test_channel_locks :
    let t := run (.channelFrame 4 ⟨2560, 1440, 59951⟩) (changing 2)
    t.channels[4] = ⟨.locked, some ⟨2560, 1440, 59951⟩, 3, some ⟨2560, 1440, 59951⟩⟩ ∧
      t.mgmt.summaries[0] = 128 := by decide

/-- 4.3.1, fourth line: a frame of another timing starts the count again, and VIDEO is not raised. -/
theorem test_channel_restarts :
    let t := run (.channelFrame 4 ⟨1024, 768, 60004⟩) (changing 2)
    t.channels[4] = ⟨.locking, some ⟨1024, 768, 60004⟩, 1, some ⟨1920, 1200, 60000⟩⟩ ∧ t.mgmt.summaries[0] = 0 := by
  decide

/-- A display's size stands for the native size; without one the layout's does (R91). -/
theorem test_display_size :
    (run (.displayAttach 2 (some (2560, 1440))) desk).screens[2].native = (2560, 1440) ∧
      (run (.displayAttach 2 none) desk).screens[2].native = (1920, 1080) := by decide

/-! ### Hotkeys (examples 5.4.1 and 5.5.1) -/

/-- 5.4.1: lines 1, 3, 4 and 5. -/
theorem test_chord_families :
    modifiersMet (defaultHotkey 14) [79, 224, 226] = true ∧
      modifiersMet (defaultHotkey 14) [79, 224, 226, 228] = true ∧
      modifiersMet (defaultHotkey 14) [79, 224, 225, 226] = false ∧
      modifiersMet (defaultHotkey 14) [79, 224] = false := by decide

/-- The second tap of key 71 within 400 ms enters command mode (R95 entry 1, R100). -/
theorem test_double_tap :
    let s := { typingDesk with matcher := ⟨false, none, some ⟨71, true, 400⟩⟩, now := 400 }
    (run (tap 71) s).matcher = ⟨true, some 2400, none⟩ ∧ (run (tap 71) { s with now := 401 }).matcher.commandMode = false := by
  decide

/-- In command mode key 31 is the follower that gives computer 3 focus (R95, R102). -/
theorem test_follower :
    let s := { typingDesk with matcher := ⟨true, some 2000, none⟩ }
    (run (tap 32) s).focus.focus = some 2 ∧ (run (tap 32) s).matcher.commandMode = false := by decide

/-! ### The lock (examples 6.8.1 and 6.8.2) -/

/-- A console LOCKED with the sequence of 6.8. -/
def lockedDesk (progress failures now : Nat) : State :=
  { typingDesk with
    now := now
    lock := ⟨.locked, progress, failures, none⟩
    tables := { typingDesk.tables with unlock := some [9, 18, 9, 7] } }

/-- 6.8.1, fourth line: a failure whose key is the first element. -/
theorem test_lock_restart : (run (tap 9) (lockedDesk 1 0 0)).lock = ⟨.locked, 1, 1, none⟩ := by decide

/-- 6.8.1, last line: the sequence is complete and LOCK is raised. -/
theorem test_lock_opens :
    (run (tap 7) (lockedDesk 3 2 0)).lock = ⟨.unlocked, 0, 0, none⟩ ∧
      (run (tap 7) (lockedDesk 3 2 0)).mgmt.summaries[0] = 16 := by decide

/-- 6.8.2 at 1300: the fifth failure. -/
theorem test_lockout : (run (tap 9) (lockedDesk 1 4 1300)).lock = ⟨.lockout, 0, 5, some 31300⟩ := by decide

/-- 6.8.2 at 31300: the timer runs out. -/
theorem test_lockout_ends :
    let t := run .lockoutTimerExpiry { lockedDesk 0 5 5000 with lock := ⟨.lockout, 0, 5, some 31300⟩ }
    t.lock = ⟨.locked, 0, 0, none⟩ ∧ t.now = 31300 := by decide

/-! ### Type-out (example 7.7) -/

/-- The type-out of 7.7 to computer 3, with the tilde untypeable. -/
def typeDesk (sub : TypeSub) (index typed skipped : Nat) (pacing : Option Pacing) (keys : List Nat) (now : Nat) :
    State :=
  let s := withFocus (some 2) typingDesk
  { s with
    now := now
    focus := { s.focus with beliefs := s.focus.beliefs.set 2 ⟨keys, []⟩ }
    typeout := ⟨.typing, some sub, [66, 111, 126, 10], some 0, some 2, index, typed, skipped, pacing, none⟩
    tables := { s.tables with translation := s.tables.translation.set 96 ⟨0, false⟩ } }

/-- 7.7 at 60: B is key 5 with shift, due at 68, the next press at 76. -/
theorem test_type_press :
    let t := run .typeOutPress (typeDesk .active 0 0 0 (some ⟨none, 60⟩) [] 60)
    t.typeout.pacing = some ⟨some ⟨5, true, 68⟩, 76⟩ ∧ t.ports[2].keyQueue = [[5, 225]] ∧ t.typeout.index = 1 := by decide

/-- 7.7 at 68 and 76: the release empties the belief set; after o the tilde waits to be skipped. -/
theorem test_type_release :
    let t := run .typeOutReleaseDue (typeDesk .active 1 1 0 (some ⟨some ⟨5, true, 68⟩, 76⟩) [5, 225] 64)
    t.ports[2].keyQueue = [[]] ∧ t.focus.beliefs[2] = ⟨[], []⟩ ∧ t.now = 68 := by decide

/-- 7.7 at 100: COMPLETE with 3 typed and 1 skipped. -/
theorem test_type_complete :
    let t := run .typeOutReleaseDue (typeDesk .active 4 3 1 (some ⟨some ⟨40, false, 100⟩, 108⟩) [40] 96)
    t.typeout.state = .held ∧ t.typeout.outcome = some ⟨.complete, 3, 1⟩ ∧ t.ports[2].keyQueue = [[]] := by decide

/-- 7.7 at 60: the last release at the console, marked all-released, starts the typing. -/
theorem test_type_starts :
    let s := withDeskKeys [23] (withKeyboard 0 [23] (typeDesk .waitingRelease 0 0 0 none [] 60))
    (run (.keyboardReport 0 (keysHeld 0 [])) s).typeout.sub = some .active := by decide +kernel

/-! ### Alerts (example 8.6) -/

/-- 8.6 after its third event: entries of computers 2, 7 and 5, policy ROTATE. -/
def alertDesk (focus : Option Computer) (rotation : List Computer) : State :=
  let s := withFocus focus desk
  { s with
    alerts := ⟨s.alerts.sources,
      [⟨1, .level, .indicator⟩, ⟨6, .latched, .service⟩, ⟨4, .latched, .indicator⟩], rotation⟩
    tables := { s.tables with
      options := { s.tables.options with alertPolicy := .rotate }
      computer := (s.tables.computer.set 1 { s.tables.computer[1] with
        alertIndicator := some .scroll, alertKind := .level, alertPriority := 3 }).set 4
        { s.tables.computer[4] with alertIndicator := some .kana, alertPriority := 1 } } }

/-- 8.6, fourth line. -/
theorem test_alert_rotate :
    let t := run (.goAlert (.hotkey 0 0)) (alertDesk (some 0) computers)
    t.focus.focus = some 1 ∧ t.alerts.rotation = [0, 2, 3, 4, 5, 6, 7, 1] ∧ t.alerts.list.length = 3 := by decide

/-- 8.6, fifth line: computer 5's LATCHED entry goes with the focus change. -/
theorem test_alert_acknowledged :
    let t := run (.goAlert (.hotkey 0 0)) (alertDesk (some 1) [0, 2, 3, 4, 5, 6, 7, 1])
    t.focus.focus = some 4 ∧ t.alerts.list = [⟨1, .level, .indicator⟩, ⟨6, .latched, .service⟩] := by decide

/-- 8.6, first line: SCROLL is bit 2 of the report. -/
theorem test_alert_rising :
    let s := alertDesk (some 0) computers
    let s := { s with alerts := ⟨s.alerts.sources.set 1 ⟨true, false⟩, [], computers⟩ }
    (run (.indicatorReport 1 5) s).alerts.list = [⟨1, .level, .indicator⟩] := by decide

/-! ### Ports (examples 9.5.1, 9.7.1 and 9.8.1) -/

/-- 9.5.1 at 300: the queue is full, and the snapshot takes the newest one's place. -/
theorem test_key_overrun :
    let p := { readyPort with keyQueue := List.replicate 16 [] }
    (p.addSnapshot 300 [10]).keyQueue = List.replicate 15 [] ++ [[10]] ∧ (p.addSnapshot 300 [10]).keyOverruns = 1 := by
  decide

/-- 9.5.1 at 1000: the stall. -/
theorem test_stall :
    let t := run (.stallTimerExpiry 3)
      (withPort 3 (fun p => { p with keyQueue := List.replicate 16 [], stall := some 1000 }) desk)
    t.ports[3].link = .stalled ∧ t.ports[3].keyQueue = [[]] ∧ t.ports[3].pointerQueue = [⟨.relative, 0, 0, [], 0⟩] := by
  decide

/-- 9.7.1: E 26 and U 6 refuse a press; E 24 and U 4 accept one. -/
theorem test_reservation :
    let four := [KeyEvent.press 10, KeyEvent.press 11, KeyEvent.press 12, KeyEvent.press 13]
    let past := (List.replicate 10 [KeyEvent.press 5, KeyEvent.release 5]).flatten
    ({ readyPort with link := .waking, pendingKeys := four ++ past }).pressFits = true ∧
      ({ readyPort with link := .waking, pendingKeys := four ++ past ++ [KeyEvent.press 20, KeyEvent.press 21] }).pressFits = false := by
  decide

/-- 9.8.1 at 540: the second attempt. -/
theorem test_second_attempt :
    let t := run (.wakeWindowExpiry 5)
      (withPort 5 (fun p => { p with
        link := .waking, attempt := 1, phase := some .waiting, attemptTimer := some 540 }) desk)
    t.ports[5].attempt = 2 ∧ t.ports[5].phase = some .signalling ∧ t.ports[5].attemptTimer = some 550 := by decide

/-- 9.8.1 at 700: the replay. -/
theorem test_resume_replays :
    let t := run (.resume 5)
      (withPort 5 (fun p => { p with
        link := .waking
        attempt := 2
        phase := some .waiting
        attemptTimer := some 1050
        pendingKeys := [.press 4, .release 4, .press 225, .press 5] }) desk)
    t.ports[5].keyQueue = [[4], [], [225], [5, 225]] ∧ t.ports[5].lastWake = .done ∧ t.ports[5].link = .ready := by decide

/-! ### Management (R164 and example 10.4.1) -/

/-- R164's example: presets 30 to 32 are read, PARTIAL. -/
theorem test_read_partial :
    slotStatus 0 (run (.tableRead (request 0 [5, 30, 5])) desk) = some .partialRead ∧
      slotStatus 0 (run (.tableRead (request 0 [5, 30, 0])) desk) = some .ok := by decide

/-- 10.4.1: an expected generation 7 is STALE once the counter is 8. -/
theorem test_write_stale :
    slotStatus 0 (run (.tableWrite { request 0 [7, 1, 1, 16, 4, 8] with flags := 1, expected := 7 })
      { desk with mgmt := { desk.mgmt with generation := 8 } }) = some .stale := by decide

/-- A pointer gain of 0 is BAD_VALUE, and index 5 of the four entries BAD_INDEX (R50, R165). -/
theorem test_write_refused :
    slotStatus 0 (run (.tableWrite (request 0 [7, 1, 1, 0, 4, 8])) desk) = some .badValue ∧
      slotStatus 0 (run (.tableWrite (request 0 [7, 5, 1, 16, 4, 8])) desk) = some .badIndex := by decide

/-- 10.4.1: a save leaves the slot IN_PROGRESS, and a read of it is NOT_READY. -/
theorem test_save_in_progress :
    (run (.save (request 0 [])) desk).ports[0].slot = .inProgress 5 ∧
      ((run (.replyRead 0) (run (.save (request 0 [])) desk)).ports[0].replyOut.map fun b => b.take 3) =
        some [11, 5, 3] := by decide

/-- TYPE_TEXT by request on a locked console is refused with LOCKED (R168). -/
theorem test_type_text_locked :
    slotStatus 0 (run (.typeText (.request (actionFrame 0 0))) (lockedDesk 0 0 0)) = some .locked := by decide

/-- A computer that is no manager may not write (R161). -/
theorem test_no_authority :
    slotStatus 1 (run (.tableWrite (request 1 [7, 1, 1, 16, 4, 8])) desk) = some .noAuthority := by decide

/-! ### Witnesses: states and operands that meet the hypotheses of the statements, a clause a conjunct -/

/-- Ports 1 and 2 of the desk take requests. -/
theorem desk_takes : takesRequests desk 0 ∧ takesRequests desk 1 := by
  unfold takesRequests; decide

/-- A frame without parameters is formed for the commands that take none. -/
theorem bare_formed (p : Computer) : lengthAgrees (request p []) 0 ∧ (request p []).params.length = 0 := by
  simp [lengthAgrees, request]

theorem witness_StepRunsFrontCommand :
    ({ desk with pending := [.replyRead 0, .suspend 1] } : State).pending = [.replyRead 0, .suspend 1] := rfl

theorem witness_IdleStepPassesOneMillisecond : desk.pending = [] := rfl

theorem witness_CommandsCompleteWithinLaws :
    (∀ b, Instr.lockoutTimerExpiry ≠ .powerOnReset b) ∧ (∀ r, Instr.lockoutTimerExpiry ≠ .freeze r) ∧
      (∀ r, Instr.lockoutTimerExpiry ≠ .save r) ∧ (∀ b, Instr.lockoutTimerExpiry ≠ .saveCompletion b) ∧
      (∀ c r, Instr.lockoutTimerExpiry ≠ .keyboardReport c r) ∧ (∀ c r, Instr.lockoutTimerExpiry ≠ .pointerReport c r) ∧
      (∀ c d, Instr.lockoutTimerExpiry ≠ .consoleAttach c d) ∧ (∀ c, Instr.lockoutTimerExpiry ≠ .consoleDetach c) ∧
      (∀ r, Instr.lockoutTimerExpiry ≠ .unlock r) ∧ (lockedDesk 3 4 0).lock.state ≠ .unlocked := by
  refine ⟨?_, ?_, ?_, ?_, ?_, ?_, ?_, ?_, ?_, by decide⟩ <;> intros <;> exact Instr.noConfusion

theorem witness_PowerOnLoadsTables :
    ({ desk with store := some defaultTables } : State).store = some defaultTables ∧ desk.store = none ∧
      (∀ b, Instr.suspend 0 ≠ .powerOnReset b) ∧ exec (.suspend 0) desk = .next (run (.suspend 0) desk) := by
  refine ⟨rfl, rfl, ?_, rfl⟩
  intro b; exact Instr.noConfusion

theorem witness_PowerOnClearsEveryBlock :
    desk.store = none ∧ desk.pending = [] ∧ defaultTables.options.initialFocus = some 0 ∧
      defaultTables.computer[(0 : Computer)].parked = false ∧
      ({ defaultTables.options with startLocked := true } : Options).startLocked = true := by
  decide

theorem witness_RequestsAreCheckedFirst :
    (requestOf (.status (request 0 [])) = some (1, .any, request 0 []) ∧ ¬ takesRequests State.reset 0) ∧
    ¬ formedRequest (.status (request 0 [1])) (request 0 [1]) ∧
    (requestOf (.save (request 1 [])) = some (11, .manager, request 1 []) ∧
      formedRequest (.save (request 1 [])) (request 1 []) ∧ desk.tables.computer[(1 : Computer)].manager = false) ∧
    (requestOf (.clearText (request 1 [])) = some (6, .deposit, request 1 []) ∧
      formedRequest (.clearText (request 1 [])) (request 1 []) ∧
      desk.tables.computer[(1 : Computer)].mayDeposit = false) := by
  refine ⟨⟨rfl, ?_⟩, ?_, ⟨rfl, bare_formed 1, by decide⟩, rfl, bare_formed 1, by decide⟩
  · unfold takesRequests; decide
  · simp [formedRequest, request]

theorem witness_ActionRequestRunsTheAction :
    (Instr.typeText ∈ Instr.typeText :: sharedActions ∧ desk.tables.computer[(actionFrame 0 0).port].manager = true ∧
      (actionFrame 0 0).length = 3 ∧ (actionFrame 0 0).params = [0, 0] ∧ desk.lock.state = .unlocked) ∧
    takesRequests (lockedDesk 0 0 0) 0 ∧ (lockedDesk 0 0 0).tables.computer[(0 : Computer)].manager = true ∧
      (lockedDesk 0 0 0).lock.state ≠ .unlocked := by
  refine ⟨⟨List.mem_cons_self, by decide, rfl, rfl, by decide⟩, ?_, by decide, by decide⟩
  unfold takesRequests; decide

theorem witness_TableEntriesReadBack :
    (defaultComputer 0).Ok ∧ defaultOptions.Ok ∧ (defaultLayout 7).Ok ∧ (defaultChannel 15).Ok ∧ defaultPointer.Ok ∧
      (defaultHotkey 0).Ok ∧ (⟨255, true⟩ : TransEntry).key ≤ 255 ∧ sequenceOk [1, 255, 1, 255] ∧
      sequenceOk (List.replicate 16 255) := by
  unfold ComputerEntry.Ok Options.Ok LayoutEntry.Ok nativeOk ChannelEntry.Ok PointerEntry.Ok HotkeyEntry.Ok sequenceOk
  decide

theorem witness_StatusReportsTheState :
    formedRequest (.status (request 0 [])) (request 0 []) ∧ desk.alerts.rotation.length = 8 :=
  ⟨bare_formed 0, rfl⟩

theorem witness_TableReadReturnsEntries :
    lengthAgrees (request 0 [5, 32, 16]) 0 ∧ tableOf 5 = some .preset ∧ (16 : Byte).toNat ≤ 16 ∧
      (TableId.preset.count < (33 : Byte).toNat ∧ tableOf 10 = some .unlock) ∧
      1 ≤ (32 : Byte).toNat ∧ (32 : Byte).toNat ≤ TableId.preset.count ∧ TableId.preset ≠ .unlock := by
  unfold lengthAgrees; decide

theorem written_formed {t first : Byte} {data : List Byte} {table : TableId} (h : tableOf t = some table)
    (h1 : data.length = table.size) (h2 : data.length ≤ 100) :
    formedRequest (.tableWrite (request 0 (t :: first :: 1 :: data))) (request 0 (t :: first :: 1 :: data)) := by
  refine ⟨?_, t, first, 1, data, table, rfl, h, by decide, by decide, by simp [h1]⟩
  simp [lengthAgrees, request]; omega

/-- The desk with a save in flight. -/
def savingDesk : State :=
  { desk with mgmt := { desk.mgmt with saving := some ⟨0, defaultTables⟩ } }

/-- The desk with every table frozen. -/
def frozenDesk : State :=
  { desk with mgmt := { desk.mgmt with freezeSet := 1023 } }

theorem witness_TableWriteIsRefusedInOrder :
    (desk.tables.computer[(0 : Computer)].manager = true ∧ tableOf 7 = some .pointer ∧
      formedRequest (.tableWrite (request 0 [7, 4, 1, 0, 4, 8])) (request 0 [7, 4, 1, 0, 4, 8])) ∧
    savingDesk.mgmt.saving.isSome = true ∧
    (frozenDesk.mgmt.saving = none ∧ frozenDesk.mgmt.freezeSet.getLsbD (TableId.pointer.code - 1) = true) ∧
    (desk.mgmt.saving = none ∧ desk.mgmt.freezeSet.getLsbD (TableId.pointer.code - 1) ≠ true) ∧
    (bit 1 0 = true ∧ (63 : Byte).toNat ≠ desk.mgmt.generation) ∧
    ¬ (bit (request 0 []).flags 0 = true ∧ (request 0 []).expected.toNat ≠ desk.mgmt.generation) ∧
    ¬ (1 ≤ (4 : Byte).toNat ∧ (4 : Byte).toNat + (2 : Byte).toNat ≤ TableId.pointer.count + 1) ∧
    (1 ≤ (4 : Byte).toNat ∧ (4 : Byte).toNat + (1 : Byte).toNat ≤ TableId.pointer.count + 1) ∧
    (tableOf 10 = some .unlock ∧ (lockedDesk 0 0 0).lock.state ≠ .unlocked ∧
      formedRequest (.tableWrite (request 0 (10 :: 1 :: 1 :: List.replicate 17 0)))
        (request 0 (10 :: 1 :: 1 :: List.replicate 17 0))) ∧
    (tableOf 1 = some .computer ∧
      (∀ n : Computer, desk.tables.computer[n].manager = true → num n = (1 : Byte).toNat) ∧
      formedRequest (.tableWrite (request 0 (1 :: 1 :: 1 :: List.replicate 12 0)))
        (request 0 (1 :: 1 :: 1 :: List.replicate 12 0))) := by
  refine ⟨⟨by decide, by decide, written_formed (table := .pointer) rfl rfl (by decide)⟩, by decide, by decide, by decide,
    by decide, by decide, by decide, by decide, ⟨by decide, by decide, written_formed (table := .unlock) rfl rfl (by decide)⟩,
    by decide, by decide, written_formed (table := .computer) rfl rfl (by decide)⟩

/-- The table `v` with the entries `l` written from index `first` on. -/
def written {α : Type} {n : Nat} (first : Byte) (l : List α) (v : Vector α n) : Vector α n :=
  Vector.ofFn fun i => if first.toNat ≤ num i then (l[num i - first.toNat]?).getD v[i] else v[i]

theorem written_rewritten {α : Type} {n : Nat} (first : Byte) (l : List α) (v : Vector α n) :
    rewritten first l v (written first l v) := by
  intro i; simp [written]

/-- The causes of BAD_VALUE of TableWriteIsRefusedInOrder: a gain of 0 in a second entry, unlock sequences too short, too
long and with key 0, hotkey entries with action code 17 and enabled without a key, an enabled layout entry that overlaps
one, one that leaves the desk, one 319 wide. -/
theorem witness_TableWriteIsRefusedInOrder_values :
    (formedRequest (.tableWrite (request 0 [7, 1, 2, 16, 4, 8, 0, 4, 8])) (request 0 [7, 1, 2, 16, 4, 8, 0, 4, 8]) ∧
      ([16, 4, 8, 0, 4, 8] : List Byte)[3 * 1]? = some 0) ∧
    (1 ≤ (3 : Byte).toNat ∧ (3 : Byte).toNat ≤ 3 ∧ 16 < (17 : Byte).toNat ∧
      (0 : Byte) ∈ ([9, 9, 9, 0] ++ List.replicate 12 9 : List Byte).take (4 : Byte).toNat) ∧
    (∀ data ∈ ([[1, 0, 0, 0, 0, 0, 5, 17, 0, 0], [1, 0, 0, 0, 0, 0, 0, 1, 1, 0]] : List (List Byte)),
      formedRequest (.tableWrite (request 0 (8 :: 32 :: 1 :: data))) (request 0 (8 :: 32 :: 1 :: data)) ∧
        (data.drop 0).take 10 = data) ∧
    (let lap : LayoutEntry := ⟨true, 319, 0, 320, 1080, .fit, 0, 0⟩
     let out : LayoutEntry := ⟨true, 32767, 0, 320, 1080, .fit, 0, 0⟩
     let thin : LayoutEntry := ⟨false, 0, 0, 319, 1080, .fit, 0, 0⟩
     let w := written 7 [{ lap with x := 0 }, lap] desk.tables.layout
     (∀ e ∈ [lap, out, thin], ∀ x ∈ [e.x, e.y, e.w, e.h, e.nativeW, e.nativeH], x < 65536) ∧
      (w[(6 : ScreenNo)].enabled = true ∧ w[(7 : ScreenNo)].enabled = true ∧
        w[(6 : ScreenNo)].x < w[(7 : ScreenNo)].x + w[(7 : ScreenNo)].w ∧
        w[(7 : ScreenNo)].x < w[(6 : ScreenNo)].x + w[(6 : ScreenNo)].w ∧
        w[(6 : ScreenNo)].y < w[(7 : ScreenNo)].y + w[(7 : ScreenNo)].h ∧
        w[(7 : ScreenNo)].y < w[(6 : ScreenNo)].y + w[(6 : ScreenNo)].h) ∧
      32768 < (written 8 [out] desk.tables.layout)[(7 : ScreenNo)].x + out.w ∧ ¬ thin.Ok ∧
      formedRequest (.tableWrite (request 0 (3 :: 8 :: 1 :: lap.bytes))) (request 0 (3 :: 8 :: 1 :: lap.bytes))) := by
  refine ⟨⟨⟨by unfold lengthAgrees; decide, 7, 1, 2, [16, 4, 8, 0, 4, 8], .pointer, rfl, rfl, by decide, by decide, rfl⟩,
    rfl⟩, by decide, ?_, by decide, by decide +kernel, by decide +kernel, ?_,
    written_formed (table := .layout) rfl rfl (by decide)⟩
  · intro data h
    simp only [List.mem_cons, List.not_mem_nil, or_false] at h
    obtain rfl | rfl := h <;> exact ⟨written_formed (table := .hotkey) rfl rfl (by decide), rfl⟩
  · rintro ⟨-, -, h, -⟩; exact absurd h.1 (by decide)

/-- The desk with a peek at channel 16 on screen 8, whose saved base is its own channel. -/
def peekDesk : State :=
  desk.modScreen 7 fun r => { r with peek := some ⟨15, 5000, .single (some 14)⟩ }

theorem witness_TableWriteReplacesEntries :
    (desk.tables.computer[(0 : Computer)].manager = true ∧ desk.mgmt.saving = none ∧
      ¬ (bit (request 0 []).flags 0 = true ∧ (request 0 []).expected.toNat ≠ desk.mgmt.generation) ∧
      desk.mgmt.freezeSet = 0) ∧
    ((request 0 (5 :: 32 :: 1 :: (defaultPreset 31).bytes)).length.toNat =
      (request 0 (5 :: 32 :: 1 :: (defaultPreset 31).bytes)).params.length ∧ (32 : Byte).toNat = num (31 : Fin 32)) ∧
    (defaultPointer.Ok ∧ (4 : Byte).toNat = num (3 : ConsoleNo)) ∧ (97 : Byte).toNat = num (96 : Fin 97) ∧
    (defaultHotkey 31).Ok ∧ sequenceOk (List.replicate 16 255) ∧
    ((defaultComputer 7).Ok ∧ (8 : Byte).toNat = num (7 : Computer) ∧
      (defaultComputer 7).parked = desk.tables.computer[(7 : Computer)].parked ∧
      (defaultComputer 7).alertIndicator = desk.tables.computer[(7 : Computer)].alertIndicator ∧
      (defaultComputer 7).alertSense = desk.tables.computer[(7 : Computer)].alertSense ∧
      ∃ m : Computer, m ≠ 7 ∧ desk.tables.computer[m].manager = true) ∧
    (defaultOptions.Ok ∧ defaultOptions.focusFrame = desk.tables.options.focusFrame) ∧
    (({ defaultOptions with focusFrame := !defaultOptions.focusFrame } : Options).Ok ∧
      ({ defaultOptions with focusFrame := !defaultOptions.focusFrame } : Options).focusFrame ≠
        desk.tables.options.focusFrame) ∧
    ((⟨true, 13440, 0, 16384, 16384, .fill, 640, 480⟩ : LayoutEntry).Ok ∧
      layoutValid (desk.tables.layout.set (7 : ScreenNo) ⟨true, 13440, 0, 16384, 16384, .fill, 640, 480⟩) = true) ∧
    (peekDesk.screens[(7 : ScreenNo)].peek = some ⟨15, 5000, .single (some 14)⟩ ∧
      (glideDesk []).screens[(1 : ScreenNo)].peek = none ∧ (glideDesk []).screens[(1 : ScreenNo)].attached = true) ∧
    ((defaultChannel 15).Ok ∧ (16 : Byte).toNat = num (15 : Channel) ∧
      (defaultChannel 15).owner = desk.tables.channel[(15 : Channel)].owner) ∧
    (({ defaultChannel 15 with owner := some 0 } : ChannelEntry).Ok ∧
      ({ defaultChannel 15 with owner := some 0 } : ChannelEntry).owner ≠ desk.tables.channel[(15 : Channel)].owner) := by
  unfold PointerEntry.Ok HotkeyEntry.Ok sequenceOk ComputerEntry.Ok Options.Ok LayoutEntry.Ok nativeOk ChannelEntry.Ok
  refine ⟨?_, ?_, ?_, ?_, ?_, ?_, ?_, ?_, ?_, ?_, ?_, ?_, ?_⟩ <;> decide +kernel

/-- `s` with computer `n` parked. -/
def parked (n : Computer) (s : State) : State :=
  { s with
    tables := { s.tables with computer := s.tables.computer.set n { s.tables.computer[n] with parked := true } } }

/-- The computer entries and options bytes of TableWriteReplacesEntries: an alert indicator and sense turned, an entry that
unparks, one that parks; options in range, one number out of range, an alert policy of no meaning. -/
theorem witness_TableWriteReplacesEntries_more :
    let own := { defaultComputer 7 with alertIndicator := some .scroll, alertSense := .off }
    (own.Ok ∧ own.parked = desk.tables.computer[(7 : Computer)].parked ∧
      own.alertIndicator ≠ desk.tables.computer[(7 : Computer)].alertIndicator ∧
      own.alertSense ≠ desk.tables.computer[(7 : Computer)].alertSense) ∧
    ((parked 7 desk).tables.computer[(7 : Computer)].parked = true ∧ own.parked = false) ∧
    (({ own with parked := true } : ComputerEntry).Ok ∧ desk.tables.computer[(7 : Computer)].parked = false) ∧
    (lampCalls own true Indicators.none = true ∧ lampCalls own false Indicators.none = false ∧
      freshEntries 7 own true Indicators.none [] ≠ [] ∧ freshEntries 7 own false Indicators.none [] = []) ∧
    (∀ pd ∈ ([5, 0] : List Byte),
      let coded : List Byte := [2, 1, 1, 144, 1, 208, 7, pd, 3, 244, 1, 200, 0, 16, 1, 1, 1, 2, 1, 8, 0]
      (request 0 coded).length.toNat = (request 0 coded).params.length) ∧
    (({ defaultOptions with peekDuration := 1 } : Options).Ok ∧ (0 : Byte).toNat < 1 ∧
      (2 : Byte).toNat ≤ 2 ∧ ¬ (3 : Byte).toNat ≤ 2 ∧ ¬ (2 : Byte).toNat ≤ 1) := by
  unfold ComputerEntry.Ok Options.Ok
  decide +kernel

/-- Writes of two to four entries for TableWriteReplacesEntries, up to the end of each table, and an empty unlock sequence:
the frames' lengths, entries and outcomes on the desk. -/
theorem witness_TableWriteReplacesEntries_lists :
    (∀ data ∈ ([([defaultPreset 30, defaultPreset 31].map Assignment.bytes).flatten,
        ([defaultPointer, ⟨1, 255, 255⟩].map PointerEntry.bytes).flatten,
        ([⟨0, false⟩, ⟨255, true⟩, ⟨4, true⟩].map TransEntry.bytes).flatten,
        ([defaultHotkey 28, defaultHotkey 29, defaultHotkey 30, defaultHotkey 31].map HotkeyEntry.bytes).flatten,
        0 :: List.replicate 16 5] : List (List Byte)),
      (request 0 (5 :: 31 :: 2 :: data)).length.toNat = (request 0 (5 :: 31 :: 2 :: data)).params.length) ∧
    ((31 : Byte).toNat + 2 ≤ TableId.preset.count + 1 ∧ (3 : Byte).toNat + 2 ≤ TableId.pointer.count + 1 ∧
      (95 : Byte).toNat + 3 ≤ TableId.translation.count + 1 ∧ (29 : Byte).toNat + 4 ≤ TableId.hotkey.count + 1 ∧
      (⟨1, 255, 255⟩ : PointerEntry).Ok ∧ ∀ i : Fin 32, (defaultHotkey i).Ok) ∧
    (let l := [{ defaultComputer 6 with parked := true }, { defaultComputer 7 with alertSense := .off }]
     let w := written 7 l desk.tables.computer
     (∀ e ∈ l, e.Ok) ∧ w[(0 : Computer)].manager = true ∧
      w[(6 : Computer)].parked ≠ desk.tables.computer[(6 : Computer)].parked ∧
      w[(7 : Computer)].alertSense ≠ desk.tables.computer[(7 : Computer)].alertSense ∧
      ∀ n : Computer, (written 7 [defaultComputer 6, defaultComputer 7] desk.tables.computer)[n].parked =
        desk.tables.computer[n].parked) ∧
    (let l : List LayoutEntry := [⟨true, 13440, 0, 1920, 1080, .fit, 0, 0⟩, ⟨true, 13440, 1080, 1920, 1080, .fill, 640, 480⟩]
     (∀ e ∈ l, e.Ok) ∧ layoutValid (written 7 l desk.tables.layout) = true) ∧
    (screenNos.filter fun sc => decide ((5 : Byte).toNat ≤ num sc ∧ num sc < (5 : Byte).toNat + 4)) = [4, 5, 6, 7] ∧
    ((∀ c : Channel, (written 15 [{ defaultChannel 14 with hx := 7 }, defaultChannel 15] desk.tables.channel)[c].owner =
        desk.tables.channel[c].owner) ∧
      (written 15 [defaultChannel 14, { defaultChannel 15 with owner := none }] desk.tables.channel)[(15 : Channel)].owner ≠
        desk.tables.channel[(15 : Channel)].owner) ∧
    (sequenceOk [9, 9, 9, 255] ∧ [9, 9, 9, 255].length + (List.replicate 12 (7 : Byte)).length = 16) ∧
    ((List.replicate 16 (5 : Byte)).length = 16 ∧ desk.lock.state = .unlocked) := by
  unfold PointerEntry.Ok HotkeyEntry.Ok sequenceOk ComputerEntry.Ok LayoutEntry.Ok nativeOk
  refine ⟨?_, ?_, ?_, ?_, ?_, ?_, ?_, ?_⟩ <;> decide +kernel

theorem witness_MailboxTakesTexts :
    formedRequest (.depositText (request 0 [9, 126])) (request 0 [9, 126]) ∧
      formedRequest (.clearText (request 0 [])) (request 0 []) ∧
      (typeDesk .active 1 1 0 none [] 0).typeout.state = .typing ∧ desk.typeout.state ≠ .typing ∧
      ¬ (∀ c ∈ [9, 31], c = 9 ∨ c = 10 ∨ (32 ≤ c ∧ c ≤ 126)) ∧
      (∀ c ∈ [9, 126], c = 9 ∨ c = 10 ∨ (32 ≤ c ∧ c ≤ 126)) := by
  refine ⟨?_, bare_formed 0, by decide, by decide, by decide, by decide⟩
  simp [formedRequest, lengthAgrees, request]

theorem witness_AlertRequestsChangeOwnEntry :
    (formedRequest (.raiseAlert (request 6 [])) (request 6 []) ∧ formedRequest (.withdrawAlert (request 6 [])) (request 6 [])) ∧
    (parked 6 desk).tables.computer[(6 : Computer)].parked = true ∧
    (⟨6, .latched, .service⟩ ∈ (alertDesk none computers).alerts.list ∧
      ((alertDesk none computers).alerts.list.map AlertEntry.computer).Nodup) ∧
    (desk.tables.computer[(6 : Computer)].parked = false ∧ ∀ e ∈ desk.alerts.list, e.computer ≠ 6) ∧
    (alertDesk none computers).alerts.list =
      [] ++ ⟨1, .level, .indicator⟩ :: [⟨6, .latched, .service⟩, ⟨4, .latched, .indicator⟩] :=
  ⟨⟨bare_formed 6, bare_formed 6⟩, by decide, by decide, by decide, rfl⟩

/-- The desk in which manager 1 has FOCUS in its summary and nothing in its mask. -/
def maskedDesk : State :=
  { desk with
    mgmt := { desk.mgmt with summaries := desk.mgmt.summaries.set 0 1, masks := desk.mgmt.masks.set 0 0 } }

theorem witness_EventsAndFreezeChangeTheirSets :
    (lengthAgrees (request 0 [1, 0, 0, 255, 1]) 0 ∧ word 0 0 < 512 ∧ word 255 1 < 512) ∧
    (withPort 0 (fun p => { p with link := .stalled }) desk).ports[(0 : Computer)].link = .stalled ∧
    (maskedDesk.ports[(0 : Computer)].link = .ready ∧ bit 1 0 = true ∧
      maskedDesk.mgmt.summaries[(0 : Computer)] &&& ~~~ (BitVec.ofNat 9 (word 0 0)) &&&
        maskedDesk.mgmt.masks[(0 : Computer)] = 0 ∧
      maskedDesk.mgmt.summaries[(0 : Computer)] &&& ~~~ (BitVec.ofNat 9 (word 0 0)) &&& BitVec.ofNat 9 (word 255 1) ≠ 0) ∧
    lengthAgrees (request 0 [255, 3]) 0 ∧ word 255 3 < 1024 := by
  unfold lengthAgrees; decide

theorem witness_SaveWritesOneImage :
    formedRequest (.save (request 0 [])) (request 0 []) ∧ savingDesk.mgmt.saving.isSome = true ∧ desk.mgmt.saving = none ∧
      savingDesk.mgmt.saving = some ⟨0, defaultTables⟩ ∧
      (withPort 0 (fun p => { p with slot := .inProgress 5 }) savingDesk).ports[(0 : Computer)].slot = .inProgress 5 ∧
      ∀ tag, savingDesk.ports[(0 : Computer)].slot ≠ .inProgress tag := by
  refine ⟨bare_formed 0, by decide, by decide, rfl, rfl, ?_⟩
  intro tag; exact ReplySlot.noConfusion

theorem witness_RepliesAndNotificationsAreCollected :
    ¬ takesRequests State.reset 0 ∧
      (withPort 0 (fun p => { p with slot := .ready ⟨1, 5, .ok, 0, []⟩ }) desk).ports[(0 : Computer)].slot =
        .ready ⟨1, 5, .ok, 0, []⟩ ∧
      (withPort 0 (fun p => { p with slot := .inProgress 5 }) desk).ports[(0 : Computer)].slot = .inProgress 5 ∧
      desk.ports[(0 : Computer)].slot = .empty ∧ desk.ports[(0 : Computer)].notification = none ∧
      (withPort 0 (fun p => { p with notification := some ⟨1, 63⟩ }) desk).ports[(0 : Computer)].notification =
        some ⟨1, 63⟩ := by
  refine ⟨?_, rfl, rfl, rfl, rfl, rfl⟩
  unfold takesRequests; decide

theorem witness_DeskResetRestoresTheDesk :
    formedRequest (.deskReset (request 0 [])) (request 0 []) ∧ (typeDesk .active 1 1 0 none [] 0).typeout.state = .typing ∧
      (∀ sc : ScreenNo, desk.screens[sc].peek.isSome = true → desk.screens[sc].attached = true) ∧
      firstLive (run (.deskReset (request 0 [])) desk) = none ∧
      (∀ sc : ScreenNo, (glideDesk []).screens[sc].peek.isSome = true → (glideDesk []).screens[sc].attached = true) ∧
      firstLive (run (.deskReset (request 0 [])) (glideDesk [])) = some ⟨0, 0, 0, 0, 1920, 1080, some 0⟩ ∧
      liveOwner (run (.deskReset (request 0 [])) (glideDesk [])) ⟨0, 0, 0, 0, 1920, 1080, some 0⟩ = some 0 := by
  refine ⟨bare_formed 0, ?_, ?_, ?_, ?_, ?_, ?_⟩ <;> decide +kernel

/-- The desk with CAPS mirrored and `port` on console port 4. -/
def lampDesk (port : ConsolePort) : State :=
  { desk with
    console := { desk.console with mirrored := Indicators.ofByte 2, ports := desk.console.ports.set 3 port } }

theorem witness_ConsoleDevicesComeAndGo :
    desk.console.ports[(0 : ConsoleNo)] = .none ∧
      ({ desk with console := { desk.console with ports := desk.console.ports.set 3 .unsupported }
        } : State).console.ports[(3 : ConsoleNo)] = .unsupported ∧
      ((⟨false, false, true, false, false⟩ : DeviceDescription).usable = false ∧
        (⟨true, true, true, false, false⟩ : DeviceDescription).hub = true) ∧
      (⟨true, false, true, true, false⟩ : DeviceDescription).keyboard = true ∧
      (⟨true, false, false, true, false⟩ : DeviceDescription).relativePointer = true ∧
      (⟨true, false, false, false, true⟩ : DeviceDescription).relativePointer = false ∧
      (let t := lampDesk (.keyboard [4] Indicators.none none)
       let seen := t.console.ports.set (0 : ConsoleNo) (.keyboard [] Indicators.none none)
       seen[(3 : ConsoleNo)] = .keyboard [4] Indicators.none none ∧
        Indicators.none ≠ t.console.mirrored ∧ t.console.mirrored.toByte = 2) ∧
      (lampDesk (.keyboard [4] Indicators.none none)).console.ports[(3 : ConsoleNo)] = .keyboard [4] Indicators.none none ∧
      reduceKeys (keysHeld 0 []) = some [] ∧
      ((glideDesk [1]).console.ports[(1 : ConsoleNo)] = .pointer [1] ∧ reduceButtons ⟨[], 0, 0, 0⟩ = [] ∧
        motionless ⟨[], 0, 0, 0⟩) := by
  unfold motionless
  decide

theorem witness_ReportsAreReducedOrIgnored :
    reduceKeys ⟨true, 0, []⟩ = none ∧ reduceKeys (keysHeld 0 [4, 5, 6, 7, 8, 9, 10, 11, 12, 13, 14, 15, 16, 17, 18]) = none ∧
      reduceKeys (keysHeld 255 [4, 0, 4, 5, 6, 7, 8, 9, 10, 11, 12, 13, 14, 15, 16, 17]) =
        some [4, 5, 6, 7, 8, 9, 10, 11, 12, 13, 14, 15, 16, 17, 224, 225, 226, 227, 228, 229, 230, 231] ∧
      (∀ o shown flight, desk.console.ports[(0 : ConsoleNo)] ≠ .keyboard o shown flight) ∧
      ∀ o, desk.console.ports[(0 : ConsoleNo)] ≠ .pointer o := by
  refine ⟨by decide, by decide, by decide, ?_, ?_⟩ <;> intros <;> exact ConsolePort.noConfusion

/-- The tile of computer 1 on the desk of 3.8, where the pointer lies. -/
def homeTile : Tile :=
  ⟨0, 0, 0, 0, 1920, 1080, some 0⟩

/-- A keyboard on console port 1 lets go of key 4, which it alone holds. -/
theorem let_go_alone {s : State} (h : s.console.ports[(0 : ConsoleNo)] = .keyboard [4] Indicators.none none)
    (others : ∀ d : ConsoleNo, d ≠ 0 → 4 ∉ s.console.ports[d].keys) : ReleaseAlone 0 (keysHeld 0 []) 4 [] s :=
  ⟨⟨[4], Indicators.none, none, h, by decide, by decide⟩, by decide, others⟩

/-- The desk of 3.8 with focus computer 3, the mode `m` and key 4 held, while the pointer lies on computer 1's tile. -/
def draggingDesk (m : PointerMode) : State :=
  let s := withDeskKeys [4] (withKeyboard 0 [4] (withFocus (some 2) (glideDesk [])))
  { s with focus := { s.focus with mode := m } }

theorem witness_KeyReportUpdatesDeskState :
    (twoKeyboards [4, 225] [4] [4, 225]).console.ports[(0 : ConsoleNo)] = .keyboard [4, 225] Indicators.none none ∧
      reduceKeys (keysHeld 0 [255]) = some [255] ∧
    (ReleaseAlone 0 (keysHeld 0 []) 4 [] (draggingDesk .held) ∧ (∀ x ∈ (draggingDesk .held).console.deskKeys, x = 4) ∧
      (draggingDesk .held).console.deskButtons = [] ∧ (draggingDesk .held).focus.mode = .held ∧
      (draggingDesk .held).typeout.state ≠ .typing ∧ seatOwner (draggingDesk .held) = some 0 ∧
      (draggingDesk .held).focus.focus ≠ some 0 ∧ (draggingDesk .held).focus.focus = some 2 ∧
      (draggingDesk .held).focus.broadcast[(2 : Computer)] = false) ∧
    (let s := withDeskKeys [4] (withKeyboard 0 [4] (typeDesk .waitingRelease 0 0 0 none [] 0))
     ReleaseAlone 0 (keysHeld 0 []) 4 [] s ∧ (∀ x ∈ s.console.deskKeys, x = 4) ∧ s.console.deskButtons = [] ∧
      s.focus.mode ≠ .held ∧ s.typeout.state = .typing ∧ s.typeout.sub = some .waitingRelease ∧
      s.typeout.text[s.typeout.index]? = some 66 ∧ (translate s.tables 66).key ≠ 0) := by
  refine ⟨by decide, by decide, ⟨let_go_alone (by rfl) (by decide), ?_⟩, let_go_alone (by rfl) (by decide), ?_⟩ <;>
    decide +kernel

/-- Reports with several changes for KeyReportUpdatesDeskState: key 4 and modifier 224 let go while 225 and 5 come down, a
change a group; and on a pointer buttons 1 and 2 let go, motion, and button 3 pressed. -/
theorem witness_KeyReportUpdatesDeskState_several :
    ((twoKeyboards [4, 224] [] [4, 224]).console.ports[(0 : ConsoleNo)] = .keyboard [4, 224] Indicators.none none ∧
      [4, 224].Pairwise (· < ·) ∧ reduceKeys (keysHeld 2 [5]) = some [5, 225] ∧ reduceKeys (keysHeld 1 []) = some [224] ∧
      firstKeyChange [4, 224] [5, 225] [224] ∧ firstKeyChange [224] [5, 225] [] ∧ firstKeyChange [] [5, 225] [225] ∧
      firstKeyChange [225] [5, 225] [5, 225]) ∧
    (let o := [1, 2]
     let n := reduceButtons ⟨[3], 5, 0, 0⟩
     (1 ∈ o ∧ 1 ∉ n ∧ (∀ x ∈ o, x ∉ n → 1 ≤ x) ∧ reduceButtons ⟨[2], 0, 0, 0⟩ = o.filter (fun x => decide (x ≠ 1))) ∧
      motionless ⟨[2], 0, 0, 0⟩ ∧ ¬ motionless ⟨[3], 5, 0, 0⟩ ∧
      (3 ∈ n ∧ (∀ x ∈ ([] : List Nat), x ∈ n) ∧ 3 ∉ ([] : List Nat) ∧ (∀ x ∈ n, x ∉ ([] : List Nat) → 3 ≤ x) ∧
        motionless ⟨[3], 0, 0, 0⟩ ∧ reduceButtons ⟨[3], 0, 0, 0⟩ = setInsert 3 [])) := by
  have group : ∀ o n m k, (k ∈ o ∧ k ∉ n ∧ ∀ x ∈ o, x ∉ n → x = k ∨
        (((224 ≤ k ∧ k ≤ 231) ↔ (224 ≤ x ∧ x ≤ 231)) ∧ k < x) ∨ (¬ (224 ≤ k ∧ k ≤ 231) ∧ 224 ≤ x ∧ x ≤ 231)) →
      m = o.filter (fun x => decide (x ≠ k)) → firstKeyChange o n m := by
    rintro o n m k ⟨h1, h2, h3⟩ rfl
    exact .inl ⟨k, h1, h2, h3, fun x => by simp⟩
  refine ⟨⟨by decide, by decide, by decide, by decide, group _ _ _ 4 (by decide) rfl, group _ _ _ 224 (by decide) rfl,
    .inr ⟨by decide, 225, by decide, by decide, by decide, fun x => by simp⟩,
    .inr ⟨by decide, 5, by decide, by decide, by decide, fun x => ?_⟩⟩, ?_⟩
  · simp only [List.mem_cons, List.not_mem_nil, or_false]; exact or_comm
  · unfold motionless; decide

/-- A button let go last for KeyReportUpdatesDeskState: in HELD, and while a type-out waits for a release. -/
theorem witness_KeyReportUpdatesDeskState_button :
    ∀ s ∈ ([{ withFocus (some 2) (glideDesk [1]) with
        focus := { (withFocus (some 2) (glideDesk [1])).focus with mode := .held } },
        { withPointer 1 [1] (typeDesk .waitingRelease 0 0 0 none [] 0) with
          console := { (withPointer 1 [1] (typeDesk .waitingRelease 0 0 0 none [] 0)).console with deskButtons := [1] } }] :
        List State),
      ButtonReleaseAlone 1 ⟨[], 0, 0, 0⟩ 1 [] s ∧ (∀ x ∈ s.console.deskButtons, x = 1) ∧ s.console.deskKeys = [] ∧
        ((s.focus.mode = .held ∧ s.typeout.state ≠ .typing ∧ seatOwner s = some 0 ∧ s.focus.focus ≠ some 0) ∨
          (s.focus.mode ≠ .held ∧ s.typeout.state = .typing ∧ s.typeout.sub = some .waitingRelease ∧
            s.typeout.text[s.typeout.index]? = some 66 ∧ (translate s.tables 66).key ≠ 0)) := by
  have alone : ∀ s : State, s.console.ports[(1 : ConsoleNo)] = .pointer [1] →
      (∀ d : ConsoleNo, d ≠ 1 → 1 ∉ s.console.ports[d].buttons) → ButtonReleaseAlone 1 ⟨[], 0, 0, 0⟩ 1 [] s := fun s h h' =>
    ⟨⟨[1], h, by decide, by decide⟩, by decide, ⟨rfl, rfl, rfl⟩, h'⟩
  intro s h
  simp only [List.mem_cons, List.not_mem_nil, or_false] at h
  obtain rfl | rfl := h
  · exact ⟨alone _ rfl (by decide), by decide, by decide, .inl (by decide +kernel)⟩
  · exact ⟨alone _ rfl (by decide), by decide, by decide, .inr (by decide +kernel)⟩

/-- Key 4 comes down alone on the typing desk, and on any state with its console. -/
theorem tap_alone {s : State} (h : s.console = typingDesk.console) (k : Nat)
    (hk : reduceKeys (keysHeld 0 [byte k]) = some [k]) : PressAlone 0 (keysHeld 0 [byte k]) k [k] s := by
  refine ⟨⟨[], Indicators.none, none, by rw [h]; rfl, rfl, rfl⟩, hk, ?_⟩
  rw [h]; exact List.not_mem_nil

/-- The desk with computer 6 SUSPENDED, as `f` leaves it. -/
def sleepingDesk (f : Port → Port) : State :=
  withPort 5 (fun p => f { p with link := .suspended, remoteWake := true }) desk

/-- `s` in which computers 1 and 6 were told of key 4 held, the latter asleep with a wake under way. -/
def told (s : State) : State :=
  withPort 5 (fun p => { p with link := .suspended, settle := some 50, deferred := true, pendingKeys := [.press 4] })
    { s with focus := { s.focus with beliefs := (s.focus.beliefs.set 0 ⟨[4], []⟩).set 5 ⟨[4], []⟩ } }

theorem witness_PressReachesReceivers :
    (let s := { typingDesk with
      focus := { typingDesk.focus with broadcast := typingDesk.focus.broadcast.set 7 true }
      matcher := ⟨false, none, some ⟨71, true, 400⟩⟩ }
     PressAlone 0 (keysHeld 0 [byte 4]) 4 [4] s ∧ s.lock.state = .unlocked ∧ s.typeout.state ≠ .typing ∧ notTaken 4 s ∧
      (∀ f : Computer, s.focus.focus = some f → s.ports[f].link = .ready) ∧
      (s.focus.broadcast[(7 : Computer)] = true ∧ 4 ∉ s.focus.beliefs[(7 : Computer)].keys) ∧
      ¬ (s.focus.focus = some 1 ∨ s.focus.broadcast[(1 : Computer)] = true)) ∧
    (let s := told (withDeskKeys [4] (withKeyboard 0 [4] desk))
     ReleaseAlone 0 (keysHeld 0 []) 4 [] s ∧ s.lock.state = .unlocked ∧ noMarkAwaited s ∧
      4 ∉ s.focus.beliefs[(1 : Computer)].keys ∧
      (4 ∈ s.focus.beliefs[(0 : Computer)].keys ∧ s.ports[(0 : Computer)].link = .ready) ∧
      4 ∈ s.focus.beliefs[(5 : Computer)].keys ∧ s.ports[(5 : Computer)].queuesKeys = true) ∧
    (let s := told (withDeskKeys [4, 5] (withKeyboard 0 [4] (draggingDesk .held)))
     ReleaseAlone 0 (keysHeld 0 []) 4 [] s ∧ ¬ noMarkAwaited s ∧ ∃ x ∈ s.console.deskKeys, x ≠ 4) := by
  refine ⟨⟨tap_alone (by rfl) 4 (by decide), by decide, by decide, ⟨by decide, by decide, ?_⟩, by decide, by decide,
    by decide⟩, ⟨let_go_alone (by rfl) (by decide), by decide, ?_, by decide, by decide, by decide⟩,
    let_go_alone (by rfl) (by decide), ?_, by decide⟩
  · intro cand h; cases h; decide
  · unfold noMarkAwaited; decide
  · unfold noMarkAwaited; decide

/-- A press that no hotkey takes as a first tap, and during a type-out with nothing pressed, with a character pressed that
the computer was told of, and with one it was not. -/
theorem witness_PressReachesReceivers_typing :
    (PressAlone 0 (keysHeld 0 [byte 71]) 71 [71] typingDesk ∧ notTaken 71 typingDesk ∧
      firstTap 71 typingDesk = some ⟨71, false, 400⟩) ∧
    (let s := typeDesk .active 1 1 0 (some ⟨none, 76⟩) [] 72
     PressAlone 0 (keysHeld 0 [byte 4]) 4 [4] s ∧ s.lock.state = .unlocked ∧ notTaken 4 s ∧ s.typeout.state = .typing ∧
      s.typeout.pacing = some ⟨none, 76⟩) ∧
    ∀ keys ∈ [[5, 225], []],
      let s := typeDesk .active 1 1 0 (some ⟨some ⟨5, true, 68⟩, 76⟩) keys 64
      PressAlone 0 (keysHeld 0 [byte 4]) 4 [4] s ∧ notTaken 4 s ∧ s.typeout.target = some 2 ∧
        s.typeout.pacing = some ⟨some ⟨5, true, 68⟩, 76⟩ ∧ s.ports[(2 : Computer)].link = .ready ∧
        ((s.focus.beliefs[(2 : Computer)].keys.filter fun x => !decide (x = 5 ∨ (true = true ∧ x = 225))) =
          s.focus.beliefs[(2 : Computer)].keys ↔ keys = []) := by
  have free : ∀ k ∈ [4, 71], ∀ s : State, s.matcher = typingDesk.matcher → s.tables.hotkey = typingDesk.tables.hotkey →
      s.console = typingDesk.console → notTaken k s := by
    intro k hk s h1 h2 h3
    unfold notTaken
    rw [h1, h2, h3]
    refine ⟨rfl, ?_, fun cand h => by cases h⟩
    revert k
    decide
  refine ⟨⟨tap_alone (by rfl) 71 (by decide), free 71 (by decide) _ rfl rfl rfl, by unfold firstTap; decide⟩,
    ⟨tap_alone (by rfl) 4 (by decide), rfl, free 4 (by decide) _ rfl rfl rfl, rfl, rfl⟩, fun keys h =>
    ⟨tap_alone (by rfl) 4 (by decide), free 4 (by decide) _ rfl rfl rfl, rfl, rfl, rfl, ?_⟩⟩
  fin_cases h <;> decide

/-- The second half of the hypotheses of PressReachesReceivers: a button comes down and is let go. -/
theorem witness_PressReachesReceivers_buttons :
    (∀ f : Port → Port, let s := sleepingDesk f
     ButtonPressAlone 1 ⟨[1], 0, 0, 0⟩ 1 [1] (withPointer 1 [] s) ∧ s.lock.state = .unlocked) ∧
    (withFocus none desk).focus.focus = none ∧
    (desk.focus.focus = some 0 ∧ desk.focus.mode ≠ .glide ∧ desk.ports[(0 : Computer)].link = .ready ∧
      1 ∉ desk.focus.beliefs[(0 : Computer)].buttons) ∧
    (ButtonPressAlone 1 ⟨[1], 0, 0, 0⟩ 1 [1] (glideDesk []) ∧ (glideDesk []).focus.mode = .glide ∧
      (glideDesk []).ports[(0 : Computer)].link = .ready) ∧
    (withFocus (some 5) (sleepingDesk fun p => { p with settle := some 50, deferred := true })).ports[(5 : Computer)].queuesKeys =
      true ∧
    (let s := withFocus (some 5) (sleepingDesk id)
     s.ports[(5 : Computer)].link = .suspended ∧ s.ports[(5 : Computer)].deferred = false ∧
      s.tables.options.wakeOnInput = true ∧ (run (.wake (.hotkey 0 0)) s).ports[(5 : Computer)].queuesKeys = true) ∧
    (withPort 0 (fun p => { p with link := .stalled }) desk).ports[(0 : Computer)].link = .stalled ∧
    (ButtonReleaseAlone 1 ⟨[], 0, 0, 0⟩ 1 [] (glideDesk [1]) ∧ (glideDesk [1]).lock.state = .unlocked ∧
      noMarkAwaited (glideDesk [1]) ∧ 1 ∈ (glideDesk [1]).focus.beliefs[(0 : Computer)].buttons ∧
      (glideDesk [1]).focus.focus = some 0 ∧ (glideDesk [1]).focus.mode = .glide ∧
      1 ∉ (glideDesk [1]).focus.beliefs[(1 : Computer)].buttons) := by
  refine ⟨fun f => ⟨⟨⟨[], rfl, by decide, by decide⟩, by decide, ⟨rfl, rfl, rfl⟩, List.not_mem_nil⟩, rfl⟩, by decide, by decide,
    ⟨⟨⟨[], rfl, by decide, by decide⟩, by decide, ⟨rfl, rfl, rfl⟩, List.not_mem_nil⟩, by decide, by decide⟩, by decide, by decide,
    by decide, ⟨⟨[1], rfl, by decide, by decide⟩, by decide, ⟨rfl, rfl, rfl⟩, by decide⟩, by decide, ?_, by decide, by decide,
    by decide, by decide⟩
  unfold noMarkAwaited; decide

theorem witness_HotkeysRunActions :
    let held := withDeskKeys [224, 226] (withKeyboard 0 [224, 226] desk)
    let tapped := { typingDesk with matcher := ⟨false, none, some ⟨71, true, 400⟩⟩, now := 400 }
    let command := { typingDesk with matcher := ⟨true, some 2000, none⟩ }
    let chord := fun (k : Nat) (keys : List Nat) (e : HotkeyEntry) =>
      e.enabled = true ∧ e.kind = .chord ∧ e.key = k ∧ modifiersMet e (setInsert k keys) = true
    (∀ i : Fin 32, typingDesk.tables.hotkey[i].Ok) ∧
    (PressAlone 0 (keysHeld 5 [79]) 79 [79, 224, 226] held ∧ held.matcher.commandMode = false ∧
      firstEntry (chord 79 held.console.deskKeys) 14 held) ∧
    (PressAlone 0 (keysHeld 0 [byte 71]) 71 [71] tapped ∧
      (∀ j : Fin 32, ¬ chord 71 tapped.console.deskKeys tapped.tables.hotkey[j]) ∧
      tapped.matcher.candidate = some ⟨71, true, 400⟩ ∧ tapped.now ≤ 400 ∧
      firstEntry (fun e => e.enabled = true ∧ e.kind = .doubleTap ∧ e.key = 71) 0 tapped) ∧
    (PressAlone 0 (keysHeld 0 [byte 4]) 4 [4] command ∧ command.matcher.commandMode = true ∧
      firstEntry (fun e => e.enabled = true ∧ e.kind = .follower ∧ e.key = 4) 13 command) ∧
    (PressAlone 0 (keysHeld 0 [byte 5]) 5 [5] command ∧
      ∀ j : Fin 32, ¬ (command.tables.hotkey[j].enabled = true ∧ command.tables.hotkey[j].kind = .follower ∧
        command.tables.hotkey[j].key = 5)) := by
  refine ⟨?_, ⟨⟨⟨[224, 226], Indicators.none, none, rfl, by decide, by decide⟩, by decide, by decide⟩, by decide, ?_⟩,
    ⟨tap_alone (by rfl) 71 (by decide), by decide +kernel, by decide, by decide, ?_⟩,
    ⟨tap_alone (by rfl) 4 (by decide), by decide, ?_⟩, tap_alone (by rfl) 5 (by decide), by decide +kernel⟩
  · unfold HotkeyEntry.Ok; decide +kernel
  · unfold firstEntry; decide +kernel
  · unfold firstEntry; decide +kernel
  · unfold firstEntry; decide +kernel

theorem witness_LockedConsoleComparesPresses :
    (∀ p f, PressAlone 0 (keysHeld 0 [byte 7]) 7 [7] (lockedDesk p f 0) ∧
      PressAlone 0 (keysHeld 0 [byte 9]) 9 [9] (lockedDesk p f 0) ∧ (lockedDesk p f 0).lock.state = .locked ∧
      (lockedDesk p f 0).tables.unlock = some [9, 18, 9, 7]) ∧
    ([9, 18, 9, 7][(lockedDesk 0 0 0).lock.progress]? = some 9 ∧ 0 + 1 < [9, 18, 9, 7].length) ∧
    ([9, 18, 9, 7][(lockedDesk 3 0 0).lock.progress]? = some 7 ∧ 3 + 1 = [9, 18, 9, 7].length) ∧
    [9, 18, 9, 7][(lockedDesk 0 0 0).lock.progress]? ≠ some 7 ∧
    ([9, 18, 9, 7][(lockedDesk 3 3 0).lock.progress]? ≠ some 9 ∧ (lockedDesk 3 3 0).lock.failures < 4) ∧
    (lockedDesk 3 4 0).lock.failures = 4 ∧
    (({ lockedDesk 0 5 0 with lock := ⟨.lockout, 0, 5, some 30000⟩ } : State).lock.state = .lockout ∧
      (lockedDesk 0 5 0).typeout.state ≠ .typing ∧ (lockedDesk 0 5 0).focus.mode ≠ .held) ∧
    (let s := withDeskKeys [4, 5, 6] (withKeyboard 1 [6] (withKeyboard 0 [4, 5] (lockedDesk 1 0 0)))
     ∀ n, reduceKeys (keysHeld 0 [4, 6]) = some n → ∀ k ∈ n, k ∈ s.console.ports[0].keys ∨ k ∈ s.console.deskKeys) := by
  refine ⟨fun p f => ⟨tap_alone (by rfl) 7 (by decide), tap_alone (by rfl) 9 (by decide), rfl, rfl⟩, ?_, ?_, ?_, ?_, ?_, ?_,
    fun n h => ?_⟩
  · decide
  · decide
  · decide
  · decide
  · decide
  · decide
  · cases h; decide

theorem witness_IndicatorOutputsEnd :
    (∀ keys shown sent, typingDesk.console.ports[(0 : ConsoleNo)] ≠ .keyboard keys shown (some sent)) ∧
      (∀ sent, (lampDesk (.keyboard [] Indicators.none (some sent))).console.ports[(3 : ConsoleNo)] =
        .keyboard [] Indicators.none (some sent)) ∧
      Indicators.ofByte 2 = (lampDesk .none).console.mirrored ∧ Indicators.ofByte 31 ≠ (lampDesk .none).console.mirrored := by
  refine ⟨?_, fun sent => rfl, by decide, by decide⟩
  intro keys shown sent h; cases h

/-- A relative report with button 1. -/
def dragged : PtrReport :=
  ⟨.relative, 1, 1, [1], 0⟩

theorem witness_QueuesTakeReports :
    readyPort.pointerQueue = [] ∧
      ({ readyPort with pointerQueue := [dragged] }).pointerQueue = [] ++ [dragged] ∧
      ((stillReport []).kind = dragged.kind ∧ (stillReport []).buttons ≠ dragged.buttons) ∧
      (List.replicate 2 dragged).length < 3 ∧ 3 ≤ (List.replicate 3 dragged).length ∧
      ((⟨.absolute, 0, 0, [], 0⟩ : PtrReport).kind = .absolute ∧ dragged.kind = .relative) := by
  decide

theorem witness_MotionIsForwardedRelative :
    let s := withPointer 0 [] desk
    let r : PointerInput := ⟨[], 5000, 0, 0⟩
    s.lock.state = .unlocked ∧ s.focus.mode ≠ .glide ∧ buttonsSame 0 r s ∧ ¬ (r.dx = 0 ∧ r.dy = 0 ∧ r.wheel = 0) ∧
      (withFocus none s).focus.focus = none ∧ s.focus.focus = some 0 ∧
      ¬ ((withPort 0 (fun p => { p with link := .stalled }) s).ports[(0 : Computer)].link = .ready ∨
        (withPort 0 (fun p => { p with link := .stalled }) s).ports[(0 : Computer)].link = .suspended) ∧
      max (-127) (min 127 (({ s.focus with rx := -5 } : FocusCtl).rx + max (-2047) (min 2047 (5 : Int)))) = 0 ∧
      ¬ (max (-127) (min 127 (s.focus.rx + max (-2047) (min 2047 r.dx))) = 0) ∧
      (withPort 0 (fun p => { p with link := .suspended }) s).ports[(0 : Computer)].link = .suspended := by
  unfold buttonsSame; decide

theorem witness_PictureStaysInTile :
    160 ≤ 160 ∧ 640 ≤ 7680 ∧ 7680 ≤ 7680 ∧ 480 ≤ 480 ∧ 480 ≤ 4320 ∧ 4320 ≤ 4320 ∧
      ((glideDesk []).tables.computer[(0 : Computer)].desktopWidth = 0 ∧
        ({ defaultComputer 0 with desktopWidth := 3840 } : ComputerEntry).desktopWidth ≠ 0) ∧
      seatTile desk = none ∧ seatTile (glideDesk []) = some homeTile ∧ homeTile.channel = some 0 ∧
      ((glideDesk []).channels[(0 : Channel)].state = .locked ∧
        (glideDesk []).channels[(0 : Channel)].timing = some ⟨1920, 1080, 60000⟩ ∧
        desk.channels[(0 : Channel)].lastLocked = none) := by decide +kernel

/-- The tables of the desk of 3.8 are valid. -/
theorem glideDesk_tables (held : List Nat) : (glideDesk held).tables.Ok := by
  show (glideDesk []).tables.Ok
  refine ⟨?_, ⟨0, by decide⟩, ?_, ?_, by decide +kernel, ?_, ?_, ?_, by decide +kernel, ?_⟩
  · unfold ComputerEntry.Ok; decide
  · unfold Options.Ok; decide
  · unfold LayoutEntry.Ok nativeOk; decide +kernel
  · unfold ChannelEntry.Ok; decide
  · unfold PointerEntry.Ok; decide
  · unfold HotkeyEntry.Ok; decide +kernel
  · intro q h; cases h

theorem witness_PointerGlidesAndCrosses :
    (∀ r : PointerInput, ¬ motionless r → r.buttons = [] → Gliding 1 r (glideDesk []) homeTile 0) ∧
      (Gliding 1 ⟨[1], 60, 0, 0⟩ (glideDesk [1]) homeTile 0 ∧ ¬ mayCross 2 (glideDesk [1])) ∧
      (¬ motionless ⟨[], 60, 0, 0⟩ ∧ ¬ motionless ⟨[], 0, -3, 0⟩ ∧ ¬ motionless ⟨[], 0, 0, 1⟩ ∧ ¬ motionless ⟨[], 60, -3, 0⟩) ∧
      (stepOf (glideDesk []).tables.pointer[(1 : ConsoleNo)] 1 = 24 ∧
        stepOf (glideDesk []).tables.pointer[(1 : ConsoleNo)] 60 = 2272 ∧
        homeTile.contains ((30408 + 24) / 16) (8000 / 16) = true) ∧
      homeTile.contains ((30408 + 2272) / 16) (8000 / 16) = false ∧
      locate (glideDesk []) ((30408 + 2272) / 16) (8000 / 16) = some ⟨1, 1, 1920, 0, 1280, 720, some 4⟩ ∧
      liveOwner (glideDesk []) ⟨1, 1, 1920, 0, 1280, 720, some 4⟩ = some 2 ∧
      mayCross 2 (glideDesk []) ∧
      (let u := run (.pointerReport 1 ⟨[], 1, 0, 0⟩) (glideDesk [])
       u.focus.focus = some 0 ∧ u.glide.seat = some ⟨0, 0, 0⟩ ∧ (absoluteHere u 0).isSome = true ∧
        (glideDesk []).glide.lastAbs[(0 : Computer)] ≠ absoluteHere u 0 ∧
        (glideDesk []).ports[(0 : Computer)].link = .ready) := by
  refine ⟨?_, ⟨⟨glideDesk_tables [1], by decide, by decide, by decide, ?_, ?_, ?_, ?_, ?_⟩, ?_⟩, ?_, ?_, ?_, ?_, ?_, ?_, ?_⟩
  · intro r hr hb
    refine ⟨glideDesk_tables [], by decide, by decide, by decide, ?_, hr, ?_, ?_, ?_⟩
    · unfold buttonsSame reduceButtons; rw [hb]; decide
    all_goals decide +kernel
  all_goals first | (unfold buttonsSame; decide) | (unfold mayCross; decide) | (unfold stepOf; decide +kernel) | (unfold motionless; decide) | decide +kernel

/-- The wake at a crossing onto a SUSPENDED computer 3: deferred, started and refused; a READY one asks for none. -/
theorem witness_PointerGlidesAndCrosses_wake :
    (∀ f ∈ ([(fun p => { p with settle := some 50 }), id, (fun p => { p with remoteWake := false })] : List (Port → Port)),
      let s := withPort 2 (fun p => f { p with link := .suspended, remoteWake := true }) (glideDesk [])
      s.focus.focus = some 0 ∧ s.ports[(2 : Computer)].link = .suspended ∧ mayCross 2 s ∧
        locate s ((30408 + 2272) / 16) (8000 / 16) = some ⟨1, 1, 1920, 0, 1280, 720, some 4⟩ ∧
        liveOwner s ⟨1, 1, 1920, 0, 1280, 720, some 4⟩ = some 2 ∧
        s.tables.computer[(2 : Computer)].wakePermitted = true ∧ s.ports[(2 : Computer)].deferred = false) ∧
      (glideDesk []).ports[(2 : Computer)].link = .ready := by
  refine ⟨fun f h => ?_, by decide⟩
  simp only [List.mem_cons, List.not_mem_nil, or_false] at h
  unfold mayCross
  obtain rfl | rfl | rfl := h <;> decide +kernel

theorem witness_MatcherKeepsItsTimes :
    desk.lock.state = .unlocked ∧ (lockedDesk 0 0 0).lock.state ≠ .unlocked ∧ desk.matcher.candidate = none ∧
      desk.matcher.commandTimer = none ∧
      ({ desk with matcher := ⟨true, some 2000, some ⟨71, false, 400⟩⟩ } : State).matcher.candidate =
        some ⟨71, false, 400⟩ ∧
      ({ desk with matcher := ⟨true, some 2000, none⟩ } : State).matcher.commandTimer = some 2000 := by decide

/-- A console UNLOCKED, with a sequence stored. -/
def lockableDesk : State :=
  { lockedDesk 0 0 0 with lock := ⟨.unlocked, 0, 0, none⟩ }

theorem witness_ConsoleLocksAndUnlocks :
    (desk.tables.unlock = none ∧ (lockedDesk 0 0 0).lock.state ≠ .unlocked) ∧
    (lockableDesk.lock.state = .unlocked ∧ lockableDesk.tables.unlock.isSome = true ∧
      (∀ sc : ScreenNo, lockableDesk.screens[sc].attached = false ∧ lockableDesk.screens[sc].peek = none)) ∧
    (typeDesk .active 1 1 0 none [] 0).typeout.state = .typing ∧
    ((lockedDesk 0 0 0).tables.computer[(0 : Computer)].manager = true ∧ (actionFrame 0 0).length = 3 ∧
      (actionFrame 0 0).params = [0, 0]) ∧
    desk.lock.timer = none ∧
    ({ lockedDesk 0 5 0 with lock := ⟨.lockout, 0, 5, some 30000⟩ } : State).lock.timer = some 30000 := by decide

theorem witness_FocusActionSeatsPointer :
    (∀ n : Computer, num n ≠ (9 : Byte).toNat) ∧ num (7 : Computer) = (8 : Byte).toNat ∧
    ((parked 7 desk).tables.computer[(7 : Computer)].parked = true ∧ desk.focus.focus = some 0) ∧
    (desk.tables.computer[(7 : Computer)].parked = false ∧ desk.focus.focus ≠ some 7) ∧
    (typeDesk .active 1 1 0 none [] 0).typeout.state = .typing ∧
    (desk.focus.broadcast[(0 : Computer)] = false ∧ seatOwner (glideDesk []) = some 0) ∧
    seatOwner (withFocus (some 7) (glideDesk [])) = some 0 ∧
    (seatOwner (glideDesk []) ≠ some 2 ∧
      rememberedTile { glideDesk [] with
        glide := { (glideDesk []).glide with remembered := (glideDesk []).glide.remembered.set 2 (some (32000, 100)) } } 2 =
          some ((32000, 100), ⟨1, 1, 1920, 0, 1280, 720, some 4⟩)) ∧
    (rememberedTile (glideDesk []) 2 = none ∧ firstLiveOf (glideDesk []) 2 = some ⟨1, 1, 1920, 0, 1280, 720, some 4⟩) ∧
    firstLiveOf desk 7 = none ∧
    (∃ e ∈ (alertDesk (some 0) computers).alerts.list, e.computer = 6 ∧ e.kind = .latched) ∧
    (let may := { desk.tables.options with wakeOnFocus := true }
     let on := fun (s : State) => { s with tables := { s.tables with options := may } }
     let asks := fun (s : State) => s.focus.focus ≠ some 5 ∧ s.tables.computer[(5 : Computer)].parked = false ∧
       s.ports[(5 : Computer)].link = .suspended ∧ s.tables.options.wakeOnFocus = true
     let allowed := fun (s : State) => s.ports[(5 : Computer)].remoteWake = true ∧
       s.tables.computer[(5 : Computer)].wakePermitted = true
     let settling := on (sleepingDesk fun p => { p with settle := some 50, deferred := true })
     let rested := on (sleepingDesk id)
     let barred := on (sleepingDesk fun p => { p with remoteWake := false })
     (asks settling ∧ allowed settling ∧ settling.ports[(5 : Computer)].deferred = true) ∧
      (asks rested ∧ allowed rested ∧ rested.ports[(5 : Computer)].deferred = false ∧
        rested.ports[(5 : Computer)].settle = none) ∧
      (asks barred ∧ ¬ allowed barred)) ∧
    desk.ports[(5 : Computer)].link ≠ .suspended := by decide +kernel

theorem witness_FocusStepsInPortOrder :
    (desk.focus.focus = some 0 ∧ (1 : Computer) ≠ 0 ∧ eligible desk 1 ∧ eligible desk 7 ∧
      (∀ m : Computer, m ≠ 0 → eligible desk m → ahead 0 1 ≤ ahead 0 m) ∧
      (∀ m : Computer, m ≠ 0 → eligible desk m → ahead 7 0 ≤ ahead m 0)) ∧
    ((withFocus none desk).focus.focus = none ∧
      (∀ m : Computer, eligible (withFocus none desk) m → 0 ≤ m) ∧
      (∀ m : Computer, eligible (withFocus none desk) m → m ≤ 7)) ∧
    (∀ m : Computer, State.reset.focus.focus ≠ some m → ¬ eligible State.reset m) ∧ desk.focus.previous = none ∧
    ({ desk with focus := { desk.focus with previous := some 7 } } : State).focus.previous = some 7 := by
  unfold eligible; decide

theorem witness_GoAlertServesChosenComputer :
    let rotating := alertDesk (some 0) [0, 7, 6, 5, 4, 3, 2, 1]
    let policy := fun (p : AlertPolicy) => { rotating with
      tables := { rotating.tables with options := { rotating.tables.options with alertPolicy := p } } }
    desk.alerts.list = [] ∧ alertChosen 1 (policy .oldest) ∧ alertChosen 4 (policy .priority) ∧ alertChosen 6 rotating ∧
      rotating.tables.computer[(6 : Computer)].parked = false ∧ rotating.focus.focus ≠ some 6 ∧
      (withFocus (some 6) rotating).focus.focus = some 6 ∧
      (∀ e ∈ rotating.alerts.list, e.computer = 1 → e.kind = .level) ∧
      (∃ e ∈ rotating.alerts.list, e.computer = 6 ∧ e.kind = .latched) := by
  refine ⟨rfl, ⟨⟨1, .level, .indicator⟩, _, rfl, rfl⟩, ⟨[⟨1, .level, .indicator⟩, ⟨6, .latched, .service⟩], ⟨4, .latched, .indicator⟩,
    [], rfl, rfl, by decide, by decide⟩, ⟨[0, 7], [5, 4, 3, 2, 1], rfl, by decide, by decide⟩, by decide⟩

/-- The desk with computer 8 a broadcast member that holds key 4. -/
def broadcastDesk : State :=
  { desk with
    focus := { desk.focus with
      broadcast := desk.focus.broadcast.set 7 true
      beliefs := desk.focus.beliefs.set 7 ⟨[4], []⟩ } }

theorem witness_BroadcastSetChanges :
    (∀ n : Computer, num n ≠ (0 : Byte).toNat) ∧ num (7 : Computer) = (8 : Byte).toNat ∧
    (desk.focus.broadcast[(7 : Computer)] = false ∧ (parked 7 desk).tables.computer[(7 : Computer)].parked = true ∧
      desk.tables.computer[(7 : Computer)].parked = false) ∧
    (withFocus (some 7) broadcastDesk).focus.focus = some 7 ∧
    (broadcastDesk.focus.broadcast[(7 : Computer)] = true ∧ broadcastDesk.focus.focus ≠ some 7 ∧
      broadcastDesk.ports[(7 : Computer)].link = .ready ∧ broadcastDesk.focus.beliefs[(7 : Computer)].keys ≠ [] ∧
      broadcastDesk.focus.beliefs[(7 : Computer)].buttons = []) ∧
    (∀ link ∈ [LinkState.suspended, .waking, .stalled],
      let s := withPort 7 (fun p => { p with link := link, deferred := decide (link = .suspended) }) broadcastDesk
      s.focus.broadcast[(7 : Computer)] = true ∧ s.focus.focus ≠ some 7 ∧ s.ports[(7 : Computer)].link ≠ .ready ∧
        s.ports[(7 : Computer)].queuesKeys = decide (link ≠ .stalled)) ∧
    (∀ n : Computer, desk.focus.broadcast[n] = false) ∧ ∃ n : Computer, broadcastDesk.focus.broadcast[n] = true := by
  decide

theorem witness_ChannelsAcquireTimings :
    let t : Timing := ⟨2560, 1440, 59951⟩
    let at5 := fun (r : ChannelRt) => ({ desk with channels := desk.channels.set 4 r } : State)
    desk.channels[(4 : Channel)].state = .noSignal ∧ (changing 1).channels[(4 : Channel)].state ≠ .noSignal ∧
    ((changing 1).channels[(4 : Channel)].state = .locking ∧
      (changing 1).channels[(4 : Channel)].timing ≠ some ⟨1024, 768, 60004⟩) ∧
    ((changing 1).channels[(4 : Channel)].timing = some t ∧ (changing 1).channels[(4 : Channel)].count < 2) ∧
    ((changing 2).channels[(4 : Channel)].count = 2 ∧ 640 ≤ t.width ∧ t.width ≤ 7680 ∧ 480 ≤ t.height ∧ t.height ≤ 4320) ∧
    ((at5 ⟨.locking, some ⟨639, 480, 60000⟩, 2, none⟩).channels[(4 : Channel)].timing = some ⟨639, 480, 60000⟩ ∧
      ¬ (640 ≤ (639 : Nat))) ∧
    ((at5 (lockedAt 2560 1440)).channels[(4 : Channel)].state = .locked ∧
      (at5 (lockedAt 2560 1440)).channels[(4 : Channel)].timing = some ⟨2560, 1440, 60000⟩) ∧
    (at5 ⟨.unsupported, some ⟨639, 480, 60000⟩, 3, none⟩).channels[(4 : Channel)].timing ≠ some t := by
  decide

theorem witness_DisplaysComeAndGo :
    desk.screens[(7 : ScreenNo)].attached = false ∧
    ((glideDesk []).screens[(1 : ScreenNo)].attached = true ∧ (glideDesk []).tables.Ok ∧
      (run (.displayDetach 1) (glideDesk [])).focus.focus = (glideDesk []).focus.focus) ∧
    (let t := run (.displayDetach 1) (glideDesk [])
     (glideDesk []).glide.seat.isSome = true ∧ locate t (30408 / 16) (8000 / 16) = some homeTile ∧
      liveOwner t homeTile = some 0 ∧ (glideDesk []).glide.seat = some ⟨homeTile.screen, homeTile.quad, 0⟩) ∧
    (let t := run (.displayDetach 0) (glideDesk [])
     (locate t (30408 / 16) (8000 / 16) = some homeTile ∧ liveOwner t homeTile = none) ∧ firstLiveOf t 0 = none ∧
      firstLive t = some ⟨1, 1, 1920, 0, 1280, 720, some 4⟩ ∧ (glideDesk []).console.deskKeys = [] ∧
      (withDeskKeys [4] (glideDesk [])).console.deskKeys ≠ []) ∧
    firstLive (run (.displayDetach 1) (run (.displayDetach 0) (glideDesk []))) = none := by
  refine ⟨by decide, ⟨by decide, glideDesk_tables [], by decide +kernel⟩, ?_, ?_, ?_⟩ <;> decide +kernel

theorem witness_FrameStartsShowWhatIsPending :
    desk.screens[(7 : ScreenNo)].attached = false ∧
    ((glideDesk []).screens[(1 : ScreenNo)].attached = true ∧
      (glideDesk []).screens[(1 : ScreenNo)].pendingAssignment = none) ∧
    (lockedDesk 0 0 0).lock.state ≠ .unlocked ∧
    ((glideDesk []).lock.state = .unlocked ∧ (glideDesk []).tables.layout[(2 : ScreenNo)].enabled = false ∧
      (glideDesk []).tables.layout[(1 : ScreenNo)].enabled = true) ∧
    ((glideDesk []).modScreen 1 fun r =>
      { r with pendingAssignment := some (.single none) }).screens[(1 : ScreenNo)].pendingAssignment =
        some (.single none) ∧
    ((⟨1, 0, 1920, 0, 1280, 720, none⟩ : Tile).channel = none ∧
      (glideDesk []).channels[(3 : Channel)].state ≠ .locked ∧
      ((glideDesk []).channels[(4 : Channel)].state = .locked ∧
        (glideDesk []).channels[(4 : Channel)].timing = some ⟨1920, 1200, 60000⟩)) := by decide

theorem witness_ShowSetsAssignment :
    ((∀ sc : ScreenNo, num sc ≠ (9 : Byte).toNat) ∧ 16 < (17 : Byte).toNat) ∧
    (num (7 : ScreenNo) = (8 : Byte).toNat ∧ numByte (some (15 : Channel)) = 16 ∧ numByte (none : Option Channel) = 0) ∧
    desk.tables.assignment[(7 : ScreenNo)] = .single (some 14) ∧ desk.tables.assignment[(7 : ScreenNo)] ≠ .single (some 15) ∧
    peekDesk.screens[(7 : ScreenNo)].peek = some ⟨15, 5000, .single (some 14)⟩ ∧
    (desk.screens[(7 : ScreenNo)].peek = none ∧ desk.screens[(7 : ScreenNo)].attached = false) ∧
    (num (1 : ScreenNo) = (2 : Byte).toNat ∧ (glideDesk []).screens[(1 : ScreenNo)].attached = true ∧
      (glideDesk []).screens[(1 : ScreenNo)].peek = none) := by decide

theorem witness_PresetSetsAssignments :
    (∀ p : Fin 4, num p ≠ (5 : Byte).toNat) ∧ (num (3 : Fin 4) = (4 : Byte).toNat ∧ num (1 : Fin 4) = (2 : Byte).toNat) ∧
    (∀ sc : ScreenNo, desk.tables.assignment[sc] = desk.tables.preset[8 * (3 : Fin 4).val + sc.val]) ∧
    (∃ sc : ScreenNo, desk.tables.assignment[sc] ≠ desk.tables.preset[8 * (1 : Fin 4).val + sc.val]) ∧
    peekDesk.screens[(7 : ScreenNo)].peek.isSome = true ∧
    (desk.screens[(0 : ScreenNo)].peek = none ∧ desk.screens[(0 : ScreenNo)].attached = false) ∧
    ((glideDesk []).screens[(0 : ScreenNo)].attached = true ∧ (glideDesk []).screens[(0 : ScreenNo)].peek = none ∧
      (glideDesk []).tables.assignment[(0 : ScreenNo)] ≠ (glideDesk []).tables.preset[8 * (1 : Fin 4).val + (0 : ScreenNo).val]) := by
  decide

theorem witness_PeeksStartAndEnd :
    ((lockedDesk 0 0 0).lock.state ≠ .unlocked ∧ (∀ sc : ScreenNo, num sc ≠ (9 : Byte).toNat) ∧ 16 < (17 : Byte).toNat) ∧
    (peekDesk.lock.state = .unlocked ∧ num (7 : ScreenNo) = (8 : Byte).toNat ∧ num (15 : Channel) = (16 : Byte).toNat ∧
      num (0 : Channel) = (1 : Byte).toNat) ∧
    (desk.screens[(7 : ScreenNo)].peek = none ∧ desk.screens[(7 : ScreenNo)].attached = false ∧
      (glideDesk []).screens[(1 : ScreenNo)].attached = true ∧ (glideDesk []).screens[(1 : ScreenNo)].peek = none) ∧
    (peekDesk.screens[(7 : ScreenNo)].peek = some ⟨15, 5000, .single (some 14)⟩ ∧ (15 : Channel) ≠ 0) := by decide

theorem witness_ParkToggleWithdrawsComputer :
    (∀ n : Computer, num n ≠ (9 : Byte).toNat) ∧ num (7 : Computer) = (8 : Byte).toNat ∧
    (desk.tables.computer[(7 : Computer)].parked = false ∧ broadcastDesk.focus.broadcast[(7 : Computer)] = true ∧
      broadcastDesk.focus.focus ≠ some 7 ∧ desk.focus.broadcast[(7 : Computer)] = false) ∧
    ((withFocus (some 7) desk).focus.focus = some 7 ∧ (0 : Computer) ≠ 7 ∧ eligible (withFocus (some 7) desk) 0) ∧
    (State.reset.focus.focus = some 0 ∧ State.reset.tables.computer[(0 : Computer)].parked = false ∧
      ∀ m : Computer, m ≠ 0 → ¬ eligible State.reset m) ∧
    (let s := parked 1 (alertDesk none computers)
     let s := withPort 1 (fun p => { p with indicators := Indicators.ofByte 4 })
       { s with alerts := ⟨s.alerts.sources.set 1 ⟨true, true⟩, [], computers⟩ }
     s.tables.computer[(1 : Computer)].parked = true ∧ (∀ e ∈ s.alerts.list, e.computer ≠ 1) ∧
      s.alerts.sources[(1 : Computer)].known = true ∧ s.tables.computer[(1 : Computer)].alertIndicator = some .scroll ∧
      s.ports[(1 : Computer)].indicators.has .scroll = decide (s.tables.computer[(1 : Computer)].alertSense = .on)) := by
  unfold eligible
  decide

/-- Sixteen presses of key 5, each followed by its release: as much as a pending key queue takes. -/
def pressesAndReleases : List KeyEvent :=
  (List.replicate 16 [KeyEvent.press 5, KeyEvent.release 5]).flatten

theorem witness_WakeRequestsAreTaken :
    ((∀ n : Computer, num n ≠ (9 : Byte).toNat) ∧ ((9 : Byte) = 0 → desk.focus.focus = none)) ∧
    (num (5 : Computer) = (6 : Byte).toNat ∧ (withFocus (some 5) desk).focus.focus = some 5) ∧
    desk.ports[(5 : Computer)].link ≠ .suspended ∧
    ((sleepingDesk id).ports[(5 : Computer)].link = .suspended ∧ (sleepingDesk id).ports[(5 : Computer)].remoteWake = true ∧
      (sleepingDesk id).tables.computer[(5 : Computer)].wakePermitted = true ∧
      (sleepingDesk id).ports[(5 : Computer)].deferred = false ∧ (sleepingDesk id).ports[(5 : Computer)].settle = none) ∧
    (sleepingDesk fun p => { p with settle := some 50 }).ports[(5 : Computer)].settle.isSome = true ∧
    (sleepingDesk fun p => { p with settle := some 50, deferred := true }).ports[(5 : Computer)].deferred = true ∧
    ((sleepingDesk fun p => { p with remoteWake := false }).ports[(5 : Computer)].remoteWake ≠ true ∧
      (sleepingDesk id).typeout.sub ≠ some .waitingWake) := by decide

/-- The second half of the hypotheses of WakeRequestsAreTaken: a press for a focus computer that is not READY, which asks
for a wake, fits and does not fit the pending key queue of a wake under way, and finds no wake under way. -/
theorem witness_WakeRequestsAreTaken_press :
    let asleep := fun (f : Port → Port) => withKeyboard 0 [] (withFocus (some 5) (sleepingDesk f))
    let full := asleep fun p => { p with settle := some 50, deferred := true, pendingKeys := pressesAndReleases }
    (∀ f : Port → Port, PressAlone 0 (keysHeld 0 [byte 4]) 4 [4] (asleep f) ∧ (asleep f).lock.state = .unlocked ∧
      (asleep f).typeout.state ≠ .typing ∧ noHotkey 4 (asleep f) ∧ (asleep f).focus.focus = some 5 ∧
      ∀ m : Computer, m ≠ 5 → (asleep f).focus.broadcast[m] = false) ∧
    ((asleep id).ports[(5 : Computer)].link = .suspended ∧ (asleep id).ports[(5 : Computer)].deferred = false ∧
      (asleep id).tables.options.wakeOnInput = true ∧ (asleep id).ports[(5 : Computer)].pendingKeys = []) ∧
    (full.ports[(5 : Computer)].link = .suspended ∧ full.ports[(5 : Computer)].deferred = true ∧
      4 ∉ full.focus.beliefs[(5 : Computer)].keys ∧
      ¬ (full.ports[(5 : Computer)].pendingKeys.length + unreleased full.ports[(5 : Computer)].pendingKeys + 1 ≤ 32)) ∧
    (asleep fun p => { p with link := .stalled }).ports[(5 : Computer)].link = .stalled := by
  refine ⟨fun f => ⟨tap_alone (by rfl) 4 (by decide), rfl, (by decide : desk.typeout.state ≠ .typing), ⟨rfl, ?_, ?_⟩, rfl,
    (by decide : ∀ m : Computer, m ≠ 5 → desk.focus.broadcast[m] = false)⟩, by decide, by decide +kernel, by decide⟩
  · show ∀ i : Fin 32, desk.tables.hotkey[i].enabled = true → desk.tables.hotkey[i].key = 4 →
      desk.tables.hotkey[i].kind = .follower
    decide
  · intro cand h; cases h

theorem witness_WakeAllTakesPortsInOrder :
    let two := withPort 7 (fun p => { p with link := .suspended }) (sleepingDesk id)
    (computers.filter fun n => decide (two.ports[n].link = .suspended ∧ two.tables.computer[n].parked = false ∧
      two.tables.computer[n].wakePermitted = true)) = [5, 7] ∧
    two.wakeAll.startList = [] ∧ two.tables.options.wakeAllStagger ≠ 0 ∧
    ({ two with tables := { two.tables with options := { two.tables.options with wakeAllStagger := 0 } }
      } : State).tables.options.wakeAllStagger = 0 ∧
    ({ two with wakeAll := ⟨[7], some 200⟩ } : State).wakeAll.startList ≠ [] ∧
    (computers.filter fun n => decide (desk.ports[n].link = .suspended ∧ desk.tables.computer[n].parked = false ∧
      desk.tables.computer[n].wakePermitted = true)) = [] ∧
    desk.wakeAll.stagger = none ∧
    (({ two with wakeAll := ⟨[7], some 200⟩ } : State).wakeAll.stagger = some 200 ∧
      ({ two with wakeAll := ⟨[7], some 200⟩ } : State).wakeAll.startList = 7 :: []) := by decide

/-- The desk with computer 6 WAKING in attempt `n`. -/
def wakingDesk (n : Nat) (phase : WakePhase) : State :=
  withPort 5 (fun p => { p with link := .waking, attempt := n, phase := some phase, attemptTimer := some 540 }) desk

theorem witness_WakeAttemptsRunTheirCourse :
    desk.ports[(5 : Computer)].settle = none ∧
    ((sleepingDesk fun p => { p with settle := some 50 }).ports[(5 : Computer)].settle = some 50 ∧
      (sleepingDesk fun p => { p with settle := some 50 }).ports[(5 : Computer)].deferred = false) ∧
    (let s := sleepingDesk fun p => { p with settle := some 50, deferred := true }
     s.ports[(5 : Computer)].settle = some 50 ∧ s.ports[(5 : Computer)].deferred = true ∧
      s.ports[(5 : Computer)].remoteWake = true ∧ s.tables.computer[(5 : Computer)].wakePermitted = true) ∧
    (let s := sleepingDesk fun p => { p with settle := some 50, deferred := true, remoteWake := false }
     s.ports[(5 : Computer)].settle = some 50 ∧ s.ports[(5 : Computer)].deferred = true ∧
      ¬ (s.ports[(5 : Computer)].remoteWake = true ∧ s.tables.computer[(5 : Computer)].wakePermitted = true) ∧
      s.typeout.sub ≠ some .waitingWake) ∧
    (desk.ports[(5 : Computer)].phase ≠ some .signalling ∧ desk.ports[(5 : Computer)].phase ≠ some .waiting) ∧
    ((wakingDesk 1 .signalling).ports[(5 : Computer)].phase = some .signalling ∧
      (wakingDesk 1 .signalling).ports[(5 : Computer)].attemptTimer = some 540) ∧
    ((wakingDesk 2 .waiting).ports[(5 : Computer)].phase = some .waiting ∧
      (wakingDesk 2 .waiting).ports[(5 : Computer)].attemptTimer = some 540 ∧
      (wakingDesk 2 .waiting).ports[(5 : Computer)].attempt ≠ (wakingDesk 2 .waiting).tables.options.wakeAttempts ∧
      (wakingDesk 2 .waiting).ports[(5 : Computer)].attempt < 8) ∧
    ((wakingDesk 3 .waiting).ports[(5 : Computer)].attempt = (wakingDesk 3 .waiting).tables.options.wakeAttempts ∧
      8 ≤ (wakingDesk 8 .waiting).ports[(5 : Computer)].attempt ∧
      (wakingDesk 3 .waiting).typeout.sub ≠ some .waitingWake) := by decide

/-- The desk with the text of 7.7 in the mailbox. -/
def heldDesk : State :=
  { desk with typeout := ⟨.held, none, [66, 111, 126, 10], some 0, none, 0, 0, 0, none, none⟩ }

/-- `s` with a translation table in which the characters `codes` cannot be typed. -/
def untypeable (codes : List Nat) (s : State) : State :=
  { s with
    tables := { s.tables with
      translation := Vector.ofFn fun i : Fin 97 =>
        if codes.any (fun c => decide (translate s.tables c = s.tables.translation[i])) then ⟨0, false⟩
        else s.tables.translation[i] } }

theorem witness_TypeTextBeginsTypeOut :
    ((lockedDesk 0 0 0).lock.state ≠ .unlocked ∧ desk.typeout.state ≠ .held ∧
      (withFocus none heldDesk).focus.focus = none) ∧
    (heldDesk.lock.state = .unlocked ∧ heldDesk.typeout.state = .held ∧ heldDesk.focus.focus = some 0) ∧
    (withPort 0 (fun p => { p with link := .stalled }) heldDesk).ports[(0 : Computer)].link = .stalled ∧
    (heldDesk.ports[(0 : Computer)].link = .ready ∧ (withDeskKeys [23] heldDesk).console.deskKeys ≠ []) ∧
    (heldDesk.console.deskKeys = [] ∧ heldDesk.console.deskButtons = [] ∧ heldDesk.typeout.text[0]? = some 66 ∧
      (translate heldDesk.tables 66).key ≠ 0) ∧
    (let s := untypeable [66, 111] heldDesk
     (∀ j, j < 2 → ∃ d, s.typeout.text[j]? = some d ∧ (translate s.tables d).key = 0) ∧
      s.typeout.text[2]? = some 126 ∧ (translate s.tables 126).key ≠ 0) ∧
    (∀ d ∈ (untypeable [66, 111, 126, 10] heldDesk).typeout.text,
      (translate (untypeable [66, 111, 126, 10] heldDesk).tables d).key = 0) ∧
    (withPort 0 (fun p => { p with link := .waking }) heldDesk).ports[(0 : Computer)].link = .waking ∧
    (withPort 0 (fun p => { p with link := .suspended }) heldDesk).ports[(0 : Computer)].link = .suspended ∧
    (let s := withPort 2 (fun p => { p with link := .waking, phase := some .waiting, attempt := 3, attemptTimer := some 540 })
      (typeDesk .waitingWake 0 0 0 none [] 0)
     s.typeout.state = .typing ∧ s.typeout.sub = some .waitingWake ∧ s.typeout.target = some 2 ∧
      s.ports[(2 : Computer)].link = .waking ∧ s.console.deskKeys = [] ∧ (withDeskKeys [23] s).console.deskKeys ≠ [] ∧
      s.typeout.text[s.typeout.index]? = some 66 ∧ (translate s.tables 66).key ≠ 0 ∧
      s.ports[(2 : Computer)].phase = some .waiting ∧ s.ports[(2 : Computer)].attemptTimer.isSome = true ∧
      s.ports[(2 : Computer)].attempt = s.tables.options.wakeAttempts) ∧
    (let s := withPort 2 (fun p => { p with link := .suspended, settle := some 50, deferred := true })
      (typeDesk .waitingWake 0 0 0 none [] 0)
     s.typeout.target = some 2 ∧ s.ports[(2 : Computer)].link = .suspended ∧
      ¬ (s.ports[(2 : Computer)].remoteWake = true ∧ s.tables.computer[(2 : Computer)].wakePermitted = true) ∧
      num (2 : Computer) = (3 : Byte).toNat ∧ s.ports[(2 : Computer)].settle.isSome = true ∧
      s.ports[(2 : Computer)].deferred = true) := by decide +kernel

theorem witness_TypeOutPressesAndReleases :
    let pressed : Pacing := ⟨some ⟨5, true, 68⟩, 76⟩
    let typing := typeDesk .active 1 1 0 (some pressed) [5, 225] 64
    let waiting := typeDesk .active 1 1 0 (some ⟨none, 76⟩) [] 72
    let last := typeDesk .active 4 3 1 (some ⟨some ⟨40, false, 100⟩, 108⟩) [40] 96
    desk.typeout.sub ≠ some .active ∧
    (typing.typeout.sub = some .active ∧ typing.typeout.target = some 2 ∧ typing.typeout.state = .typing ∧
      typing.typeout.pacing = some pressed ∧ pressed.pressed = some ⟨5, true, 68⟩) ∧
    (waiting.typeout.pacing = some ⟨none, 76⟩ ∧ waiting.ports[(2 : Computer)].keyQueue = [] ∧
      waiting.typeout.text[waiting.typeout.index]? = some 111 ∧ (translate waiting.tables 111).key ≠ 0) ∧
    (withPort 2 (fun p => { p with keyQueue := [[]] }) waiting).ports[(2 : Computer)].keyQueue ≠ [] ∧
    (typing.typeout.text[typing.typeout.index]? = some 111 ∧ (translate typing.tables 111).key ≠ 0) ∧
    (let s := untypeable [111] waiting
     s.typeout.pacing = some ⟨none, 76⟩ ∧
      (∀ j, j < 2 → ∃ d, s.typeout.text[s.typeout.index + j]? = some d ∧ (translate s.tables d).key = 0) ∧
      s.typeout.text[s.typeout.index + 2]? = some 10 ∧ (translate s.tables 10).key ≠ 0) ∧
    (last.typeout.pacing = some ⟨some ⟨40, false, 100⟩, 108⟩ ∧ last.typeout.text.length ≤ last.typeout.index ∧
      ∀ d ∈ last.typeout.text.drop last.typeout.index, (translate last.tables d).key = 0) := by decide +kernel

theorem witness_PortsAttachAndConfigure :
    State.reset.ports[(7 : Computer)].link = .absent ∧ desk.ports[(7 : Computer)].link ≠ .absent ∧
      (withPort 7 (fun p => { p with link := .attaching }) desk).ports[(7 : Computer)].link = .attaching ∧
      desk.ports[(7 : Computer)].link ≠ .attaching := by decide

theorem witness_LostLinksAreCleared :
    (Instr.computerBusReset 5 = .computerBusReset 5 ∧ LinkState.attaching = .attaching) ∧
    (Instr.computerDetach 5 = .computerDetach 5 ∧ LinkState.absent = .absent) ∧
    State.reset.ports[(5 : Computer)].link = .absent ∧ (wakingDesk 1 .waiting).ports[(5 : Computer)].link = .waking ∧
    (let s := sleepingDesk fun p => { p with settle := some 50, deferred := true }
     s.ports[(5 : Computer)].link = .suspended ∧ s.ports[(5 : Computer)].deferred = true) ∧
    (desk.focus.focus = some 0 ∧ desk.ports[(0 : Computer)].link ≠ .absent) ∧
    ((typeDesk .active 1 1 0 none [] 0).typeout.target = some 2 ∧
      (typeDesk .active 1 1 0 none [] 0).typeout.state = .typing ∧
      (typeDesk .active 1 1 0 none [] 0).typeout.target ≠ some 5) := by decide

theorem witness_IndicatorReportsAreTakenUp :
    let s := alertDesk (some 1) computers
    let clear := { s with alerts := ⟨s.alerts.sources, [], computers⟩ }
    let risen := { s with alerts := ⟨s.alerts.sources.set 1 ⟨true, true⟩, s.alerts.list, computers⟩ }
    ((sleepingDesk id).ports[(5 : Computer)].link ≠ .ready ∧ (sleepingDesk id).ports[(5 : Computer)].link ≠ .stalled) ∧
    (clear.ports[(1 : Computer)].link = .ready ∧ clear.console.mirrored = mirrorSource clear) ∧
    (clear.tables.computer[(1 : Computer)].alertIndicator = some .scroll ∧ (Indicators.ofByte 4).has .scroll = true ∧
      clear.alerts.sources[(1 : Computer)].condition ≠ true ∧ clear.tables.computer[(1 : Computer)].parked = false ∧
      ∀ x ∈ clear.alerts.list, ¬ x.computer = 1) ∧
    ((Indicators.ofByte 0).has .scroll = false ∧ risen.alerts.sources[(1 : Computer)].condition = true) ∧
    (∃ x ∈ s.alerts.list, x.computer = 1) ∧
    (clear.focus.focus = some 1 ∧ clear.console.mirrored ≠ Indicators.ofByte 4 ∧
      (withKeyboard 3 [] clear).console.ports[(3 : ConsoleNo)] = .keyboard [] Indicators.none none) ∧
    desk.focus.focus ≠ some 1 := by decide

theorem witness_PollsDeliverOldestReports :
    let full := withPort 5 (fun p => { p with keyQueue := [[4], []], pointerQueue := [dragged] }) desk
    (full.ports[(5 : Computer)].link = .ready ∧ full.ports[(5 : Computer)].keyQueue = [[4], []]) ∧
    (withPort 5 (fun p => { p with link := .stalled }) full).ports[(5 : Computer)].link = .stalled ∧
    (sleepingDesk id).ports[(5 : Computer)].link = .suspended ∧ State.reset.ports[(5 : Computer)].link = .absent ∧
    (∀ keys ∈ [[], [4, 5, 224, 231, 232], (List.range 62).map (· + 4)],
      keys.Pairwise (· < ·) ∧ (keys.filter fun k => decide (k < 224 ∨ 231 < k)).length ≤ 62) ∧
    ((⟨.relative, -4, 127, [1, 8], -1⟩ : PtrReport).buttons.Pairwise (· < ·) ∧
      ∀ b ∈ (⟨.relative, -4, 127, [1, 8], -1⟩ : PtrReport).buttons, 1 ≤ b ∧ b ≤ 8) := by decide

theorem witness_PortsStallAndSuspend :
    let late := withPort 2 (fun p => { p with keyQueue := [[5, 225]], stall := some 1000 })
      (typeDesk .active 1 1 0 (some ⟨some ⟨5, true, 68⟩, 76⟩) [5, 225] 64)
    (desk.ports[(2 : Computer)].stall = none ∧ desk.typeout.target ≠ some 2) ∧
    (late.ports[(2 : Computer)].stall = some 1000 ∧ late.typeout.target = some 2 ∧ late.typeout.state = .typing ∧
      late.typeout.sub = some .active) ∧
    ((sleepingDesk id).ports[(5 : Computer)].link ≠ .ready ∧ (sleepingDesk id).ports[(5 : Computer)].link ≠ .stalled) ∧
    desk.ports[(5 : Computer)].link = .ready := by decide

theorem witness_ResumeReplaysPendingKeys :
    let waking := withPort 5 (fun p => { p with pendingKeys := [.press 4, .release 4], held := some dragged })
      (wakingDesk 2 .waiting)
    (desk.ports[(5 : Computer)].link ≠ .waking ∧ desk.ports[(5 : Computer)].link ≠ .suspended) ∧
    (waking.ports[(5 : Computer)].link = .waking ∧ waking.ports[(5 : Computer)].keyQueue = [] ∧
      waking.ports[(5 : Computer)].pointerQueue = [] ∧ waking.typeout.target ≠ some 5 ∧
      waking.ports[(5 : Computer)].pendingKeys ≠ [] ∧ waking.ports[(5 : Computer)].keyOverruns ≤ 65535) := by decide

/-- A keyboard that holds key 4, with the desk key state that goes with it. -/
theorem witness_StepKeepsConsole :
    let s := withDeskKeys [4] (withKeyboard 1 [4] desk)
    ConsoleSafe s ∧ step s = .next (after (step s)) := by
  refine ⟨⟨?_, ?_, by decide, by decide⟩, rfl⟩
  · intro k
    constructor
    · intro h; exact ⟨1, h⟩
    · rintro ⟨c, h⟩
      fin_cases c
      · cases h
      · exact h
      · cases h
      · cases h
  · intro b
    constructor
    · intro h; cases h
    · rintro ⟨c, h⟩
      fin_cases c <;> cases h

theorem witness_StepKeepsParked :
    let s := parked 2 (alertDesk (some 0) [1, 0, 2, 3, 4, 5, 6, 7])
    ParkSafe s ∧ step s = .next (after (step s)) :=
  ⟨⟨by decide, by decide, by decide, by decide, by decide⟩, rfl⟩

theorem witness_StepKeepsTables :
    let s := { lockedDesk 3 4 0 with store := some defaultTables }
    TablesSafe s ∧ step s = .next (after (step s)) := by
  have ok : ∀ u, (∀ q, u = some q → sequenceOk q) → ({ defaultTables with unlock := u } : Tables).Ok := by
    intro u hu
    refine ⟨?_, ⟨0, rfl⟩, ?_, ?_, ?_, ?_, ?_, ?_, ?_, hu⟩
    · show ∀ n : Computer, defaultTables.computer[n].Ok
      unfold ComputerEntry.Ok; decide
    · show defaultTables.options.Ok
      unfold Options.Ok; decide
    · show ∀ sc : ScreenNo, defaultTables.layout[sc].Ok
      unfold LayoutEntry.Ok nativeOk; decide
    · show layoutValid defaultTables.layout = true
      decide +kernel
    · show ∀ c : Channel, defaultTables.channel[c].Ok
      unfold ChannelEntry.Ok; decide
    · show ∀ c : ConsoleNo, defaultTables.pointer[c].Ok
      unfold PointerEntry.Ok; decide
    · show ∀ i : Fin 32, defaultTables.hotkey[i].Ok
      unfold HotkeyEntry.Ok; decide +kernel
    · show ∀ i : Fin 97, defaultTables.translation[i].key ≤ 255
      decide +kernel
  refine ⟨⟨ok (some [9, 18, 9, 7]) ?_, ?_, ?_, by decide, ?_, by decide, by decide, by decide, by decide, by decide⟩, rfl⟩
  · intro q h; cases h; unfold sequenceOk; decide
  · intro image h; cases h
    exact ok none (by intro q h; cases h)
  · intro sv h; cases h
  · intro q h _; cases h; decide

theorem witness_StepKeepsPorts :
    let s := { wakingDesk 2 .waiting with
      typeout := (typeDesk .waitingRelease 0 0 0 none [] 0).typeout }
    PortsSafe s ∧ step s = .next (after (step s)) := by
  have port : ∀ n : Computer, ∀ s : State, s.ports[n] = readyPort → s.focus.beliefs[n] = ⟨[], []⟩ →
      PortSafe s.ports[n] s.focus.beliefs[n] := by
    intro n s h1 h2
    rw [h1, h2]
    constructor <;> first | decide | trivial
  refine ⟨⟨?_, ?_, ⟨?_, ?_, fun h => absurd rfl h⟩⟩, rfl⟩
  · intro n
    by_cases h : n = 5
    · subst h; constructor <;> first | decide | trivial
    · exact port n _ (by revert n; decide) (by revert n; decide)
  · refine ⟨by decide, by decide, ?_, by decide, by decide, by decide, by decide, by decide⟩
    intro sub n h1 h2; cases h1; cases h2
    show _ = LinkState.ready
    decide
  · intro n k h
    have all : ∀ n : Computer, desk.focus.beliefs[n].keys = [] := by decide
    have e := all n
    exact absurd (e ▸ h : k ∈ []) List.not_mem_nil
  · decide

theorem witness_StepKeepsPointer :
    TablesSafe (glideDesk []) ∧ PointerSafe (glideDesk []) ∧
      step (glideDesk []) = .next (after (step (glideDesk []))) := by
  refine ⟨⟨glideDesk_tables [], ?_, ?_, by decide, ?_, by decide, by decide, by decide, by decide, by decide⟩,
    ⟨?_, ?_, ?_, by decide⟩, rfl⟩
  · intro image h; cases h
  · intro sv h; cases h
  · intro q h; cases h
  · intro seat h; cases h
    exact ⟨⟨0, 0, 0, 0, 1920, 1080, some 0⟩, by decide, by decide, by decide⟩
  · intro h; cases h
  · intro _; exact ⟨⟨0, 0, 0⟩, rfl, rfl⟩

end Sys2Proof.Tests
end

/-! # The console: proofs of the statements about console input and the desk key state -/

section
/-! ## The mirrored value agrees with its source (R16)

An operation that touches neither the focus computer, nor a stored indicator set, nor the mirrored value is stated as an
equivalence for `simp`; the others bring the value into agreement with `syncMirror` themselves. -/

namespace Sys2Proof.Machine

/-- The mirrored indicator value agrees with its source (R16). -/
def Mirrored (s : State) : Prop :=
  s.console.mirrored = mirrorSource s

variable {s t : State}

theorem mirrored_congr (hm : t.console.mirrored = s.console.mirrored) (hf : t.focus.focus = s.focus.focus)
    (hi : ∀ n : Computer, t.ports[n].indicators = s.ports[n].indicators) : Mirrored t ↔ Mirrored s := by
  have hsrc : mirrorSource t = mirrorSource s := by
    unfold mirrorSource
    rw [hf]
    cases s.focus.focus with
    | none => rfl
    | some n => exact hi n
  unfold Mirrored
  rw [hm, hsrc]

@[simp] theorem mirrored_syncMirror : Mirrored (syncMirror s) := by
  unfold syncMirror
  split
  next h => exact h.symm
  next h => rfl

/-! ### Updates of one field -/

@[simp] theorem mirrored_setNow (v) : Mirrored (s.setNow v) ↔ Mirrored s := Iff.rfl
@[simp] theorem mirrored_setPending (v) : Mirrored (s.setPending v) ↔ Mirrored s := Iff.rfl
@[simp] theorem mirrored_setLock (v) : Mirrored (s.setLock v) ↔ Mirrored s := Iff.rfl
@[simp] theorem mirrored_setMatcher (v) : Mirrored (s.setMatcher v) ↔ Mirrored s := Iff.rfl
@[simp] theorem mirrored_setGlide (v) : Mirrored (s.setGlide v) ↔ Mirrored s := Iff.rfl
@[simp] theorem mirrored_setScreens (v) : Mirrored (s.setScreens v) ↔ Mirrored s := Iff.rfl
@[simp] theorem mirrored_setChannels (v) : Mirrored (s.setChannels v) ↔ Mirrored s := Iff.rfl
@[simp] theorem mirrored_setWakeAll (v) : Mirrored (s.setWakeAll v) ↔ Mirrored s := Iff.rfl
@[simp] theorem mirrored_setTypeout (v) : Mirrored (s.setTypeout v) ↔ Mirrored s := Iff.rfl
@[simp] theorem mirrored_setAlerts (v) : Mirrored (s.setAlerts v) ↔ Mirrored s := Iff.rfl
@[simp] theorem mirrored_setMgmt (v) : Mirrored (s.setMgmt v) ↔ Mirrored s := Iff.rfl
@[simp] theorem mirrored_setTables (v) : Mirrored (s.setTables v) ↔ Mirrored s := Iff.rfl
@[simp] theorem mirrored_setStore (v) : Mirrored (s.setStore v) ↔ Mirrored s := Iff.rfl
@[simp] theorem mirrored_modScreen (sc f) : Mirrored (s.modScreen sc f) ↔ Mirrored s := Iff.rfl
@[simp] theorem mirrored_setBelief (n b) : Mirrored (s.setBelief n b) ↔ Mirrored s := Iff.rfl
@[simp] theorem mirrored_modConsolePort (c f) : Mirrored (modConsolePort c f s) ↔ Mirrored s := Iff.rfl

@[simp] theorem mirrored_setFocus {v : FocusCtl} (h : v.focus = s.focus.focus) :
    Mirrored (s.setFocus v) ↔ Mirrored s :=
  mirrored_congr rfl h fun _ => rfl

@[simp] theorem mirrored_setConsole {v : Console} (h : v.mirrored = s.console.mirrored) :
    Mirrored (s.setConsole v) ↔ Mirrored s :=
  mirrored_congr h rfl fun _ => rfl

@[simp] theorem mirrored_setPorts {v : Vector Port 8} (h : ∀ n : Computer, v[n].indicators = s.ports[n].indicators) :
    Mirrored (s.setPorts v) ↔ Mirrored s :=
  mirrored_congr rfl rfl h

@[simp] theorem mirrored_modPort (n : Computer) {f : Port → Port} (h : ∀ p, (f p).indicators = p.indicators) :
    Mirrored (s.modPort n f) ↔ Mirrored s := by
  refine mirrored_congr rfl rfl fun m => ?_
  simp only [Fin.getElem_fin, State.modPort_ports]
  split
  · exact h _
  · rfl

@[simp] theorem mirrored_elapse (d) : Mirrored (s.elapse d) ↔ Mirrored s := Iff.rfl
@[simp] theorem mirrored_advanceTo (d) : Mirrored (s.advanceTo d) ↔ Mirrored s := Iff.rfl

/-! ### The operations of a port keep the stored indicators -/

@[simp] theorem Port.announce_indicators (a b g) (p : Port) : (p.announce a b g).indicators = p.indicators := by
  unfold Port.announce; split <;> rfl

@[simp] theorem Port.addSnapshot_indicators (now keys) (p : Port) :
    (p.addSnapshot now keys).indicators = p.indicators := by
  unfold Port.addSnapshot; split <;> rfl

@[simp] theorem Port.addPointer_indicators (now r) (p : Port) : (p.addPointer now r).indicators = p.indicators := by
  unfold Port.addPointer; (repeat' split) <;> rfl

@[simp] theorem Port.holdReport_indicators (r) (p : Port) : (p.holdReport r).indicators = p.indicators := by
  unfold Port.holdReport; split <;> rfl

@[simp] theorem Port.holdButtons_indicators (b) (p : Port) : (p.holdButtons b).indicators = p.indicators := by
  unfold Port.holdButtons; split <;> rfl

@[simp] theorem Port.dropHeldButtons_indicators (p : Port) : p.dropHeldButtons.indicators = p.indicators := by
  unfold Port.dropHeldButtons; split <;> rfl

@[simp] theorem Port.takePointer_indicators (now r) (p : Port) : (p.takePointer now r).indicators = p.indicators := by
  unfold Port.takePointer; split <;> simp

@[simp] theorem Port.tellReleases_indicators (now ks left) (p : Port) :
    (p.tellReleases now ks left).indicators = p.indicators := by
  unfold Port.tellReleases; (repeat' split) <;> simp

@[simp] theorem Port.tellReleaseAll_indicators (now b) (p : Port) :
    (p.tellReleaseAll now b).indicators = p.indicators := by
  unfold Port.tellReleaseAll; dsimp only; (repeat' split) <;> simp

@[simp] theorem Port.refuseWake_indicators (p : Port) : p.refuseWake.indicators = p.indicators :=
  p.dropHeldButtons_indicators

@[simp] theorem Port.failWake_indicators (p : Port) : p.failWake.indicators = p.indicators :=
  p.dropHeldButtons_indicators

@[simp] theorem Port.startAttempt_indicators (now k) (p : Port) : (p.startAttempt now k).indicators = p.indicators := by
  unfold Port.startAttempt; rfl

@[simp] theorem Port.dropPress_indicators (p : Port) : p.dropPress.indicators = p.indicators := by
  unfold Port.dropPress; rfl
@[simp] theorem Port.stallOut_indicators (p : Port) : p.stallOut.indicators = p.indicators := by
  unfold Port.stallOut; rfl
@[simp] theorem Port.suspendAt_indicators (now) (p : Port) : (p.suspendAt now).indicators = p.indicators := by
  unfold Port.suspendAt; rfl
@[simp] theorem Port.zeroCounters_indicators (p : Port) : p.zeroCounters.indicators = p.indicators := by
  unfold Port.zeroCounters; rfl

@[simp] theorem Port.pollKeys_indicators (now) (p : Port) : (p.pollKeys now).indicators = p.indicators := by
  unfold Port.pollKeys; split <;> rfl

@[simp] theorem Port.pollPointer_indicators (now) (p : Port) : (p.pollPointer now).indicators = p.indicators := by
  unfold Port.pollPointer; split <;> rfl

@[simp] theorem Port.replay_indicators (now) (l : List KeyEvent) (keys) (p : Port) :
    (Port.replay now keys l p).indicators = p.indicators := by
  induction l generalizing keys p with
  | nil => rfl
  | cons e l ih => cases e <;> simp [Port.replay, ih]

@[simp] theorem Port.resumeAt_indicators (now) (p : Port) : (p.resumeAt now).indicators = p.indicators := by
  unfold Port.resumeAt; dsimp only; split <;> simp

/-! ### Shared operations -/

@[simp] theorem mirrored_raise (e) : Mirrored (raise e s) ↔ Mirrored s := by
  unfold raise
  rw [mirrored_setPorts (by simp), mirrored_setMgmt]

@[simp] theorem mirrored_changeTables (tb) : Mirrored (changeTables tb s) ↔ Mirrored s := by
  unfold changeTables; simp

@[simp] theorem mirrored_clearBelief (n) : Mirrored (clearBelief n s) ↔ Mirrored s := Iff.rfl

@[simp] theorem mirrored_releaseBelief (n) : Mirrored (releaseBelief n s) ↔ Mirrored s := by
  unfold releaseBelief; simp

@[simp] theorem mirrored_recomputeFrames : Mirrored (recomputeFrames s) ↔ Mirrored s := Iff.rfl
@[simp] theorem mirrored_syncBlanked : Mirrored (syncBlanked s) ↔ Mirrored s := Iff.rfl
@[simp] theorem mirrored_setLockRecord (l) : Mirrored (setLockRecord l s) ↔ Mirrored s := Iff.rfl
@[simp] theorem mirrored_setCandidate (c) : Mirrored (setCandidate c s) ↔ Mirrored s := Iff.rfl
@[simp] theorem mirrored_clearMatcher : Mirrored (clearMatcher s) ↔ Mirrored s := Iff.rfl
@[simp] theorem mirrored_clearRemainder : Mirrored (clearRemainder s) ↔ Mirrored s := Iff.rfl

/-- A fold keeps the agreement when each of its steps does. -/
theorem Mirrored.foldl {α : Type} {f : State → α → State} (hf : ∀ s a, Mirrored s → Mirrored (f s a)) (l : List α)
    (h : Mirrored s) : Mirrored (l.foldl f s) := by
  induction l generalizing s with
  | nil => exact h
  | cons a l ih => exact ih (hf s a h)

/-! ### Alerts -/

@[simp] theorem mirrored_setAlertList (l) : Mirrored (setAlertList l s) ↔ Mirrored s := by
  unfold setAlertList; split <;> simp

@[simp] theorem mirrored_setSource (n src) : Mirrored (setSource n src s) ↔ Mirrored s := Iff.rfl

@[simp] theorem mirrored_freshEvaluate (n) : Mirrored (freshEvaluate n s) ↔ Mirrored s := by
  unfold freshEvaluate; simp

@[simp] theorem mirrored_acknowledge (n) : Mirrored (acknowledge n s) ↔ Mirrored s :=
  mirrored_setAlertList _

@[simp] theorem mirrored_dropAlert (n) : Mirrored (dropAlert n s) ↔ Mirrored s :=
  mirrored_setAlertList _

@[simp] theorem mirrored_rotateTo (c) : Mirrored (rotateTo c s) ↔ Mirrored s := by
  unfold rotateTo; split <;> simp

@[simp] theorem mirrored_freshQuiet (n) : Mirrored (freshQuiet s n) ↔ Mirrored s := by
  unfold freshQuiet; simp

theorem Mirrored.resetAlerts (h : Mirrored s) : Mirrored (resetAlerts s) := by
  have h1 : Mirrored (computers.foldl freshQuiet (s.setAlerts { s.alerts with list := [], rotation := computers })) :=
    Mirrored.foldl (fun _ _ => (mirrored_freshQuiet _).2) _ h
  unfold Machine.resetAlerts
  dsimp only
  split
  · exact h1
  · exact (mirrored_raise _).2 h1

/-! ### Type-out -/

@[simp] theorem mirrored_releaseTyped (n c) : Mirrored (releaseTyped n c s) ↔ Mirrored s := by
  unfold releaseTyped; dsimp only; split <;> simp

@[simp] theorem mirrored_releaseIfPressed : Mirrored (releaseIfPressed s) ↔ Mirrored s := by
  unfold releaseIfPressed; (repeat' split) <;> simp

@[simp] theorem mirrored_endTypeout (e) : Mirrored (endTypeout e s) ↔ Mirrored s := by
  unfold endTypeout; split <;> simp

@[simp] theorem mirrored_takeUp : Mirrored (takeUp s) ↔ Mirrored s := by
  unfold takeUp; dsimp only; split <;> simp

@[simp] theorem mirrored_enterActive : Mirrored (enterActive s) ↔ Mirrored s := by
  unfold enterActive; simp

@[simp] theorem mirrored_enterWaitingRelease : Mirrored (enterWaitingRelease s) ↔ Mirrored s := by
  unfold enterWaitingRelease; dsimp only; split <;> simp

@[simp] theorem mirrored_typeoutMark : Mirrored (typeoutMark s) ↔ Mirrored s := by
  unfold typeoutMark; split <;> simp

@[simp] theorem mirrored_typeoutWakeLost (n) : Mirrored (typeoutWakeLost n s) ↔ Mirrored s := by
  unfold typeoutWakeLost; split <;> simp

@[simp] theorem mirrored_typeoutLeftReady (n) : Mirrored (typeoutLeftReady n s) ↔ Mirrored s := by
  unfold typeoutLeftReady; split <;> simp

@[simp] theorem mirrored_typeoutLinkLost (n) : Mirrored (typeoutLinkLost n s) ↔ Mirrored s := by
  unfold typeoutLinkLost; split <;> simp

@[simp] theorem mirrored_typeoutReady (n) : Mirrored (typeoutReady n s) ↔ Mirrored s := by
  unfold typeoutReady; split <;> simp

@[simp] theorem mirrored_pressCharacter (n e) : Mirrored (pressCharacter n e s) ↔ Mirrored s := by
  unfold pressCharacter; simp

@[simp] theorem mirrored_pressNext (n) : Mirrored (pressNext n s) ↔ Mirrored s := by
  unfold pressNext; dsimp only; (repeat' split) <;> simp

@[simp] theorem mirrored_releaseDue (n c next) : Mirrored (releaseDue n c next s) ↔ Mirrored s := by
  unfold releaseDue; simp

/-! ### Wakes -/

@[simp] theorem mirrored_refuseWake (n) : Mirrored (refuseWake n s) ↔ Mirrored s := by
  unfold refuseWake; simp

@[simp] theorem mirrored_startWake (n) : Mirrored (startWake n s) ↔ Mirrored s := by
  unfold startWake; simp

@[simp] theorem mirrored_wakeRequest (n) : Mirrored (wakeRequest n s) ↔ Mirrored s := by
  unfold wakeRequest; (repeat' split) <;> simp

@[simp] theorem mirrored_deferredWake (n) : Mirrored (deferredWake n s) ↔ Mirrored s := by
  unfold deferredWake; dsimp only; split <;> simp

@[simp] theorem mirrored_failWake (n) : Mirrored (failWake n s) ↔ Mirrored s := by
  unfold failWake; simp

@[simp] theorem mirrored_issueWakes (l) : Mirrored (issueWakes l s) ↔ Mirrored s := by
  induction l generalizing s with
  | nil => exact Iff.rfl
  | cons n l ih => unfold issueWakes; dsimp only; (repeat' split) <;> simp [ih]

/-! ### Pointer -/

@[simp] theorem mirrored_handAbsolute (n pos wheel) : Mirrored (handAbsolute n pos wheel s) ↔ Mirrored s := by
  unfold handAbsolute; dsimp only; split <;> simp

@[simp] theorem mirrored_considerReport (wheel) : Mirrored (considerReport wheel s) ↔ Mirrored s := by
  unfold considerReport; (repeat' split) <;> simp

@[simp] theorem mirrored_considerPosition : Mirrored (considerPosition s) ↔ Mirrored s := by
  unfold considerPosition; split <;> simp

@[simp] theorem mirrored_placeAt (pos t n) : Mirrored (placeAt pos t n s) ↔ Mirrored s := Iff.rfl

@[simp] theorem mirrored_setMode (m) : Mirrored (setMode m s) ↔ Mirrored s := by
  cases m <;> exact Iff.rfl

@[simp] theorem mirrored_seatFor (n) : Mirrored (seatFor n s) ↔ Mirrored s := by
  unfold seatFor; (repeat' split) <;> simp

@[simp] theorem mirrored_seatFirst : Mirrored (seatFirst s) ↔ Mirrored s := by
  unfold seatFirst; (repeat' split) <;> simp

@[simp] theorem mirrored_modeFromSeat : Mirrored (modeFromSeat s) ↔ Mirrored s := by
  unfold modeFromSeat; (repeat' split) <;> simp

@[simp] theorem mirrored_reseatPlace : Mirrored (reseatPlace s).1 ↔ Mirrored s := by
  unfold reseatPlace; (repeat' split) <;> simp

/-! ### Focus changes: step 4 brings the value into agreement -/

@[simp] theorem mirrored_setFocusTo (n) : Mirrored (setFocusTo n s) := by
  unfold setFocusTo; dsimp only; split <;> simp

@[simp] theorem mirrored_wakeOnFocus (n) : Mirrored (wakeOnFocus n s) ↔ Mirrored s := by
  unfold wakeOnFocus; (repeat' split) <;> simp

@[simp] theorem mirrored_announceFocus : Mirrored (announceFocus s) ↔ Mirrored s := by
  unfold announceFocus; simp

theorem Mirrored.focusChange (n) (h : Mirrored s) : Mirrored (focusChange n s) := by
  unfold Machine.focusChange; split <;> simp [h]

theorem Mirrored.focusChangePlaced (n handed) (h : Mirrored s) : Mirrored (focusChangePlaced n handed s) := by
  unfold Machine.focusChangePlaced; split <;> simp [h]

theorem Mirrored.actOnReseat (o) (h : Mirrored s) : Mirrored (actOnReseat o s) := by
  unfold Machine.actOnReseat; (repeat' split) <;> simp [h, Mirrored.focusChangePlaced]

theorem Mirrored.reseat (h : Mirrored s) : Mirrored (reseat s) :=
  mirrored_considerPosition.2 (Mirrored.actOnReseat _ (mirrored_reseatPlace.2 h))

theorem Mirrored.focusMark (h : Mirrored s) : Mirrored (focusMark s) := by
  unfold Machine.focusMark; (repeat' split) <;> simp [h, Mirrored.focusChangePlaced]

theorem mirrored_focusAtDeskReset : Mirrored (focusAtDeskReset s) := by
  unfold focusAtDeskReset; simp

/-! ### Receivers of key and button events, and motion -/

@[simp] theorem mirrored_deliverPress (n b k) : Mirrored (deliverPress n b k s) ↔ Mirrored s := by
  unfold deliverPress sendPress queuePress; dsimp only; (repeat' split) <;> simp

@[simp] theorem mirrored_wakeOnInput (n) : Mirrored (wakeOnInput n s) ↔ Mirrored s := by
  unfold wakeOnInput; split <;> simp

theorem Mirrored.focusKeyPress (k) (h : Mirrored s) : Mirrored (focusKeyPress k s) := by
  refine Mirrored.foldl (fun u n hu => ?_) _ ?_
  · unfold pressForMember; split <;> simp [hu]
  · unfold pressForFocus; split <;> simp [h]

@[simp] theorem mirrored_releaseAt (k n) : Mirrored (releaseAt k s n) ↔ Mirrored s := by
  unfold releaseAt; dsimp only; split <;> simp

theorem Mirrored.focusKeyRelease (k mark) (h : Mirrored s) : Mirrored (focusKeyRelease k mark s) := by
  have h1 : Mirrored (computers.foldl (releaseAt k) s) := Mirrored.foldl (fun _ _ => (mirrored_releaseAt _ _).2) _ h
  unfold Machine.focusKeyRelease
  dsimp only
  split
  · exact h1.focusMark
  · exact h1

@[simp] theorem mirrored_tellButtons (n) : Mirrored (tellButtons n s) ↔ Mirrored s := by
  unfold tellButtons buttonAbsolute; (repeat' split) <;> simp

@[simp] theorem mirrored_deliverButton (n b) : Mirrored (deliverButton n b s) ↔ Mirrored s := by
  unfold deliverButton; dsimp only; (repeat' split) <;> simp

@[simp] theorem mirrored_focusButtonPress (b) : Mirrored (focusButtonPress b s) ↔ Mirrored s := by
  unfold focusButtonPress; split <;> simp

@[simp] theorem mirrored_buttonReleaseAt (b n) : Mirrored (buttonReleaseAt b s n) ↔ Mirrored s := by
  unfold buttonReleaseAt; dsimp only; split <;> simp

theorem Mirrored.focusButtonRelease (b mark) (h : Mirrored s) : Mirrored (focusButtonRelease b mark s) := by
  have h1 : Mirrored (computers.foldl (buttonReleaseAt b) s) :=
    Mirrored.foldl (fun _ _ => (mirrored_buttonReleaseAt _ _).2) _ h
  unfold Machine.focusButtonRelease
  dsimp only
  split
  · exact h1.focusMark
  · exact h1

@[simp] theorem mirrored_forwardRelative (dx dy wheel) : Mirrored (forwardRelative dx dy wheel s) ↔ Mirrored s := by
  unfold forwardRelative; dsimp only; (repeat' split) <;> simp

@[simp] theorem mirrored_setAxis (a p) : Mirrored (setAxis a p s) ↔ Mirrored s := by
  cases a <;> exact Iff.rfl

theorem Mirrored.cross (a p t n) (h : Mirrored s) : Mirrored (cross a p t n s) := by
  unfold Machine.cross wakeOnGlide
  dsimp only
  split
  · simpa using h
  · refine Mirrored.focusChangePlaced _ _ ?_
    split <;> simpa using h

theorem Mirrored.moveAxis (a step) (h : Mirrored s) : Mirrored (moveAxis a step s) := by
  unfold Machine.moveAxis; dsimp only; (repeat' split) <;> simp [h, Mirrored.cross]

theorem Mirrored.motionItem (dx dy wheel c) (h : Mirrored s) : Mirrored (motionItem dx dy wheel c s) := by
  unfold Machine.motionItem glideMotion
  split
  · exact (mirrored_considerReport _).2 ((h.moveAxis _ _).moveAxis _ _)
  · exact (mirrored_forwardRelative _ _ _).2 h
  · exact (mirrored_forwardRelative _ _ _).2 h

/-! ### Broadcast, park, lock -/

@[simp] theorem mirrored_setBroadcast (n b) : Mirrored (setBroadcast n b s) ↔ Mirrored s := by
  unfold setBroadcast; simp

@[simp] theorem mirrored_removeBroadcast (n) : Mirrored (removeBroadcast n s) ↔ Mirrored s := by
  unfold removeBroadcast; (repeat' split) <;> simp

theorem Mirrored.parkSteps (n) (h : Mirrored s) : Mirrored (parkSteps n s) := by
  unfold Machine.parkSteps leaveParked; split <;> simp [h, Mirrored.focusChange]

theorem Mirrored.focusAtLock (h : Mirrored s) : Mirrored (focusAtLock s) :=
  Mirrored.foldl (fun _ _ => (mirrored_releaseBelief _).2) _ h

/-! ### Screens and peeks -/

theorem Mirrored.assignScreen (sc a) (h : Mirrored s) : Mirrored (assignScreen sc a s) := by
  unfold Machine.assignScreen
  split
  · exact h
  · exact Mirrored.reseat (s := putDisplayed sc a s) h

theorem Mirrored.setRequested (sc a) (h : Mirrored s) : Mirrored (setRequested sc a s) := by
  unfold Machine.setRequested
  split
  · exact h
  · exact h.assignScreen sc a

@[simp] theorem mirrored_closePeek (sc) : Mirrored (closePeek sc s) ↔ Mirrored s := by
  unfold closePeek; simp

theorem Mirrored.endPeek (sc) (h : Mirrored s) : Mirrored (endPeek sc s) := by
  unfold Machine.endPeek; split <;> simp [h, Mirrored.assignScreen]

theorem Mirrored.endPeekQuiet (sc) (h : Mirrored s) : Mirrored (endPeekQuiet s sc) := by
  unfold Machine.endPeekQuiet putDisplayed; (repeat' split) <;> simp [h]

theorem Mirrored.endAllPeeks (h : Mirrored s) : Mirrored (endAllPeeks s) :=
  Mirrored.foldl (fun _ sc hu => hu.endPeek sc) _ h

theorem Mirrored.startPeek (sc c) (h : Mirrored s) : Mirrored (startPeek sc c s) := by
  unfold Machine.startPeek; simp [h, Mirrored.assignScreen]

theorem Mirrored.retargetPeek (sc c p) (h : Mirrored s) : Mirrored (retargetPeek sc c p s) := by
  unfold Machine.retargetPeek; dsimp only; split <;> simp [h, Mirrored.assignScreen]

theorem Mirrored.displayPending (sc) (h : Mirrored s) : Mirrored (displayPending sc s) := by
  unfold Machine.displayPending; split <;> simp [h, Mirrored.reseat]

theorem Mirrored.doDisplayDetach (sc) (h : Mirrored s) : Mirrored (doDisplayDetach sc s) := by
  unfold Machine.doDisplayDetach settleFrames
  split <;> simp [h, Mirrored.reseat, Mirrored.displayPending]

theorem Mirrored.doDisplayAttach (sc p) (h : Mirrored s) : Mirrored (doDisplayAttach sc p s) := by
  unfold Machine.doDisplayAttach; simp [h, Mirrored.reseat, Mirrored.doDisplayDetach]

theorem Mirrored.doFrameStart (sc) (h : Mirrored s) : Mirrored (doFrameStart sc s) := by
  have h1 : Mirrored (composeScreen sc (takePending sc s)) := by
    unfold composeScreen takePending; split <;> simpa using h
  unfold Machine.doFrameStart
  dsimp only
  split
  · split
    · exact h1.reseat
    · exact h1
  · exact h

theorem Mirrored.lockConsole (h : Mirrored s) : Mirrored (lockConsole s) := by
  unfold Machine.lockConsole; simp [h, Mirrored.focusAtLock, Mirrored.endAllPeeks]

@[simp] theorem mirrored_unlockConsole : Mirrored (unlockConsole s) ↔ Mirrored s := by
  unfold unlockConsole; simp

/-! ### Actions -/

theorem Mirrored.actPreset (n) (h : Mirrored s) : Mirrored (actPreset n s) := by
  unfold Machine.actPreset
  dsimp only
  split
  · exact h
  · split
    · exact h
    · refine Mirrored.foldl (fun u sc hu => ?_) _ ((mirrored_changeTables _).2 h)
      unfold presetScreen
      split
      · exact hu
      · exact hu.setRequested _ _

theorem Mirrored.actParkToggle (n) (h : Mirrored s) : Mirrored (actParkToggle n s) := by
  unfold Machine.actParkToggle
  dsimp only
  (repeat' split) <;> simp [h, Mirrored.reseat, Mirrored.parkSteps]

theorem Mirrored.actBroadcastClear (h : Mirrored s) : Mirrored (actBroadcastClear s) :=
  Mirrored.foldl (fun _ _ => (mirrored_removeBroadcast _).2) _ h

theorem Mirrored.actTypeText (h : Mirrored s) : Mirrored (actTypeText s) := by
  unfold Machine.actTypeText; dsimp only; (repeat' split) <;> simp [h]

theorem Mirrored.actGoAlert (h : Mirrored s) : Mirrored (actGoAlert s) := by
  unfold Machine.actGoAlert goToAlert; (repeat' split) <;> simp [h, Mirrored.focusChange]

/-- The actions a hotkey or a request runs keep the lamps in agreement (R105). -/
theorem Mirrored.runAction (a x y) (h : Mirrored s) : Mirrored (runAction a x y s) := by
  cases a <;> simp only [Machine.runAction]
  case nothing => exact h
  case focus => unfold actFocus; (repeat' split) <;> simp [h, Mirrored.focusChange]
  case focusNext => unfold actFocusNext focusFound; split <;> simp [h, Mirrored.focusChange]
  case focusPrev => unfold actFocusPrev focusFound; split <;> simp [h, Mirrored.focusChange]
  case focusBack => unfold actFocusBack; (repeat' split) <;> simp [h, Mirrored.focusChange]
  case broadcastToggle => unfold actBroadcastToggle; (repeat' split) <;> simp [h]
  case broadcastClear => exact h.actBroadcastClear
  case showChannel => unfold actShow; (repeat' split) <;> simp [h, Mirrored.setRequested]
  case peek =>
    unfold actPeek
    (repeat' split) <;> simp [h, Mirrored.endPeek, Mirrored.startPeek, Mirrored.retargetPeek]
  case preset => exact h.actPreset x
  case parkToggle => exact h.actParkToggle x
  case wake => unfold actWake; (repeat' split) <;> simp [h]
  case wakeAll => unfold actWakeAll; (repeat' split) <;> simp [h]
  case lock => unfold actLock; split <;> simp [h, Mirrored.lockConsole]
  case typeText => exact h.actTypeText
  case goAlert => exact h.actGoAlert
  case command => unfold actCommand; split <;> simp [h]

/-! ### The lock unit and the console devices -/

theorem Mirrored.runEntry (e) (h : Mirrored s) : Mirrored (runEntry e s) := by
  unfold Machine.runEntry; split
  · exact h
  · exact h.runAction _ _ _

theorem Mirrored.lockKeyPress (k) (h : Mirrored s) : Mirrored (lockKeyPress k s) := by
  unfold Machine.lockKeyPress
  split
  · unfold matcherPress followerPress handOnPress
    (repeat' split) <;> simp [h, Mirrored.runEntry, Mirrored.focusKeyPress]
  · unfold lockedPress comparePress failAttempt
    dsimp only
    (repeat' split) <;> simp [h]
  · exact h

theorem Mirrored.markAlone (m) (h : Mirrored s) : Mirrored (markAlone m s) := by
  unfold Machine.markAlone; split <;> simp [h, Mirrored.focusMark]

@[simp] theorem mirrored_markTypeout (m) : Mirrored (markTypeout m s) ↔ Mirrored s := by
  unfold markTypeout; split <;> simp

theorem Mirrored.lockKeyRelease (k m) (h : Mirrored s) : Mirrored (lockKeyRelease k m s) := by
  unfold Machine.lockKeyRelease matcherRelease
  split <;> simp [h, Mirrored.markAlone, Mirrored.focusKeyRelease]

theorem Mirrored.lockButtonPress (b) (h : Mirrored s) : Mirrored (lockButtonPress b s) := by
  unfold Machine.lockButtonPress; split <;> simp [h]

theorem Mirrored.lockButtonRelease (b m) (h : Mirrored s) : Mirrored (lockButtonRelease b m s) := by
  unfold Machine.lockButtonRelease; split <;> simp [h, Mirrored.markAlone, Mirrored.focusButtonRelease]

theorem Mirrored.lockMotion (dx dy wheel c) (h : Mirrored s) : Mirrored (lockMotion dx dy wheel c s) := by
  unfold Machine.lockMotion; split <;> simp [h, Mirrored.motionItem]

theorem Mirrored.deviceRelease (c k) (h : Mirrored s) : Mirrored (deviceRelease c s k) := by
  unfold Machine.deviceRelease; dsimp only; split <;> simp [h, Mirrored.lockKeyRelease]

theorem Mirrored.devicePress (k) (h : Mirrored s) : Mirrored (devicePress s k) := by
  unfold Machine.devicePress; split <;> simp [h, Mirrored.lockKeyPress]

theorem Mirrored.deviceButtonRelease (c b) (h : Mirrored s) : Mirrored (deviceButtonRelease c s b) := by
  unfold Machine.deviceButtonRelease; dsimp only; split <;> simp [h, Mirrored.lockButtonRelease]

theorem Mirrored.deviceButtonPress (b) (h : Mirrored s) : Mirrored (deviceButtonPress s b) := by
  unfold Machine.deviceButtonPress; split <;> simp [h, Mirrored.lockButtonPress]

theorem Mirrored.takeKeySet (c o n) (h : Mirrored s) : Mirrored (takeKeySet c o n s) :=
  Mirrored.foldl (fun _ k hu => hu.devicePress k) _ (Mirrored.foldl (fun _ k hu => hu.deviceRelease c k) _ h)

theorem Mirrored.takeButtons (c o n dx dy wheel) (h : Mirrored s) : Mirrored (takeButtons c o n dx dy wheel s) := by
  have h1 : Mirrored ((setDiff o n).foldl (Machine.deviceButtonRelease c) s) :=
    Mirrored.foldl (fun _ b hu => hu.deviceButtonRelease c b) _ h
  refine Mirrored.foldl (fun _ b hu => hu.deviceButtonPress b) _ ?_
  unfold reportMotion
  split
  · exact h1
  · exact h1.lockMotion _ _ _ _

theorem Mirrored.doConsoleDetach (c) (h : Mirrored s) : Mirrored (doConsoleDetach c s) := by
  unfold Machine.doConsoleDetach; split <;> simp [h, Mirrored.takeKeySet, Mirrored.takeButtons]

theorem Mirrored.doConsoleAttach (c d) (h : Mirrored s) : Mirrored (doConsoleAttach c d s) := by
  have h1 : Mirrored (modConsolePort c (fun _ => classify d) (Machine.doConsoleDetach c s)) := h.doConsoleDetach c
  unfold Machine.doConsoleAttach
  dsimp only
  split
  · exact (mirrored_setConsole (Console.startOutputs_mirrored _)).2 h1
  all_goals exact h1

theorem Mirrored.doKeyboardReport (c r) (h : Mirrored s) : Mirrored (doKeyboardReport c r s) := by
  unfold Machine.doKeyboardReport; split <;> simp [h, Mirrored.takeKeySet]

theorem Mirrored.doPointerReport (c r) (h : Mirrored s) : Mirrored (doPointerReport c r s) := by
  unfold Machine.doPointerReport; split <;> simp [h, Mirrored.takeButtons]

theorem Mirrored.doIndicatorOutputEnd (c how a) (h : Mirrored s) : Mirrored (doIndicatorOutputEnd c how a s) := by
  unfold Machine.doIndicatorOutputEnd
  split
  · unfold endOutput
    split
    · exact (mirrored_setConsole (Console.startOutputAt_mirrored _ _)).2 h
    all_goals exact h
  · exact h

/-! ### Link events: a change of the stored indicators is taken up by `syncMirror` -/

theorem Mirrored.loseLink (n link) (h : Mirrored s) : Mirrored (loseLink n link s) := by
  unfold Machine.loseLink; split <;> simp [h]

theorem Mirrored.doComputerAttach (n) (h : Mirrored s) : Mirrored (doComputerAttach n s) := by
  unfold Machine.doComputerAttach; simp [h, Mirrored.loseLink]

theorem Mirrored.doIndicatorReport (n lamps) (h : Mirrored s) : Mirrored (doIndicatorReport n lamps s) := by
  unfold Machine.doIndicatorReport; split <;> simp [h]

end Sys2Proof.Machine
end

section
/-! ## What the commands keep

`Orderly` says what a command that is no console device's, no POWER_ON_RESET, FREEZE, SAVE or SAVE_COMPLETION and no UNLOCK
keeps; `Background` what releases, button events and motion of the console devices leave alone. -/

namespace Sys2Proof.Machine

/-- `t` has the waiting commands, the freeze set, the settings source and the store of `s`. -/
structure Settled (s t : State) : Prop where
  pending : t.pending = s.pending
  freezeSet : t.mgmt.freezeSet = s.mgmt.freezeSet
  source : t.mgmt.source = s.mgmt.source
  store : t.store = s.store

theorem Settled.refl (s : State) : Settled s s := ⟨rfl, rfl, rfl, rfl⟩

theorem Settled.trans {s t u : State} (h : Settled s t) (k : Settled t u) : Settled s u :=
  ⟨k.pending.trans h.pending, k.freezeSet.trans h.freezeSet, k.source.trans h.source, k.store.trans h.store⟩

theorem Quiet.settled {s t : State} (h : Quiet s t) : Settled s t :=
  ⟨h.pending, h.freezeSet, h.source, h.store⟩

theorem settled_foldl {α : Type} {f : State → α → State} (hf : ∀ s a, Settled s (f s a)) (l : List α) (s : State) :
    Settled s (l.foldl f s) := by
  induction l generalizing s with
  | nil => exact .refl s
  | cons a l ih => exact (hf s a).trans (ih _)

/-- `t` has the desk states and the devices' last sets of `s`. -/
structure SetsKept (s t : State) : Prop where
  deskKeys : t.console.deskKeys = s.console.deskKeys
  deskButtons : t.console.deskButtons = s.console.deskButtons
  keys : ∀ c : ConsoleNo, t.console.ports[c].keys = s.console.ports[c].keys
  buttons : ∀ c : ConsoleNo, t.console.ports[c].buttons = s.console.ports[c].buttons

theorem SetsKept.refl (s : State) : SetsKept s s := ⟨rfl, rfl, fun _ => rfl, fun _ => rfl⟩

theorem SetsKept.trans {s t u : State} (h : SetsKept s t) (k : SetsKept t u) : SetsKept s u :=
  ⟨k.deskKeys.trans h.deskKeys, k.deskButtons.trans h.deskButtons, fun c => (k.keys c).trans (h.keys c),
    fun c => (k.buttons c).trans (h.buttons c)⟩

theorem Quiet.setsKept {s t : State} (h : Quiet s t) : SetsKept s t :=
  ⟨h.deskKeys, h.deskButtons, h.keys, h.buttons⟩

/-- The console does not become UNLOCKED (R115, R118, R120). -/
def StaysLocked (s t : State) : Prop :=
  s.lock.state ≠ .unlocked → t.lock.state ≠ .unlocked

theorem staysLocked_of_eq {s t : State} (h : t.lock = s.lock) : StaysLocked s t :=
  fun hs => by rwa [h]

/-- What an ordinary command keeps: the settings, the desk states, the lock, and the lamps' agreement with their source. -/
structure Orderly (s t : State) : Prop where
  settled : Settled s t
  sets : SetsKept s t
  locked : StaysLocked s t
  mirrored : Mirrored s → Mirrored t

theorem Orderly.refl (s : State) : Orderly s s := ⟨.refl s, .refl s, id, id⟩

theorem Orderly.trans {s t u : State} (h : Orderly s t) (k : Orderly t u) : Orderly s u :=
  ⟨h.settled.trans k.settled, h.sets.trans k.sets, k.locked ∘ h.locked, k.mirrored ∘ h.mirrored⟩

theorem Quiet.orderly {s t : State} (h : Quiet s t) (hm : Mirrored s → Mirrored t) : Orderly s t :=
  ⟨h.settled, h.setsKept, staysLocked_of_eq h.lock, hm⟩

theorem orderly_foldl {α : Type} {f : State → α → State} (hf : ∀ s a, Orderly s (f s a)) (l : List α) (s : State) :
    Orderly s (l.foldl f s) := by
  induction l generalizing s with
  | nil => exact .refl s
  | cons a l ih => exact (hf s a).trans (ih _)

/-! ### Updates of one field, and the clock -/

/-- An update that leaves the settings, the console, the lock and what the lamps follow as they are. -/
theorem orderly_of_eq {s t : State} (hp : t.pending = s.pending) (hf : t.mgmt.freezeSet = s.mgmt.freezeSet)
    (hs : t.mgmt.source = s.mgmt.source) (ht : t.store = s.store) (hc : t.console = s.console) (hl : t.lock = s.lock)
    (hm : Mirrored s → Mirrored t) : Orderly s t :=
  ⟨⟨hp, hf, hs, ht⟩, ⟨by rw [hc], by rw [hc], fun _ => by rw [hc], fun _ => by rw [hc]⟩, staysLocked_of_eq hl, hm⟩

theorem orderly_setMatcher (s : State) (v) : Orderly s (s.setMatcher v) := orderly_of_eq rfl rfl rfl rfl rfl rfl id
theorem orderly_setChannels (s : State) (v) : Orderly s (s.setChannels v) := orderly_of_eq rfl rfl rfl rfl rfl rfl id
theorem orderly_setWakeAll (s : State) (v) : Orderly s (s.setWakeAll v) := orderly_of_eq rfl rfl rfl rfl rfl rfl id
theorem orderly_setTypeout (s : State) (v) : Orderly s (s.setTypeout v) := orderly_of_eq rfl rfl rfl rfl rfl rfl id
theorem orderly_elapse (s : State) (d) : Orderly s (s.elapse d) := orderly_of_eq rfl rfl rfl rfl rfl rfl id
theorem orderly_advanceTo (s : State) (d) : Orderly s (s.advanceTo d) := orderly_elapse s _

theorem orderly_setLock (s : State) {v : Lock} (h : v.state ≠ .unlocked ∨ v.state = s.lock.state) :
    Orderly s (s.setLock v) := by
  refine ⟨⟨rfl, rfl, rfl, rfl⟩, ⟨rfl, rfl, fun _ => rfl, fun _ => rfl⟩, fun hs => ?_, id⟩
  rcases h with h | h
  · exact h
  · exact fun e => hs (h.symm.trans e)

theorem orderly_modPort (s : State) (n : Computer) {f : Port → Port} (h : ∀ p, (f p).indicators = p.indicators) :
    Orderly s (s.modPort n f) :=
  (quiet_modPort n f s).orderly (mirrored_modPort n h).2

theorem orderly_raise (s : State) (e) : Orderly s (raise e s) :=
  (quiet_raise e s).orderly (mirrored_raise e).2

theorem orderly_recomputeFrames (s : State) : Orderly s (recomputeFrames s) :=
  (quiet_recomputeFrames s).orderly id

theorem orderly_reseat (s : State) : Orderly s (reseat s) :=
  (quiet_reseat s).orderly Mirrored.reseat

theorem orderly_changeTables (s : State) (tb) : Orderly s (changeTables tb s) :=
  Orderly.trans (t := (s.setTables tb).setMgmt { s.mgmt with generation := nextGeneration s.mgmt.generation })
    (orderly_of_eq rfl rfl rfl rfl rfl rfl id) (orderly_raise _ _)

theorem orderly_freshEvaluate (s : State) (n) : Orderly s (freshEvaluate n s) :=
  (quiet_freshEvaluate n s).orderly (mirrored_freshEvaluate n).2

theorem orderly_parkSteps (s : State) (n) : Orderly s (parkSteps n s) :=
  (quiet_parkSteps n s).orderly (Mirrored.parkSteps n)

theorem orderly_setRequested (s : State) (sc a) : Orderly s (setRequested sc a s) :=
  (quiet_setRequested sc a s).orderly (Mirrored.setRequested sc a)

theorem orderly_endTypeout (s : State) (e) : Orderly s (endTypeout e s) :=
  (quiet_endTypeout e s).orderly (mirrored_endTypeout e).2

theorem orderly_takeUp (s : State) : Orderly s (takeUp s) :=
  (quiet_takeUp s).orderly mirrored_takeUp.2

theorem orderly_issueWakes (l : List Computer) (s : State) : Orderly s (issueWakes l s) := by
  induction l generalizing s with
  | nil => exact orderly_setWakeAll s _
  | cons n l ih =>
    have h : Orderly s (wakeRequest n s) := (quiet_wakeRequest n s).orderly (mirrored_wakeRequest n).2
    unfold issueWakes
    dsimp only
    split
    · exact h.trans (orderly_setWakeAll _ _)
    · split
      · exact h.trans (ih _)
      · exact h.trans (orderly_setWakeAll _ _)

/-! ### Actions (R105) -/

/-- A lock record that is not UNLOCKED may be put in place of any. -/
theorem orderly_setLockRecord (s : State) {v : Lock} (h : v.state ≠ .unlocked) : Orderly s (setLockRecord v s) :=
  (orderly_setLock s (.inl h)).trans ((quiet_syncBlanked _).orderly id)

theorem orderly_lockConsole (s : State) : Orderly s (lockConsole s) := by
  have h1 : Orderly s (clearMatcher (endTypeout .cancelledLock (setLockRecord ⟨.locked, 0, 0, none⟩ s))) :=
    ((orderly_setLockRecord s (by simp)).trans (orderly_endTypeout _ _)).trans (orderly_setMatcher _ _)
  exact ((h1.trans ((quiet_endAllPeeks _).orderly Mirrored.endAllPeeks)).trans
    ((quiet_focusAtLock _).orderly Mirrored.focusAtLock)).trans (orderly_raise _ _)

theorem orderly_actShow (s : State) (sn c : Nat) : Orderly s (actShow sn c s) := by
  unfold actShow
  split
  · split
    · exact .refl s
    · exact (orderly_changeTables s _).trans (orderly_setRequested _ _ _)
  · exact .refl s

theorem orderly_actPreset (s : State) (n : Nat) : Orderly s (actPreset n s) := by
  unfold actPreset
  split
  · exact .refl s
  · dsimp only
    split
    · exact .refl s
    · refine (orderly_changeTables s _).trans (orderly_foldl (fun u sc => ?_) _ _)
      unfold presetScreen
      split
      · exact .refl u
      · exact orderly_setRequested u _ _

theorem orderly_actParkToggle (s : State) (n : Nat) : Orderly s (actParkToggle n s) := by
  unfold actParkToggle
  split
  · exact .refl s
  · dsimp only
    split
    · exact (((orderly_changeTables s _).trans (orderly_reseat _)).trans (orderly_freshEvaluate _ _)).trans
        (orderly_recomputeFrames _)
    · exact (((orderly_changeTables s _).trans (orderly_parkSteps _ _)).trans (orderly_reseat _)).trans
        (orderly_recomputeFrames _)

theorem orderly_actWakeAll (s : State) : Orderly s (actWakeAll s) := by
  unfold actWakeAll
  split
  · exact .refl s
  · split
    · exact .refl s
    · exact orderly_issueWakes _ s

theorem orderly_actLock (s : State) : Orderly s (actLock s) := by
  unfold actLock
  split
  · exact orderly_lockConsole s
  · exact .refl s

theorem orderly_actCommand (s : State) : Orderly s (actCommand s) := by
  unfold actCommand
  split
  · exact orderly_setMatcher s _
  · exact .refl s

theorem orderly_runAction (a : Action) (x y : Nat) (s : State) : Orderly s (runAction a x y s) := by
  have hm : Mirrored s → Mirrored (runAction a x y s) := Mirrored.runAction a x y
  cases a with
  | nothing => exact .refl s
  | focus => exact (quiet_actFocus x s).orderly hm
  | focusNext => exact (quiet_focusFound _ s).orderly hm
  | focusPrev => exact (quiet_focusFound _ s).orderly hm
  | focusBack => exact (quiet_actFocusBack s).orderly hm
  | broadcastToggle => exact (quiet_actBroadcastToggle x s).orderly hm
  | broadcastClear => exact (quiet_actBroadcastClear s).orderly hm
  | showChannel => exact orderly_actShow s x y
  | peek => exact (quiet_actPeek x y s).orderly hm
  | preset => exact orderly_actPreset s x
  | parkToggle => exact orderly_actParkToggle s x
  | wake => exact (quiet_actWake x s).orderly hm
  | wakeAll => exact orderly_actWakeAll s
  | lock => exact orderly_actLock s
  | typeText => exact (quiet_actTypeText s).orderly hm
  | goAlert => exact (quiet_actGoAlert s).orderly hm
  | command => exact orderly_actCommand s

/-! ### Requests -/

theorem orderly_setSlot (s : State) (p slot) : Orderly s (setSlot p slot s) :=
  orderly_modPort s p fun _ => rfl

theorem orderly_putReply (s : State) (p command tag st results) : Orderly s (putReply p command tag st results s) :=
  orderly_modPort s p fun _ => rfl

theorem orderly_answer (command r) (o : State × Option (Status × List Byte)) : Orderly o.1 (answer command r o) := by
  unfold answer
  split
  · exact .refl _
  · exact orderly_putReply _ _ _ _ _ _

/-- A request leaves the state, puts a refusal in the reply slot of its port, or is answered by its command's body
(R160, R161). -/
theorem serve_cases (command r formed a body) (s : State) :
    Orderly s (serve command r formed a body s) ∨
      serve command r formed a body s = answer command r (body (setSlot r.port .empty s)) := by
  unfold serve
  split
  · dsimp only
    split
    · exact .inl ((orderly_setSlot s _ _).trans (orderly_putReply _ _ _ _ _ _))
    · split
      · exact .inl ((orderly_setSlot s _ _).trans (orderly_putReply _ _ _ _ _ _))
      · exact .inr rfl
  · exact .inl (.refl s)

/-- A request whose body is orderly is. -/
theorem orderly_serve {command r formed a body} (h : ∀ u, Orderly u (body u).1) (s : State) :
    Orderly s (serve command r formed a body s) := by
  rcases serve_cases command r formed a body s with h1 | h1
  · exact h1
  · rw [h1]
    exact ((orderly_setSlot s _ _).trans (h _)).trans (orderly_answer _ _ _)

theorem orderly_actionBody {run : Nat → Nat → State → State} (h : ∀ x y u, Orderly u (run x y u)) (r u) :
    Orderly u (actionBody run r u).1 := by
  unfold actionBody
  split
  · exact h _ _ u
  · exact .refl u

theorem orderly_callAction {run : Nat → Nat → State → State} (h : ∀ x y u, Orderly u (run x y u)) (a s) :
    Orderly s (callAction a run s) := by
  cases a with
  | hotkey x y => exact h _ _ s
  | request r => exact orderly_serve (orderly_actionBody h r) s

theorem orderly_callTypeText (a s) : Orderly s (callTypeText a s) := by
  cases a with
  | hotkey x y => exact orderly_runAction .typeText 0 0 s
  | request r =>
    refine orderly_serve (fun u => ?_) s
    unfold typeTextBody
    split
    · exact orderly_actionBody (fun _ _ => orderly_runAction .typeText 0 0) r u
    · exact .refl u

/-! ### TABLE_WRITE (R166) -/

theorem orderly_afterComputer (old s) : Orderly s (afterComputer old s) := by
  have h1 : Orderly s (computers.foldl (afterParked old) s) := by
    refine orderly_foldl (fun u n => ?_) _ _
    unfold afterParked
    split
    · split
      · exact orderly_parkSteps u n
      · exact orderly_freshEvaluate u n
    · exact .refl u
  have h3 : ∀ u, Orderly u (computers.foldl (afterSource old) u) := by
    refine orderly_foldl (fun u n => ?_) _
    unfold afterSource
    split
    · exact orderly_freshEvaluate u n
    · exact .refl u
  unfold afterComputer
  dsimp only
  split
  · exact ((h1.trans (orderly_reseat _)).trans (h3 _)).trans (orderly_recomputeFrames _)
  · exact h1.trans (h3 _)

theorem orderly_afterWrite (w old s) : Orderly s (afterWrite w old s) := by
  unfold afterWrite
  split
  · exact orderly_afterComputer old s
  · split
    · exact .refl s
    · exact orderly_recomputeFrames s
  · exact Orderly.trans (t := s.setScreens (Vector.ofFn (layoutScreen old s))) ((quiet_setScreens s _).orderly id)
      (orderly_reseat _)
  · exact orderly_foldl (fun u sc => orderly_setRequested u sc _) _ s
  · unfold afterChannel
    split
    · exact (orderly_recomputeFrames s).trans (orderly_reseat _)
    · exact .refl s
  · exact orderly_setMatcher s _
  · unfold afterUnlock
    split
    · exact orderly_setLock s (.inr rfl)
    · exact .refl s
  all_goals exact .refl s

theorem orderly_writeTable (r w s) : Orderly s (writeTable r w s).1 := by
  unfold writeTable
  split
  · exact .refl s
  split
  · exact .refl s
  split
  · exact .refl s
  split
  · exact .refl s
  split
  · exact .refl s
  · exact (orderly_changeTables s _).trans (orderly_afterWrite w _ _)

theorem orderly_writeBody (r s) : Orderly s (writeBody r s).1 := by
  unfold writeBody
  split
  · exact .refl s
  · exact orderly_writeTable r _ s

/-! ### The other requests -/

theorem orderly_readBody (r s) : Orderly s (readBody r s).1 := by
  unfold readBody; split <;> exact .refl s

theorem orderly_depositBody (r s) : Orderly s (depositBody r s).1 := by
  unfold depositBody
  dsimp only
  split
  · exact .refl s
  · split
    · exact (orderly_setTypeout s _).trans (orderly_raise _ _)
    · exact .refl s

theorem orderly_clearBody (s) : Orderly s (clearBody s).1 := by
  unfold clearBody
  split
  · exact .refl s
  · exact (orderly_setTypeout s _).trans (orderly_raise _ _)

theorem orderly_setAlertList (l s) : Orderly s (setAlertList l s) :=
  (quiet_setAlertList l s).orderly (mirrored_setAlertList l).2

theorem orderly_setSummary (n v s) : Orderly s (setSummary n v s) :=
  Orderly.trans (t := s.setMgmt { s.mgmt with summaries := s.mgmt.summaries.set n v })
    (orderly_of_eq rfl rfl rfl rfl rfl rfl id) (orderly_modPort _ _ fun _ => Port.announce_indicators _ _ _ _)

theorem orderly_setMask (n v s) : Orderly s (setMask n v s) :=
  Orderly.trans (t := s.setMgmt { s.mgmt with masks := s.mgmt.masks.set n v })
    (orderly_of_eq rfl rfl rfl rfl rfl rfl id) (orderly_modPort _ _ fun _ => Port.announce_indicators _ _ _ _)

theorem orderly_eventsBody (r s) : Orderly s (eventsBody r s).1 := by
  unfold eventsBody
  split
  · exact .refl s
  · dsimp only
    split
    · exact orderly_setSummary _ _ s
    · exact (orderly_setSummary _ _ s).trans (orderly_setMask _ _ _)

theorem orderly_zeroCounters (s : State) :
    Orderly s (s.setPorts (Vector.ofFn fun n : Computer => s.ports[n].zeroCounters)) :=
  (quiet_setPorts s _).orderly (mirrored_setPorts (by simp)).2

theorem orderly_deskReset (s) : Orderly s (deskReset s) := by
  have h1 : Orderly s (screenNos.foldl endPeekQuiet (clearMatcher (endTypeout .cancelledFocus s))) :=
    ((orderly_endTypeout s _).trans (orderly_setMatcher _ _)).trans
      (orderly_foldl (fun u sc => (quiet_endPeekQuiet u sc).orderly (Mirrored.endPeekQuiet sc)) _ _)
  have h2 := h1.trans ((quiet_focusAtDeskReset _).orderly fun _ => mirrored_focusAtDeskReset)
  have h3 := h2.trans (orderly_foldl (fun u _ => orderly_reseat u) (quietScreens s) _)
  have h4 := h3.trans ((quiet_resetAlerts _).orderly Mirrored.resetAlerts)
  unfold deskReset
  exact ((h4.trans (orderly_zeroCounters _)).trans (orderly_setWakeAll _ _)).trans (orderly_recomputeFrames _)

/-! ### Timers, channels and link events -/

theorem orderly_doLockoutExpiry (s) : Orderly s (doLockoutExpiry s) := by
  unfold doLockoutExpiry
  split
  · exact .refl s
  · exact ((orderly_advanceTo s _).trans (orderly_setLockRecord _ (by simp))).trans (orderly_raise _ _)

theorem orderly_setChannel (c r s) : Orderly s (setChannel c r s) := by
  unfold setChannel
  dsimp only
  split
  · exact orderly_setChannels s _
  · exact (orderly_setChannels s _).trans (orderly_raise _ _)

theorem orderly_pressNext (n s) : Orderly s (pressNext n s) := by
  unfold pressNext
  dsimp only
  split
  · split
    · exact ((orderly_takeUp _).trans (((quiet_setBelief _ _ _).orderly id).trans
        (orderly_modPort _ _ (Port.addSnapshot_indicators _ _)))).trans (orderly_setTypeout _ _)
    · exact orderly_takeUp _
  · exact orderly_takeUp _

theorem orderly_doTypeOutPress (s) : Orderly s (doTypeOutPress s) := by
  unfold doTypeOutPress
  split
  · split
    · exact (orderly_advanceTo s _).trans (orderly_pressNext _ _)
    · exact .refl s
  · exact .refl s

theorem orderly_doTypeOutReleaseDue (s) : Orderly s (doTypeOutReleaseDue s) := by
  unfold doTypeOutReleaseDue
  split
  · exact (((orderly_advanceTo s _).trans ((quiet_setBelief _ _ _).orderly id)).trans
      (orderly_modPort _ _ (Port.addSnapshot_indicators _ _))).trans
        ((orderly_setTypeout _ _).trans (orderly_takeUp _))
  · exact .refl s

theorem orderly_doStallExpiry (n s) : Orderly s (doStallExpiry n s) := by
  unfold doStallExpiry
  split
  · exact .refl s
  · exact (((orderly_advanceTo s _).trans (orderly_modPort _ n Port.stallOut_indicators)).trans
      ((quiet_clearBelief n _).orderly id)).trans
        (((quiet_typeoutLeftReady n _).orderly (mirrored_typeoutLeftReady n).2).trans (orderly_raise _ _))

theorem orderly_doSettleExpiry (n s) : Orderly s (doSettleExpiry n s) := by
  unfold doSettleExpiry
  split
  · exact .refl s
  · rename_i due _
    have h1 : Orderly s ((s.advanceTo due).modPort n fun p => { p with settle := none }) :=
      (orderly_advanceTo s due).trans (orderly_modPort _ n fun _ => rfl)
    dsimp only
    split
    · exact h1.trans ((quiet_deferredWake n _).orderly (mirrored_deferredWake n).2)
    · exact h1

theorem orderly_doSignallingEnd (n s) : Orderly s (doSignallingEnd n s) := by
  unfold doSignallingEnd
  split
  · exact (orderly_advanceTo s _).trans (orderly_modPort _ n fun _ => rfl)
  · exact .refl s

theorem orderly_doWakeWindowExpiry (n s) : Orderly s (doWakeWindowExpiry n s) := by
  unfold doWakeWindowExpiry
  split
  · dsimp only
    split
    · exact (orderly_advanceTo s _).trans ((quiet_failWake n _).orderly (mirrored_failWake n).2)
    · exact (orderly_advanceTo s _).trans (orderly_modPort _ n fun _ => rfl)
  · exact .refl s

theorem mirrored_doConfigure {n b} {s : State} (h : Mirrored s) : Mirrored (doConfigure n b s) := by
  unfold doConfigure; split <;> simpa using h

theorem mirrored_doKeyboardPoll {n} {s : State} (h : Mirrored s) : Mirrored (doKeyboardPoll n s) := by
  unfold doKeyboardPoll; split <;> simpa using h

theorem mirrored_doPointerPoll {n} {s : State} (h : Mirrored s) : Mirrored (doPointerPoll n s) := by
  unfold doPointerPoll; split <;> simpa using h

theorem mirrored_doSuspend {n} {s : State} (h : Mirrored s) : Mirrored (doSuspend n s) := by
  unfold doSuspend; split <;> simpa using h

theorem mirrored_doResume {n} {s : State} (h : Mirrored s) : Mirrored (doResume n s) := by
  unfold doResume; dsimp only; (repeat' split) <;> simpa using h

theorem orderly_doReplyRead (p s) : Orderly s (doReplyRead p s) := by
  unfold doReplyRead
  split
  · exact orderly_modPort s p fun _ => rfl
  · exact .refl s

theorem orderly_doNotificationTake (p s) : Orderly s (doNotificationTake p s) := by
  unfold doNotificationTake
  split
  · split
    · exact .refl s
    · exact orderly_modPort s p fun _ => rfl
  · exact .refl s

/-- The end of an indicator output leaves the device's last sets as they are (R17). -/
theorem setsKept_doIndicatorOutputEnd (c how a) (s : State) : SetsKept s (doIndicatorOutputEnd c how a s) := by
  have keyboard : ∀ keys shown flight lamps flight', s.console.ports[c] = .keyboard keys shown flight →
      SetsKept s (modConsolePort c (fun _ => .keyboard keys lamps flight') s) := by
    intro keys shown flight lamps flight' hp
    have hk : ∀ d : ConsoleNo,
        (modConsolePort c (fun _ => .keyboard keys lamps flight') s).console.ports[d].keys = s.console.ports[d].keys ∧
        (modConsolePort c (fun _ => .keyboard keys lamps flight') s).console.ports[d].buttons =
          s.console.ports[d].buttons := by
      intro d
      by_cases h : c = d
      · subst h
        rw [hp]
        simp [modConsolePort, ConsolePort.keys, ConsolePort.buttons]
      · have h1 : c.val ≠ d.val := fun e => h (Fin.ext e)
        simp [modConsolePort, h1]
    exact ⟨rfl, rfl, fun d => (hk d).1, fun d => (hk d).2⟩
  have start : ∀ (u : State), SetsKept u (u.setConsole (u.console.startOutputAt c)) := by
    intro u
    refine ⟨rfl, rfl, fun d => ?_, fun d => ?_⟩ <;>
    · simp only [State.setConsole_console, Fin.getElem_fin, Console.startOutputAt_ports]
      split <;> simp
  unfold doIndicatorOutputEnd
  split
  · rename_i keys shown sent hp
    unfold endOutput
    split
    · exact (keyboard _ _ _ _ _ hp).trans (start _)
    all_goals exact keyboard _ _ _ _ _ hp
  · exact .refl s

theorem settled_doIndicatorOutputEnd (c how a) (s : State) :
    Settled s (doIndicatorOutputEnd c how a s) ∧ (doIndicatorOutputEnd c how a s).lock = s.lock := by
  unfold doIndicatorOutputEnd
  split
  · unfold endOutput
    split <;> exact ⟨⟨rfl, rfl, rfl, rfl⟩, rfl⟩
  · exact ⟨.refl s, rfl⟩

theorem orderly_doIndicatorOutputEnd (c how a) (s : State) : Orderly s (doIndicatorOutputEnd c how a s) :=
  ⟨(settled_doIndicatorOutputEnd c how a s).1, setsKept_doIndicatorOutputEnd c how a s,
    staysLocked_of_eq (settled_doIndicatorOutputEnd c how a s).2, Mirrored.doIndicatorOutputEnd c how a⟩

/-! ### The ordinary commands -/

/-- The commands for which no law of the settings, of the desk states or of the lock makes an exception. -/
def ordinary : Instr → Bool
  | .powerOnReset _ | .consoleAttach _ _ | .consoleDetach _ | .keyboardReport _ _ | .pointerReport _ _ | .unlock _
  | .freeze _ | .save _ | .saveCompletion _ => false
  | _ => true

/-- An ordinary command completes and keeps the settings, the desk states, the lock and the lamps' agreement. -/
theorem exec_ordinary (i : Instr) (s : State) (h : ordinary i = true) : ∃ t, exec i s = .next t ∧ Orderly s t := by
  cases i with
  | powerOnReset | consoleAttach | consoleDetach | keyboardReport | pointerReport | unlock | freeze | save
  | saveCompletion => cases h
  | indicatorOutputEnd c how a => exact ⟨_, rfl, orderly_doIndicatorOutputEnd c how a s⟩
  | doubleTapWindowExpiry =>
    refine ⟨_, rfl, ?_⟩
    unfold doDoubleTapExpiry
    split
    · exact .refl s
    · exact (orderly_advanceTo s _).trans (orderly_setMatcher _ _)
  | commandTimerExpiry =>
    refine ⟨_, rfl, ?_⟩
    unfold doCommandExpiry
    split
    · exact .refl s
    · exact (orderly_advanceTo s _).trans (orderly_setMatcher _ _)
  | lockoutTimerExpiry => exact ⟨_, rfl, orderly_doLockoutExpiry s⟩
  | noAction a => exact ⟨_, rfl, orderly_callAction (orderly_runAction .nothing) a s⟩
  | focus a => exact ⟨_, rfl, orderly_callAction (orderly_runAction .focus) a s⟩
  | focusNext a => exact ⟨_, rfl, orderly_callAction (orderly_runAction .focusNext) a s⟩
  | focusPrev a => exact ⟨_, rfl, orderly_callAction (orderly_runAction .focusPrev) a s⟩
  | focusBack a => exact ⟨_, rfl, orderly_callAction (orderly_runAction .focusBack) a s⟩
  | broadcastToggle a => exact ⟨_, rfl, orderly_callAction (orderly_runAction .broadcastToggle) a s⟩
  | broadcastClear a => exact ⟨_, rfl, orderly_callAction (orderly_runAction .broadcastClear) a s⟩
  | showChannel a => exact ⟨_, rfl, orderly_callAction (orderly_runAction .showChannel) a s⟩
  | peek a => exact ⟨_, rfl, orderly_callAction (orderly_runAction .peek) a s⟩
  | preset a => exact ⟨_, rfl, orderly_callAction (orderly_runAction .preset) a s⟩
  | parkToggle a => exact ⟨_, rfl, orderly_callAction (orderly_runAction .parkToggle) a s⟩
  | wake a => exact ⟨_, rfl, orderly_callAction (orderly_runAction .wake) a s⟩
  | wakeAll a => exact ⟨_, rfl, orderly_callAction (orderly_runAction .wakeAll) a s⟩
  | lock a => exact ⟨_, rfl, orderly_callAction (orderly_runAction .lock) a s⟩
  | typeText a => exact ⟨_, rfl, orderly_callTypeText a s⟩
  | goAlert a => exact ⟨_, rfl, orderly_callAction (orderly_runAction .goAlert) a s⟩
  | command a => exact ⟨_, rfl, orderly_callAction (orderly_runAction .command) a s⟩
  | channelActivity c => exact ⟨_, rfl, orderly_setChannel c _ s⟩
  | channelFrame c t => exact ⟨_, rfl, orderly_setChannel c _ s⟩
  | channelLoss c => exact ⟨_, rfl, orderly_setChannel c _ s⟩
  | displayAttach sc p => exact ⟨_, rfl, (quiet_doDisplayAttach sc p s).orderly (Mirrored.doDisplayAttach sc p)⟩
  | displayDetach sc => exact ⟨_, rfl, (quiet_doDisplayDetach sc s).orderly (Mirrored.doDisplayDetach sc)⟩
  | frameStart sc => exact ⟨_, rfl, (quiet_doFrameStart sc s).orderly (Mirrored.doFrameStart sc)⟩
  | peekExpiry sc =>
    refine ⟨_, rfl, ?_⟩
    unfold doPeekExpiry
    split
    · exact .refl s
    · exact (orderly_elapse s _).trans ((quiet_endPeek sc _).orderly (Mirrored.endPeek sc))
  | typeOutPress => exact ⟨_, rfl, orderly_doTypeOutPress s⟩
  | typeOutReleaseDue => exact ⟨_, rfl, orderly_doTypeOutReleaseDue s⟩
  | computerAttach n => exact ⟨_, rfl, (quiet_doComputerAttach n s).orderly (Mirrored.doComputerAttach n)⟩
  | configure n b => exact ⟨_, rfl, (quiet_doConfigure n b s).orderly mirrored_doConfigure⟩
  | computerBusReset n => exact ⟨_, rfl, (quiet_loseLink n _ s).orderly (Mirrored.loseLink n _)⟩
  | computerDetach n => exact ⟨_, rfl, (quiet_loseLink n _ s).orderly (Mirrored.loseLink n _)⟩
  | indicatorReport n b => exact ⟨_, rfl, (quiet_doIndicatorReport n b s).orderly (Mirrored.doIndicatorReport n b)⟩
  | keyboardPoll n => exact ⟨_, rfl, (quiet_doKeyboardPoll n s).orderly mirrored_doKeyboardPoll⟩
  | pointerPoll n => exact ⟨_, rfl, (quiet_doPointerPoll n s).orderly mirrored_doPointerPoll⟩
  | stallTimerExpiry n => exact ⟨_, rfl, orderly_doStallExpiry n s⟩
  | suspend n => exact ⟨_, rfl, (quiet_doSuspend n s).orderly mirrored_doSuspend⟩
  | settleTimerExpiry n => exact ⟨_, rfl, orderly_doSettleExpiry n s⟩
  | signallingEnd n => exact ⟨_, rfl, orderly_doSignallingEnd n s⟩
  | wakeWindowExpiry n => exact ⟨_, rfl, orderly_doWakeWindowExpiry n s⟩
  | resume n => exact ⟨_, rfl, (quiet_doResume n s).orderly mirrored_doResume⟩
  | staggerTimerExpiry =>
    refine ⟨_, rfl, ?_⟩
    unfold doStaggerExpiry
    split
    · exact .refl s
    · exact (orderly_advanceTo s _).trans (orderly_issueWakes _ _)
  | status r => exact ⟨_, rfl, orderly_serve Orderly.refl s⟩
  | tableRead r => exact ⟨_, rfl, orderly_serve (orderly_readBody r) s⟩
  | tableWrite r => exact ⟨_, rfl, orderly_serve (orderly_writeBody r) s⟩
  | depositText r => exact ⟨_, rfl, orderly_serve (orderly_depositBody r) s⟩
  | clearText r => exact ⟨_, rfl, orderly_serve orderly_clearBody s⟩
  | raiseAlert r => exact ⟨_, rfl, orderly_serve (fun u => orderly_setAlertList _ u) s⟩
  | withdrawAlert r => exact ⟨_, rfl, orderly_serve (fun u => orderly_setAlertList _ u) s⟩
  | events r => exact ⟨_, rfl, orderly_serve (orderly_eventsBody r) s⟩
  | deskReset r => exact ⟨_, rfl, orderly_serve orderly_deskReset s⟩
  | replyRead p => exact ⟨_, rfl, orderly_doReplyRead p s⟩
  | notificationTake p => exact ⟨_, rfl, orderly_doNotificationTake p s⟩
  | unknownCommandRequest r code => exact ⟨_, rfl, orderly_serve Orderly.refl s⟩

end Sys2Proof.Machine
end

section
/-! ## What the devices' reports do to the desk states -/

namespace Sys2Proof.Machine

/-- `t` has the clock, the settings, the lock, the channels and the tables of `s`. -/
structure Background (s t : State) : Prop where
  settled : Settled s t
  now : t.now = s.now
  lock : t.lock = s.lock
  channels : t.channels = s.channels
  tables : t.tables = s.tables

theorem Background.refl (s : State) : Background s s := ⟨.refl s, rfl, rfl, rfl, rfl⟩

theorem Background.trans {s t u : State} (h : Background s t) (k : Background t u) : Background s u :=
  ⟨h.settled.trans k.settled, k.now.trans h.now, k.lock.trans h.lock, k.channels.trans h.channels,
    k.tables.trans h.tables⟩

theorem Quiet.background {s t : State} (h : Quiet s t) : Background s t :=
  ⟨h.settled, h.now, h.lock, h.channels, h.tables⟩

theorem background_foldl {α : Type} {f : State → α → State} (hf : ∀ s a, Background s (f s a)) (l : List α)
    (s : State) : Background s (l.foldl f s) := by
  induction l generalizing s with
  | nil => exact .refl s
  | cons a l ih => exact (hf s a).trans (ih _)

theorem background_setConsole (s : State) (v) : Background s (s.setConsole v) := ⟨⟨rfl, rfl, rfl, rfl⟩, rfl, rfl, rfl, rfl⟩
theorem background_setMatcher (s : State) (v) : Background s (s.setMatcher v) := ⟨⟨rfl, rfl, rfl, rfl⟩, rfl, rfl, rfl, rfl⟩
theorem background_modConsolePort (c f) (s : State) : Background s (modConsolePort c f s) := background_setConsole s _

/-! ### Releases, button events and motion -/

theorem background_lockKeyRelease (k m) (s : State) : Background s (lockKeyRelease k m s) := by
  unfold lockKeyRelease
  split
  · exact (background_setMatcher s _).trans
      ((quiet_markTypeout _ _).trans (quiet_focusKeyRelease _ _ _)).background
  all_goals exact (quiet_markAlone _ s).background

theorem quiet_lockButtonPress (b) (s : State) : Quiet s (lockButtonPress b s) := by
  unfold lockButtonPress
  split
  · exact quiet_focusButtonPress b s
  all_goals exact .refl s

theorem quiet_lockButtonRelease (b m) (s : State) : Quiet s (lockButtonRelease b m s) := by
  unfold lockButtonRelease
  split
  · exact (quiet_markTypeout _ s).trans (quiet_focusButtonRelease _ _ _)
  all_goals exact quiet_markAlone _ s

theorem quiet_reportMotion (dx dy wheel c) (s : State) : Quiet s (reportMotion dx dy wheel c s) := by
  unfold reportMotion lockMotion
  split
  · exact .refl s
  · split
    · exact quiet_motionItem _ _ _ _ s
    all_goals exact .refl s

theorem background_deviceRelease (c) (s : State) (k) : Background s (deviceRelease c s k) := by
  unfold deviceRelease
  split
  · exact .refl s
  · exact (background_setConsole s _).trans (background_lockKeyRelease _ _ _)

theorem background_deviceButtonRelease (c) (s : State) (b) : Background s (deviceButtonRelease c s b) := by
  unfold deviceButtonRelease
  split
  · exact .refl s
  · exact (background_setConsole s _).trans (quiet_lockButtonRelease _ _ _).background

theorem background_deviceButtonPress (s : State) (b) : Background s (deviceButtonPress s b) := by
  unfold deviceButtonPress
  split
  · exact .refl s
  · exact (background_setConsole s _).trans (quiet_lockButtonPress _ _).background

/-- A key set without presses leaves the background alone. -/
theorem background_takeKeySet_nil (c o) (s : State) : Background s (takeKeySet c o [] s) := by
  have hp : keyPresses o [] = [] := by simp [keyPresses, setDiff]
  unfold takeKeySet
  rw [hp]
  exact (background_foldl (background_deviceRelease c) _ s).trans (background_modConsolePort _ _ _)

theorem background_takeButtons (c o n dx dy wheel) (s : State) : Background s (takeButtons c o n dx dy wheel s) :=
  (((background_foldl (background_deviceButtonRelease c) _ s).trans (quiet_reportMotion _ _ _ _ _).background).trans
    (background_foldl background_deviceButtonPress _ _)).trans (background_modConsolePort _ _ _)

theorem background_doConsoleDetach (c) (s : State) : Background s (doConsoleDetach c s) := by
  unfold doConsoleDetach
  split
  · exact .refl s
  · exact (background_takeKeySet_nil _ _ s).trans (background_modConsolePort _ _ _)
  · exact (background_takeButtons _ _ _ _ _ _ s).trans (background_modConsolePort _ _ _)
  · exact background_modConsolePort _ _ s

theorem background_doConsoleAttach (c d) (s : State) : Background s (doConsoleAttach c d s) := by
  have h : Background s (modConsolePort c (fun _ => classify d) (doConsoleDetach c s)) :=
    (background_doConsoleDetach c s).trans (background_modConsolePort _ _ _)
  unfold doConsoleAttach
  dsimp only
  split
  · exact h.trans (background_setConsole _ _)
  all_goals exact h

theorem background_doPointerReport (c r) (s : State) : Background s (doPointerReport c r s) := by
  unfold doPointerReport
  split
  · exact background_takeButtons _ _ _ _ _ _ s
  all_goals exact .refl s

/-! ### Presses: the settings stay, also where a press unlocks the console -/

theorem settled_runEntry (e) (s : State) : Settled s (runEntry e s) := by
  unfold runEntry
  split
  · exact .refl s
  · exact (orderly_runAction _ _ _ s).settled

theorem settled_setMatcher (s : State) (m) : Settled s (s.setMatcher m) := (background_setMatcher s m).settled

theorem settled_setLockRecord (l) (s : State) : Settled s (setLockRecord l s) := ⟨rfl, rfl, rfl, rfl⟩

theorem settled_lockKeyPress (k) (s : State) : Settled s (lockKeyPress k s) := by
  unfold lockKeyPress
  split
  · unfold matcherPress
    split
    · exact (settled_setMatcher s _).trans (settled_runEntry _ _)
    · split
      · exact (settled_setMatcher s _).trans (settled_runEntry _ _)
      · split
        · exact (settled_setMatcher s _).trans (settled_runEntry _ _)
        · exact (settled_setMatcher s _).trans
            ((quiet_endTypeout _ _).trans (quiet_focusKeyPress _ _)).settled
  · unfold lockedPress
    split
    · exact .refl s
    · unfold comparePress
      split
      · split
        · exact ⟨rfl, rfl, rfl, rfl⟩
        · exact (settled_setLockRecord _ s).trans (quiet_raise _ _).settled
      · split
        · exact .refl s
        · unfold failAttempt
          dsimp only
          split <;> exact (settled_setLockRecord _ s).trans (quiet_raise _ _).settled
  · exact .refl s

theorem settled_devicePress (s : State) (k) : Settled s (devicePress s k) := by
  unfold devicePress
  split
  · exact .refl s
  · exact (background_setConsole s _).settled.trans (settled_lockKeyPress _ _)

theorem settled_doKeyboardReport (c r) (s : State) : Settled s (doKeyboardReport c r s) := by
  unfold doKeyboardReport
  split
  · exact ((background_foldl (background_deviceRelease c) _ s).settled.trans
      (settled_foldl settled_devicePress _ _)).trans (background_modConsolePort _ _ _).settled
  · exact .refl s

/-! ### A change of one console port's record -/

@[simp] theorem modConsolePort_console_ports_self (c f) (s : State) :
    (modConsolePort c f s).console.ports[c.val] = f s.console.ports[c.val] := by
  simp [modConsolePort]

theorem modConsolePort_console_ports_ne {c d : ConsoleNo} (f) (s : State) (h : d ≠ c) :
    (modConsolePort c f s).console.ports[d.val] = s.console.ports[d.val] := by
  have h1 : c.val ≠ d.val := fun e => h (Fin.ext e.symm)
  simp [modConsolePort, h1]

/-- Two changes of one console port's record are one. -/
theorem modConsolePort_twice (c f g) (s : State) :
    modConsolePort c g (modConsolePort c f s) = modConsolePort c (fun p => g (f p)) s := by
  simp [modConsolePort, State.setConsole]

/-- A change that leaves the record as it is changes nothing. -/
theorem modConsolePort_eq_self {c f} {s : State} (h : f s.console.ports[c.val] = s.console.ports[c.val]) :
    modConsolePort c f s = s := by
  simp [modConsolePort, State.setConsole, h]

/-- A record of the keyboard class is that of a keyboard with its last key set. -/
theorem ConsolePort.keyboard_of_code {p : ConsolePort} (h : p.code = 1) :
    ∃ shown flight, p = .keyboard p.keys shown flight := by
  cases p with
  | keyboard keys shown flight => exact ⟨shown, flight, rfl⟩
  | none | pointer | unsupported => cases h

/-- A record of the pointer class is that of a pointer with its last button set. -/
theorem ConsolePort.pointer_of_code {p : ConsolePort} (h : p.code = 2) : p = .pointer p.buttons := by
  cases p with
  | pointer => rfl
  | none | keyboard | unsupported => cases h

/-! ### The desk button state -/

/-- `t` agrees with `s` in the desk key state and the devices' last sets and classes; the desk button state may differ. -/
structure ButtonsMoved (s t : State) : Prop where
  deskKeys : t.console.deskKeys = s.console.deskKeys
  keys : ∀ c : ConsoleNo, t.console.ports[c].keys = s.console.ports[c].keys
  buttons : ∀ c : ConsoleNo, t.console.ports[c].buttons = s.console.ports[c].buttons
  codes : ∀ c : ConsoleNo, t.console.ports[c].code = s.console.ports[c].code

theorem ButtonsMoved.refl (s : State) : ButtonsMoved s s := ⟨rfl, fun _ => rfl, fun _ => rfl, fun _ => rfl⟩

theorem ButtonsMoved.trans {s t u : State} (h : ButtonsMoved s t) (k : ButtonsMoved t u) : ButtonsMoved s u :=
  ⟨k.deskKeys.trans h.deskKeys, fun c => (k.keys c).trans (h.keys c), fun c => (k.buttons c).trans (h.buttons c),
    fun c => (k.codes c).trans (h.codes c)⟩

theorem Quiet.buttonsMoved {s t : State} (h : Quiet s t) : ButtonsMoved s t := ⟨h.deskKeys, h.keys, h.buttons, h.codes⟩

/-- A release of `b` from one device takes `b` out of the desk button state unless another device holds it (R12). -/
theorem deviceButtonRelease_moved (c : ConsoleNo) (s : State) (b : Nat) : ButtonsMoved s (deviceButtonRelease c s b) ∧
    ∀ a, a ∈ (deviceButtonRelease c s b).console.deskButtons ↔
      a ∈ s.console.deskButtons ∧ (a ≠ b ∨ ∃ d : ConsoleNo, d ≠ c ∧ a ∈ s.console.ports[d].buttons) := by
  unfold deviceButtonRelease
  split
  · rename_i h
    rw [buttonElsewhere_iff] at h
    refine ⟨.refl s, fun a => ?_⟩
    by_cases ha : a = b
    · subst ha; simp only [h, or_true, and_true]
    · simp [ha]
  · rename_i h
    rw [buttonElsewhere_iff] at h
    have q := quiet_lockButtonRelease b
      (deskEmpty (s.setConsole { s.console with deskButtons := setErase b s.console.deskButtons }))
      (s.setConsole { s.console with deskButtons := setErase b s.console.deskButtons })
    have e : ButtonsMoved s (s.setConsole { s.console with deskButtons := setErase b s.console.deskButtons }) :=
      ⟨rfl, fun _ => rfl, fun _ => rfl, fun _ => rfl⟩
    refine ⟨e.trans q.buttonsMoved, fun a => ?_⟩
    simp only [q.deskButtons, State.setConsole_console, mem_setErase]
    by_cases ha : a = b
    · subst ha; simp only [ne_eq, not_true_eq_false, and_false, false_or, false_iff, not_and]; exact fun _ => h
    · simp [ha]

/-- The button releases of a report, one after another (R12, R13). -/
theorem buttonReleases_moved (c : ConsoleNo) (l : List Nat) (s : State) :
    ButtonsMoved s (l.foldl (deviceButtonRelease c) s) ∧
      ∀ a, a ∈ (l.foldl (deviceButtonRelease c) s).console.deskButtons ↔
        a ∈ s.console.deskButtons ∧ (a ∉ l ∨ ∃ d : ConsoleNo, d ≠ c ∧ a ∈ s.console.ports[d].buttons) := by
  induction l generalizing s with
  | nil => exact ⟨.refl s, by simp⟩
  | cons b l ih =>
    obtain ⟨h1, h2⟩ := deviceButtonRelease_moved c s b
    obtain ⟨h3, h4⟩ := ih (deviceButtonRelease c s b)
    refine ⟨h1.trans h3, fun a => ?_⟩
    simp only [List.foldl, h4, h2, h1.buttons, List.mem_cons]
    tauto

/-- A press of `b` enters `b` in the desk button state (R12). -/
theorem deviceButtonPress_moved (s : State) (b : Nat) : ButtonsMoved s (deviceButtonPress s b) ∧
    ∀ a, a ∈ (deviceButtonPress s b).console.deskButtons ↔ a ∈ s.console.deskButtons ∨ a = b := by
  unfold deviceButtonPress
  split
  · rename_i h
    refine ⟨.refl s, fun a => ⟨.inl, ?_⟩⟩
    rintro (h' | rfl) <;> assumption
  · have q := quiet_lockButtonPress b (s.setConsole { s.console with deskButtons := setInsert b s.console.deskButtons })
    have e : ButtonsMoved s (s.setConsole { s.console with deskButtons := setInsert b s.console.deskButtons }) :=
      ⟨rfl, fun _ => rfl, fun _ => rfl, fun _ => rfl⟩
    refine ⟨e.trans q.buttonsMoved, fun a => ?_⟩
    simp only [q.deskButtons, State.setConsole_console, mem_setInsert]
    tauto

/-- The button presses of a report, one after another (R12, R13). -/
theorem buttonPresses_moved (l : List Nat) (s : State) : ButtonsMoved s (l.foldl deviceButtonPress s) ∧
    ∀ a, a ∈ (l.foldl deviceButtonPress s).console.deskButtons ↔ a ∈ s.console.deskButtons ∨ a ∈ l := by
  induction l generalizing s with
  | nil => exact ⟨.refl s, by simp⟩
  | cons b l ih =>
    obtain ⟨h1, h2⟩ := deviceButtonPress_moved s b
    obtain ⟨h3, h4⟩ := ih (deviceButtonPress s b)
    refine ⟨h1.trans h3, fun a => ?_⟩
    simp only [List.foldl, h4, h2, List.mem_cons]
    tauto

/-! ### What a key set and a button set leave -/

@[simp] theorem ConsolePort.setKeys_buttons (n) (p : ConsolePort) : (p.setKeys n).buttons = p.buttons := by
  cases p <;> rfl

@[simp] theorem ConsolePort.setKeys_code (n) (p : ConsolePort) : (p.setKeys n).code = p.code := by
  cases p <;> rfl

@[simp] theorem ConsolePort.setButtons_keys (n) (p : ConsolePort) : (p.setButtons n).keys = p.keys := by
  cases p <;> rfl

@[simp] theorem ConsolePort.setButtons_code (n) (p : ConsolePort) : (p.setButtons n).code = p.code := by
  cases p <;> rfl

theorem ConsolePort.setKeys_keys_of_code {p : ConsolePort} (h : p.code = 1) (n) : (p.setKeys n).keys = n := by
  obtain ⟨shown, flight, hp⟩ := keyboard_of_code h
  rw [hp]
  rfl

theorem ConsolePort.setButtons_buttons_of_code {p : ConsolePort} (h : p.code = 2) (n) : (p.setButtons n).buttons = n := by
  rw [pointer_of_code h]
  rfl

/-- What taking the key set `n` leaves of a keyboard's port, of the other ports and of the desk states (R8, R9). -/
structure KeySetEffect (c : ConsoleNo) (o n : List Nat) (s t : State) : Prop where
  moved : ∀ d : ConsoleNo, d ≠ c → t.console.ports[d].keys = s.console.ports[d].keys
  own : t.console.ports[c].keys = n
  buttons : ∀ d : ConsoleNo, t.console.ports[d].buttons = s.console.ports[d].buttons
  codes : ∀ d : ConsoleNo, t.console.ports[d].code = s.console.ports[d].code
  deskButtons : t.console.deskButtons = s.console.deskButtons
  channels : t.channels = s.channels
  store : t.store = s.store
  now : t.now = s.now
  deskKeys : ∀ k, k ∈ t.console.deskKeys ↔
    (k ∈ n ∧ k ∉ o) ∨ (k ∈ s.console.deskKeys ∧ (k ∈ n ∨ k ∉ o ∨ ∃ d : ConsoleNo, d ≠ c ∧ k ∈ s.console.ports[d].keys))

theorem takeKeySet_effect {c : ConsoleNo} {s : State} (hc : s.console.ports[c].code = 1) (o n : List Nat) :
    KeySetEffect c o n s (takeKeySet c o n s) := by
  obtain ⟨h1, h2⟩ := releases_moved c (keyReleases o n) s
  obtain ⟨h3, h4⟩ := presses_moved (keyPresses o n) ((keyReleases o n).foldl (deviceRelease c) s)
  have h := h1.trans h3
  have port (d : ConsoleNo) (hd : d ≠ c) := modConsolePort_console_ports_ne (ConsolePort.setKeys n)
    ((keyPresses o n).foldl devicePress ((keyReleases o n).foldl (deviceRelease c) s)) hd
  unfold takeKeySet
  refine ⟨fun d hd => ?_, ?_, fun d => ?_, fun d => ?_, h.deskButtons, h.channels, h.store, h.now, fun k => ?_⟩
  · simp only [Fin.getElem_fin, port d hd]
    exact h.keys d
  · simp only [Fin.getElem_fin, modConsolePort_console_ports_self]
    exact ConsolePort.setKeys_keys_of_code ((h.codes c).trans hc) n
  · by_cases hd : d = c
    · subst hd
      simpa using h.buttons d
    · simp only [Fin.getElem_fin, port d hd]
      exact h.buttons d
  · by_cases hd : d = c
    · subst hd
      simpa using h.codes d
    · simp only [Fin.getElem_fin, port d hd]
      exact h.codes d
  · simp only [modConsolePort_deskKeys, h4, h2, mem_keyReleases, mem_keyPresses]
    by_cases hn : k ∈ n <;> by_cases ho : k ∈ o <;> simp [hn, ho]

/-- What taking the button set `n` leaves of a pointer's port, of the other ports and of the desk states (R12, R13). -/
structure ButtonSetEffect (c : ConsoleNo) (o n : List Nat) (s t : State) : Prop where
  moved : ∀ d : ConsoleNo, d ≠ c → t.console.ports[d].buttons = s.console.ports[d].buttons
  own : t.console.ports[c].buttons = n
  keys : ∀ d : ConsoleNo, t.console.ports[d].keys = s.console.ports[d].keys
  codes : ∀ d : ConsoleNo, t.console.ports[d].code = s.console.ports[d].code
  deskKeys : t.console.deskKeys = s.console.deskKeys
  deskButtons : ∀ b, b ∈ t.console.deskButtons ↔ (b ∈ n ∧ b ∉ o) ∨
    (b ∈ s.console.deskButtons ∧ (b ∈ n ∨ b ∉ o ∨ ∃ d : ConsoleNo, d ≠ c ∧ b ∈ s.console.ports[d].buttons))

theorem takeButtons_effect {c : ConsoleNo} {s : State} (hc : s.console.ports[c].code = 2) (o n : List Nat)
    (dx dy wheel : Int) : ButtonSetEffect c o n s (takeButtons c o n dx dy wheel s) := by
  obtain ⟨h1, h2⟩ := buttonReleases_moved c (setDiff o n) s
  have q := quiet_reportMotion dx dy wheel c ((setDiff o n).foldl (deviceButtonRelease c) s)
  obtain ⟨h3, h4⟩ := buttonPresses_moved (setDiff n o)
    (reportMotion dx dy wheel c ((setDiff o n).foldl (deviceButtonRelease c) s))
  have h := (h1.trans q.buttonsMoved).trans h3
  have port (d : ConsoleNo) (hd : d ≠ c) := modConsolePort_console_ports_ne (ConsolePort.setButtons n)
    ((setDiff n o).foldl deviceButtonPress
      (reportMotion dx dy wheel c ((setDiff o n).foldl (deviceButtonRelease c) s))) hd
  unfold takeButtons
  refine ⟨fun d hd => ?_, ?_, fun d => ?_, fun d => ?_, h.deskKeys, fun k => ?_⟩
  · simp only [Fin.getElem_fin, port d hd]
    exact h.buttons d
  · simp only [Fin.getElem_fin, modConsolePort_console_ports_self]
    exact ConsolePort.setButtons_buttons_of_code ((h.codes c).trans hc) n
  · by_cases hd : d = c
    · subst hd
      simpa using h.keys d
    · simp only [Fin.getElem_fin, port d hd]
      exact h.keys d
  · by_cases hd : d = c
    · subst hd
      simpa using h.codes d
    · simp only [Fin.getElem_fin, port d hd]
      exact h.codes d
  · simp only [modConsolePort_deskButtons, h4, q.deskButtons, h2, mem_setDiff]
    by_cases hn : k ∈ n <;> by_cases ho : k ∈ o <;> simp [hn, ho]

/-! ### Members of a set made of a list -/

theorem pairwise_setInsert {k : Nat} {l : List Nat} (h : l.Pairwise (· < ·)) : (setInsert k l).Pairwise (· < ·) := by
  induction l with
  | nil => simp [setInsert]
  | cons a l ih =>
    obtain ⟨h1, h2⟩ := List.pairwise_cons.1 h
    unfold setInsert
    split
    next hk =>
      refine List.pairwise_cons.2 ⟨fun x hx => ?_, h⟩
      rcases List.mem_cons.1 hx with rfl | hx
      · exact hk
      · exact hk.trans (h1 x hx)
    next hk =>
      split
      next => exact h
      next hne =>
        refine List.pairwise_cons.2 ⟨fun x hx => ?_, ih h2⟩
        rcases (mem_setInsert k x l).1 hx with rfl | hx
        · omega
        · exact h1 x hx

theorem pairwise_setOf (l : List Nat) : (setOf l).Pairwise (· < ·) := by
  induction l with
  | nil => exact .nil
  | cons a l ih => exact pairwise_setInsert ih

theorem mem_setOf (k : Nat) (l : List Nat) : k ∈ setOf l ↔ k ∈ l := by
  induction l with
  | nil => rfl
  | cons a l ih =>
    have h : setOf (a :: l) = setInsert a (setOf l) := rfl
    rw [h, mem_setInsert, ih, List.mem_cons]

theorem pairwise_reduceKeys {r : KeyInput} {n : List Nat} (h : reduceKeys r = some n) : n.Pairwise (· < ·) := by
  unfold reduceKeys at h
  split at h
  · cases h
  · cases h
    exact pairwise_setOf _

theorem pairwise_reduceButtons (r : PointerInput) : (reduceButtons r).Pairwise (· < ·) := pairwise_setOf _

/-! ### The sets of the devices and the desk states (R6, R9, R12) -/

/-- A state keeps the console's laws when its sets and its lamps' agreement are kept. -/
theorem ConsoleSafe.of_setsKept {s t : State} (h : ConsoleSafe s) (k : SetsKept s t) (m : Mirrored s → Mirrored t) :
    ConsoleSafe t where
  keys a := by
    simp only [k.deskKeys, k.keys]
    exact h.keys a
  buttons a := by
    simp only [k.deskButtons, k.buttons]
    exact h.buttons a
  mirrored := m h.mirrored
  sets c := by
    rw [k.keys c, k.buttons c]
    exact h.sets c

theorem ConsoleSafe.setPending {s : State} (h : ConsoleSafe s) (v) : ConsoleSafe (s.setPending v) :=
  ⟨h.keys, h.buttons, h.mirrored, h.sets⟩

theorem ConsoleSafe.setMgmt {s : State} (h : ConsoleSafe s) (v) : ConsoleSafe (s.setMgmt v) :=
  ⟨h.keys, h.buttons, h.mirrored, h.sets⟩

theorem ConsoleSafe.setStore {s : State} (h : ConsoleSafe s) (v) : ConsoleSafe (s.setStore v) :=
  ⟨h.keys, h.buttons, h.mirrored, h.sets⟩

/-- Of the ports a set lies in, port `c` is one and the others are the rest. -/
theorem exists_port_iff (p : ConsoleNo → Prop) (c : ConsoleNo) : (∃ d, p d) ↔ p c ∨ ∃ d, d ≠ c ∧ p d := by
  constructor
  · rintro ⟨d, h⟩
    by_cases hd : d = c
    · exact .inl (hd ▸ h)
    · exact .inr ⟨d, hd, h⟩
  · rintro (h | ⟨d, _, h⟩)
    · exact ⟨c, h⟩
    · exact ⟨d, h⟩

/-- A union of sets of which that of port `c` changes from `o` to `n`, by the words of R9 and R12. -/
theorem union_moved {f g : ConsoleNo → List Nat} {c : ConsoleNo} {o n u v : List Nat} (ho : f c = o) (hn : g c = n)
    (he : ∀ d, d ≠ c → g d = f d) (hu : ∀ k, k ∈ u ↔ ∃ d, k ∈ f d)
    (hv : ∀ k, k ∈ v ↔ (k ∈ n ∧ k ∉ o) ∨ (k ∈ u ∧ (k ∈ n ∨ k ∉ o ∨ ∃ d, d ≠ c ∧ k ∈ f d))) (k : Nat) :
    k ∈ v ↔ ∃ d, k ∈ g d := by
  have hothers : (∃ d, d ≠ c ∧ k ∈ g d) ↔ ∃ d, d ≠ c ∧ k ∈ f d :=
    exists_congr fun d => and_congr_right fun hd => by rw [he d hd]
  rw [hv, hu, exists_port_iff (fun d => k ∈ f d) c, exists_port_iff (fun d => k ∈ g d) c, ho, hn, hothers]
  tauto

theorem consoleSafe_takeKeySet {c : ConsoleNo} {s : State} {n : List Nat} (h : ConsoleSafe s)
    (hc : s.console.ports[c].code = 1) (hn : n.Pairwise (· < ·)) :
    ConsoleSafe (takeKeySet c s.console.ports[c].keys n s) := by
  have e := takeKeySet_effect hc s.console.ports[c].keys n
  refine ⟨?_, fun b => ?_, Mirrored.takeKeySet _ _ _ h.mirrored, fun d => ?_⟩
  · exact union_moved rfl e.own e.moved h.keys e.deskKeys
  · simp only [e.deskButtons, e.buttons]
    exact h.buttons b
  · rw [e.buttons d]
    refine ⟨?_, (h.sets d).2⟩
    by_cases hd : d = c
    · rw [hd, e.own]
      exact hn
    · rw [e.moved d hd]
      exact (h.sets d).1

theorem consoleSafe_takeButtons {c : ConsoleNo} {s : State} {n : List Nat} (dx dy wheel : Int) (h : ConsoleSafe s)
    (hc : s.console.ports[c].code = 2) (hn : n.Pairwise (· < ·)) :
    ConsoleSafe (takeButtons c s.console.ports[c].buttons n dx dy wheel s) := by
  have e := takeButtons_effect hc s.console.ports[c].buttons n dx dy wheel
  refine ⟨fun k => ?_, ?_, Mirrored.takeButtons _ _ _ _ _ _ h.mirrored, fun d => ?_⟩
  · simp only [e.deskKeys, e.keys]
    exact h.keys k
  · exact union_moved rfl e.own e.moved h.buttons e.deskButtons
  · rw [e.keys d]
    refine ⟨(h.sets d).1, ?_⟩
    by_cases hd : d = c
    · rw [hd, e.own]
      exact hn
    · rw [e.moved d hd]
      exact (h.sets d).2

/-- A port whose device holds nothing may be given a record that holds nothing. -/
theorem consoleSafe_modConsolePort {c : ConsoleNo} {p : ConsolePort} {s : State} (h : ConsoleSafe s)
    (hk : s.console.ports[c].keys = []) (hb : s.console.ports[c].buttons = []) (pk : p.keys = []) (pb : p.buttons = []) :
    ConsoleSafe (modConsolePort c (fun _ => p) s) := by
  have port (d : ConsoleNo) : (modConsolePort c (fun _ => p) s).console.ports[d].keys = s.console.ports[d].keys ∧
      (modConsolePort c (fun _ => p) s).console.ports[d].buttons = s.console.ports[d].buttons := by
    by_cases hd : d = c
    · subst hd
      simp only [Fin.getElem_fin, modConsolePort_console_ports_self]
      exact ⟨pk.trans hk.symm, pb.trans hb.symm⟩
    · simp only [Fin.getElem_fin, modConsolePort_console_ports_ne _ _ hd, and_self]
  exact h.of_setsKept ⟨rfl, rfl, fun d => (port d).1, fun d => (port d).2⟩ id

theorem setsKept_startOutputs (s : State) : SetsKept s (s.setConsole s.console.startOutputs) :=
  ⟨rfl, rfl, fun c => by simp, fun c => by simp⟩

theorem consoleSafe_doConsoleDetach {c : ConsoleNo} {s : State} (h : ConsoleSafe s) :
    ConsoleSafe (doConsoleDetach c s) := by
  unfold doConsoleDetach
  split
  next => exact h
  next o shown flight hp =>
    have hc : s.console.ports[c].code = 1 := by rw [hp]; rfl
    have e := takeKeySet_effect hc o []
    have ho : o = s.console.ports[c].keys := by rw [hp]; rfl
    have hs : ConsoleSafe (takeKeySet c o [] s) := ho ▸ consoleSafe_takeKeySet h hc .nil
    refine consoleSafe_modConsolePort hs e.own ?_ rfl rfl
    rw [e.buttons c, hp]
    rfl
  next o hp =>
    have hc : s.console.ports[c].code = 2 := by rw [hp]; rfl
    have e := takeButtons_effect hc o [] 0 0 0
    have ho : o = s.console.ports[c].buttons := by rw [hp]; rfl
    have hs : ConsoleSafe (takeButtons c o [] 0 0 0 s) := ho ▸ consoleSafe_takeButtons 0 0 0 h hc .nil
    refine consoleSafe_modConsolePort hs ?_ e.own rfl rfl
    rw [e.keys c, hp]
    rfl
  next hp => exact consoleSafe_modConsolePort h (by rw [hp]; rfl) (by rw [hp]; rfl) rfl rfl

/-- A detach frees its port (R4). -/
theorem doConsoleDetach_frees (c : ConsoleNo) (s : State) : (doConsoleDetach c s).console.ports[c] = .none := by
  unfold doConsoleDetach
  split
  next hp => exact hp
  all_goals simp

theorem classify_holds_nothing (d : DeviceDescription) : (classify d).keys = [] ∧ (classify d).buttons = [] := by
  unfold classify
  (repeat' split) <;> exact ⟨rfl, rfl⟩

theorem consoleSafe_doConsoleAttach {c : ConsoleNo} {d : DeviceDescription} {s : State} (h : ConsoleSafe s) :
    ConsoleSafe (doConsoleAttach c d s) := by
  have hfree := doConsoleDetach_frees c s
  obtain ⟨pk, pb⟩ := classify_holds_nothing d
  have h1 : ConsoleSafe (modConsolePort c (fun _ => classify d) (doConsoleDetach c s)) :=
    consoleSafe_modConsolePort (consoleSafe_doConsoleDetach h) (by rw [hfree]; rfl) (by rw [hfree]; rfl) pk pb
  unfold doConsoleAttach
  dsimp only
  split
  · exact h1.of_setsKept (setsKept_startOutputs _) (mirrored_setConsole (Console.startOutputs_mirrored _)).2
  all_goals exact h1

theorem consoleSafe_doKeyboardReport {c : ConsoleNo} {r : KeyInput} {s : State} (h : ConsoleSafe s) :
    ConsoleSafe (doKeyboardReport c r s) := by
  unfold doKeyboardReport
  split
  next o shown flight n hp hr =>
    have ho : o = s.console.ports[c].keys := by rw [hp]; rfl
    rw [ho]
    exact consoleSafe_takeKeySet h (by rw [hp]; rfl) (pairwise_reduceKeys hr)
  next => exact h

theorem consoleSafe_doPointerReport {c : ConsoleNo} {r : PointerInput} {s : State} (h : ConsoleSafe s) :
    ConsoleSafe (doPointerReport c r s) := by
  unfold doPointerReport
  split
  next o hp =>
    have ho : o = s.console.ports[c].buttons := by rw [hp]; rfl
    rw [ho]
    exact consoleSafe_takeButtons _ _ _ h (by rw [hp]; rfl) (pairwise_reduceButtons r)
  all_goals exact h

/-- Power-on leaves no device, nothing held and every lamp off. -/
theorem consoleSafe_powerOn (tb src store pending) : ConsoleSafe (State.powerOn tb src store pending) where
  keys k := by simp [State.powerOn, Console.powerOn, ConsolePort.keys]
  buttons b := by simp [State.powerOn, Console.powerOn, ConsolePort.buttons]
  mirrored := by
    have hports : ∀ n : Computer, (State.powerOn tb src store pending).ports[n] = Port.powerOn := fun n => by
      simp [State.powerOn]
    unfold mirrorSource
    split
    · rfl
    · rw [hports]
      rfl
  sets c := by simp [State.powerOn, Console.powerOn, ConsolePort.keys, ConsolePort.buttons]

/-! ### The commands that change the settings or the lock -/

theorem doPowerOn_eq (b : Bool) (s : State) :
    ∃ tb src, doPowerOn b s = State.powerOn tb src s.store s.pending := by
  unfold doPowerOn
  split <;> exact ⟨_, _, rfl⟩

/-- UNLOCK keeps all but the lock. -/
theorem unlock_keeps (r : Request) (s : State) : ∃ t, exec (.unlock r) s = .next t ∧ Settled s t ∧ SetsKept s t ∧
    (Mirrored s → Mirrored t) := by
  refine ⟨_, rfl, ?_⟩
  have hbody : ∀ u : State, Settled u (actionBody (fun _ _ => actUnlock) r u).1 ∧
      SetsKept u (actionBody (fun _ _ => actUnlock) r u).1 ∧
      (Mirrored u → Mirrored (actionBody (fun _ _ => actUnlock) r u).1) := by
    intro u
    have hunlock : Settled u (unlockConsole u) ∧ SetsKept u (unlockConsole u) :=
      ⟨(settled_setLockRecord _ u).trans (quiet_raise _ _).settled,
        SetsKept.trans (t := setLockRecord ⟨.unlocked, 0, 0, none⟩ u) ⟨rfl, rfl, fun _ => rfl, fun _ => rfl⟩
          (quiet_raise _ _).setsKept⟩
    unfold actionBody
    split
    · unfold okBody actUnlock
      dsimp only
      split
      · exact ⟨.refl u, .refl u, id⟩
      · exact ⟨hunlock.1, hunlock.2, mirrored_unlockConsole.2⟩
      · exact ⟨hunlock.1, hunlock.2, mirrored_unlockConsole.2⟩
    · exact ⟨.refl u, .refl u, id⟩
  unfold serveAction
  rcases serve_cases 4 r (frameFits r 1 3) .manager (actionBody (fun _ _ => actUnlock) r) s with h | h
  · exact ⟨h.settled, h.sets, h.mirrored⟩
  · rw [h]
    have h1 := orderly_setSlot s r.port .empty
    obtain ⟨b1, b2, b3⟩ := hbody (setSlot r.port .empty s)
    have h2 := orderly_answer 4 r (actionBody (fun _ _ => actUnlock) r (setSlot r.port .empty s))
    exact ⟨(h1.settled.trans b1).trans h2.settled, (h1.sets.trans b2).trans h2.sets,
      h2.mirrored ∘ b3 ∘ h1.mirrored⟩

/-- FREEZE adds tables to the freeze set, and is orderly from there (R169). -/
theorem freeze_keeps (r : Request) (s : State) : ∃ (tables : TableSet) (t : State), exec (.freeze r) s = .next t ∧
    Orderly (s.setMgmt { s.mgmt with freezeSet := s.mgmt.freezeSet ||| tables }) t := by
  have none_added : (s.setMgmt { s.mgmt with freezeSet := s.mgmt.freezeSet ||| 0 }) = s := by
    simp [State.setMgmt]
  rcases serve_cases 10 r (frameFits r 0 2 && (freezeArgs r).isSome) .manager (freezeBody r) s with h | h
  · exact ⟨0, _, rfl, none_added.symm ▸ h⟩
  · cases hargs : freezeArgs r with
    | none =>
      refine ⟨0, _, rfl, ?_⟩
      rw [h, none_added]
      have hb : ∀ u, freezeBody r u = (u, some (.badRequest, [])) := fun u => by unfold freezeBody; rw [hargs]
      rw [hb]
      exact (orderly_setSlot s r.port .empty).trans (orderly_answer 10 r (_, _))
    | some tables =>
      refine ⟨tables, _, rfl, ?_⟩
      rw [h]
      have hb : ∀ u, freezeBody r u =
          (u.setMgmt { u.mgmt with freezeSet := u.mgmt.freezeSet ||| tables }, some (.ok, [])) := fun u => by
        unfold freezeBody; rw [hargs]; rfl
      rw [hb]
      exact Orderly.trans (orderly_setSlot (s.setMgmt { s.mgmt with freezeSet := s.mgmt.freezeSet ||| tables }) r.port
        .empty) (orderly_answer 10 r (_, _))

/-- SAVE and its completion are orderly from the state with the store's image replaced (R174). -/
theorem save_keeps (r : Request) (s : State) : ∃ (image : Option Tables) (t : State), exec (.save r) s = .next t ∧
    Orderly (s.setStore image) t := by
  rcases serve_cases 11 r (frameFits r 0 0) .manager (saveBody r) s with h | h
  · exact ⟨s.store, _, rfl, h⟩
  · by_cases hs : s.mgmt.saving.isSome = true
    · have hb : saveBody r (setSlot r.port .empty s) = (setSlot r.port .empty s, some (.busy, [])) := if_pos hs
      refine ⟨s.store, _, rfl, ?_⟩
      rw [h, hb]
      exact (orderly_setSlot s r.port .empty).trans (orderly_answer 11 r (_, _))
    · have hb : saveBody r (setSlot r.port .empty s) = (setSlot r.port (.inProgress r.tag)
          (((setSlot r.port .empty s).setMgmt { s.mgmt with saving := some ⟨r.port, s.tables⟩ }).setStore none), none) :=
        if_neg hs
      refine ⟨none, _, rfl, ?_⟩
      rw [h, hb]
      refine Orderly.trans (orderly_setSlot (s.setStore none) r.port .empty) (Orderly.trans
        (t := ((setSlot r.port .empty s).setMgmt { s.mgmt with saving := some ⟨r.port, s.tables⟩ }).setStore none)
        (orderly_of_eq rfl rfl rfl rfl rfl rfl id) ?_)
      exact (orderly_setSlot _ _ _).trans (orderly_answer 11 r (_, _))

theorem saveCompletion_keeps (b : Bool) (s : State) : ∃ (image : Option Tables) (t : State),
    exec (.saveCompletion b) s = .next t ∧ Orderly (s.setStore image) t := by
  have reply : ∀ p st u, Orderly u (replySave p st u) := by
    intro p st u
    unfold replySave
    split
    · exact orderly_putReply _ _ _ _ _ _
    all_goals exact .refl u
  have completed : ∀ saving outcome image,
      Orderly (s.setStore image)
        ((s.setMgmt { s.mgmt with saving := saving, lastSave := outcome }).setStore image) := fun _ _ _ =>
    orderly_of_eq rfl rfl rfl rfl rfl rfl id
  cases hs : s.mgmt.saving with
  | none =>
    refine ⟨s.store, s, ?_, .refl s⟩
    simp only [exec, execSaveCompletion, doSaveCompletion, hs]
  | some sv =>
    cases b with
    | true =>
      refine ⟨some sv.image, replySave sv.requester .ok
        ((s.setMgmt { s.mgmt with saving := none, lastSave := .ok }).setStore (some sv.image)), ?_, ?_⟩
      · simp only [exec, execSaveCompletion, doSaveCompletion, hs, if_true]
      · exact (completed _ _ _).trans (reply _ _ _)
    | false =>
      refine ⟨none, replySave sv.requester .storeFailed
        ((s.setMgmt { s.mgmt with saving := none, lastSave := .storeFailed }).setStore none), ?_, ?_⟩
      · simp only [exec, execSaveCompletion, doSaveCompletion, hs, Bool.false_eq_true, if_false]
      · exact (completed _ _ _).trans (reply _ _ _)

/-- A freeze set that stays loses no table (R169). -/
theorem Settled.freeze_kept {s t : State} (k : Settled s t) :
    s.mgmt.freezeSet &&& t.mgmt.freezeSet = s.mgmt.freezeSet := by
  rw [k.freezeSet, BitVec.and_self]

/-! ### Every command -/

/-- Every command keeps the console's laws. -/
theorem exec_keeps_consoleSafe (i : Instr) {s t : State} (h : ConsoleSafe s) (ht : exec i s = .next t) :
    ConsoleSafe t := by
  have next {u : State} (hu : exec i s = .next u) (k : ConsoleSafe u) : ConsoleSafe t := by
    rw [hu] at ht
    cases ht
    exact k
  by_cases ho : ordinary i = true
  · obtain ⟨u, hu, k⟩ := exec_ordinary i s ho
    exact next hu (h.of_setsKept k.sets k.mirrored)
  · cases i with
    | powerOnReset b =>
      obtain ⟨tb, src, e⟩ := doPowerOn_eq b s
      exact next (u := doPowerOn b s) rfl (e ▸ consoleSafe_powerOn tb src s.store s.pending)
    | consoleAttach c d => exact next rfl (consoleSafe_doConsoleAttach h)
    | consoleDetach c => exact next rfl (consoleSafe_doConsoleDetach h)
    | keyboardReport c r => exact next rfl (consoleSafe_doKeyboardReport h)
    | pointerReport c r => exact next rfl (consoleSafe_doPointerReport h)
    | unlock r =>
      obtain ⟨u, hu, _, k, m⟩ := unlock_keeps r s
      exact next hu (h.of_setsKept k m)
    | freeze r =>
      obtain ⟨tables, u, hu, k⟩ := freeze_keeps r s
      exact next hu ((h.setMgmt _).of_setsKept k.sets k.mirrored)
    | save r =>
      obtain ⟨image, u, hu, k⟩ := save_keeps r s
      exact next hu ((h.setStore image).of_setsKept k.sets k.mirrored)
    | saveCompletion b =>
      obtain ⟨image, u, hu, k⟩ := saveCompletion_keeps b s
      exact next hu ((h.setStore image).of_setsKept k.sets k.mirrored)
    | _ => exact absurd rfl ho

/-- Settles O56: a command is ordinary, and keeps sets and lamps, or is one of the nine others; an idle step touches
neither. -/
theorem stepKeepsConsole : Obligations.StepKeepsConsole := by
  intro s t h ht
  unfold step at ht
  split at ht
  next =>
    cases ht
    exact h.of_setsKept (orderly_elapse s 1).sets id
  next c rest _ => exact exec_keeps_consoleSafe c (h.setPending rest) ht

/-- Settles O3: the ordinary commands keep every law, and each of the nine others all but the one that names it. -/
theorem commandsCompleteWithinLaws : Obligations.CommandsCompleteWithinLaws := by
  intro i s
  by_cases ho : ordinary i = true
  · obtain ⟨t, ht, k⟩ := exec_ordinary i s ho
    exact ⟨t, ht, k.settled.pending, fun _ => ⟨k.settled.freeze_kept, fun _ => k.settled.freezeSet, k.settled.source,
      fun _ _ => k.settled.store, fun _ _ _ _ => ⟨k.sets.deskKeys, k.sets.deskButtons⟩, fun _ _ => k.locked⟩⟩
  · cases i with
    | powerOnReset b =>
      obtain ⟨tb, src, e⟩ := doPowerOn_eq b s
      refine ⟨_, rfl, ?_, fun hb => absurd rfl (hb b)⟩
      rw [e]
      rfl
    | consoleAttach c d =>
      have k := background_doConsoleAttach c d s
      exact ⟨_, rfl, k.settled.pending, fun _ => ⟨k.settled.freeze_kept, fun _ => k.settled.freezeSet, k.settled.source,
        fun _ _ => k.settled.store, fun _ _ hd _ => absurd rfl (hd c d), fun _ _ => staysLocked_of_eq k.lock⟩⟩
    | consoleDetach c =>
      have k := background_doConsoleDetach c s
      exact ⟨_, rfl, k.settled.pending, fun _ => ⟨k.settled.freeze_kept, fun _ => k.settled.freezeSet, k.settled.source,
        fun _ _ => k.settled.store, fun _ _ _ hd => absurd rfl (hd c), fun _ _ => staysLocked_of_eq k.lock⟩⟩
    | keyboardReport c r =>
      have k := settled_doKeyboardReport c r s
      exact ⟨_, rfl, k.pending, fun _ => ⟨k.freeze_kept, fun _ => k.freezeSet, k.source, fun _ _ => k.store,
        fun hd => absurd rfl (hd c r), fun hd => absurd rfl (hd c r)⟩⟩
    | pointerReport c r =>
      have k := background_doPointerReport c r s
      exact ⟨_, rfl, k.settled.pending, fun _ => ⟨k.settled.freeze_kept, fun _ => k.settled.freezeSet, k.settled.source,
        fun _ _ => k.settled.store, fun _ hd => absurd rfl (hd c r), fun _ _ => staysLocked_of_eq k.lock⟩⟩
    | unlock r =>
      obtain ⟨t, ht, k, sets, _⟩ := unlock_keeps r s
      exact ⟨t, ht, k.pending, fun _ => ⟨k.freeze_kept, fun _ => k.freezeSet, k.source, fun _ _ => k.store,
        fun _ _ _ _ => ⟨sets.deskKeys, sets.deskButtons⟩, fun _ hu => absurd rfl (hu r)⟩⟩
    | freeze r =>
      obtain ⟨tables, t, ht, k⟩ := freeze_keeps r s
      refine ⟨t, ht, k.settled.pending, fun _ => ⟨?_, fun hf => absurd rfl (hf r), k.settled.source,
        fun _ _ => k.settled.store, fun _ _ _ _ => ⟨k.sets.deskKeys, k.sets.deskButtons⟩, fun _ _ => k.locked⟩⟩
      rw [k.settled.freezeSet]
      ext j hj
      simp only [State.setMgmt_mgmt, BitVec.getElem_and, BitVec.getElem_or]
      cases s.mgmt.freezeSet[j] <;> rfl
    | save r =>
      obtain ⟨image, t, ht, k⟩ := save_keeps r s
      exact ⟨t, ht, k.settled.pending, fun _ => ⟨k.settled.freeze_kept, fun _ => k.settled.freezeSet, k.settled.source,
        fun hs => absurd rfl (hs r), fun _ _ _ _ => ⟨k.sets.deskKeys, k.sets.deskButtons⟩, fun _ _ => k.locked⟩⟩
    | saveCompletion b =>
      obtain ⟨image, t, ht, k⟩ := saveCompletion_keeps b s
      exact ⟨t, ht, k.settled.pending, fun _ => ⟨k.settled.freeze_kept, fun _ => k.settled.freezeSet, k.settled.source,
        fun _ hs => absurd rfl (hs b), fun _ _ _ _ => ⟨k.sets.deskKeys, k.sets.deskButtons⟩, fun _ _ => k.locked⟩⟩
    | _ => exact absurd rfl ho

end Sys2Proof.Machine
end

section
/-! ## Devices come and go, reports are reduced, outputs end -/

namespace Sys2Proof.Machine

/-! ### Power-on (R175) -/

theorem initialFocus_eq_some_iff (tb : Tables) (n : Computer) :
    initialFocus tb = some n ↔ tb.options.initialFocus = some n ∧ tb.computer[n].parked = false := by
  unfold initialFocus
  cases h : tb.options.initialFocus with
  | none => simp
  | some m =>
    dsimp only
    split
    next hp =>
      refine ⟨fun e => (nomatch e), ?_⟩
      rintro ⟨e, hn⟩
      cases e
      exact (Bool.false_ne_true (hn.symm.trans hp)).elim
    next hp =>
      constructor
      · rintro ⟨⟩
        exact ⟨rfl, by simpa using hp⟩
      · exact fun e => e.1

/-- The frame kinds a computation of R89 gives are those of R88. -/
theorem kindsFor_eq_tileKinds (s : State) (sc : ScreenNo) (a : Assignment) : kindsFor s sc a = tileKinds s sc a := by
  have alerting_iff : ∀ n, n ∈ alerting s ↔ ∃ e ∈ s.alerts.list, e.computer = n := fun n => by simp [alerting]
  have peeked : s.screens[sc].peeked = s.screens[sc].peek.map Peek.channel := by
    unfold Screen.peeked
    cases s.screens[sc].peek <;> rfl
  have kind : ∀ t : Tile, frameKind s.tables s.focus.focus (alerting s) s.screens[sc].peeked a t =
      tileKind s sc a t.channel := by
    intro t
    unfold frameKind tileKind tileOwner
    simp only [peeked, alerting_iff, Option.isSome_map, Bool.and_eq_true, decide_eq_true_eq]
    split
    · rfl
    · cases t.channel with
      | none => rfl
      | some c => rfl
  have tiles : (tilesOf sc s.tables.layout[sc] a).map Tile.channel =
      if s.tables.layout[sc].enabled then a.channels else [] := by
    unfold tilesOf
    split
    · cases a <;> rfl
    · rfl
  unfold kindsFor frameKinds tileKinds
  calc (tilesOf sc s.tables.layout[sc] a).map
        (frameKind s.tables s.focus.focus (alerting s) s.screens[sc].peeked a)
      = ((tilesOf sc s.tables.layout[sc] a).map Tile.channel).map (tileKind s sc a) := by
        rw [List.map_map]
        exact List.map_congr_left fun t _ => kind t
    _ = if s.tables.layout[sc].enabled then a.channels.map (tileKind s sc a) else [] := by
        rw [tiles]
        split <;> rfl

/-- Settles O5: each block's record at power-on, read field by field; the frame kinds are those of R88. -/
theorem powerOnClearsEveryBlock : Obligations.PowerOnClearsEveryBlock := by
  intro answers s
  obtain ⟨tb, src, e⟩ := doPowerOn_eq answers s
  have screen : ∀ sc : ScreenNo, (State.powerOn tb src s.store s.pending).screens[sc] = Screen.powerOn tb sc :=
    fun sc => by simp [State.powerOn]
  have port : ∀ n : Computer, (State.powerOn tb src s.store s.pending).ports[n] = Port.powerOn :=
    fun n => by simp [State.powerOn]
  have frames : ∀ sc : ScreenNo, (Screen.powerOn tb sc).frames =
      tileKinds (State.powerOn tb src s.store s.pending) sc tb.assignment[sc] := by
    intro sc
    rw [← kindsFor_eq_tileKinds]
    unfold kindsFor
    rw [screen]
    rfl
  refine ⟨_, rfl, ?_⟩
  rw [e]
  refine ⟨⟨fun c => by simp [State.powerOn, Console.powerOn], rfl, rfl, rfl⟩,
    ⟨initialFocus_eq_some_iff tb, rfl, rfl, rfl, rfl, fun n => by simp [State.powerOn, FocusCtl.powerOn]⟩,
    ⟨rfl, rfl, rfl, fun n => by simp [State.powerOn, Glide.powerOn]⟩, fun sc => ?_,
    fun c => by simp [State.powerOn, ChannelRt.powerOn], rfl, ?_, ⟨rfl, rfl, rfl, rfl, rfl, rfl⟩,
    ⟨rfl, rfl, fun n => by simp [State.powerOn, Alerts.powerOn]⟩, ⟨rfl, rfl, rfl⟩, fun n => ?_, fun hs hp => ?_⟩
  · rw [screen]
    refine ⟨rfl, rfl, rfl, rfl, rfl, rfl, frames sc, ?_⟩
    simp only [Screen.powerOn, State.powerOn, Lock.powerOn]
    cases startsLocked tb <;> simp
  · simp only [State.powerOn, Lock.powerOn, startsLocked, Bool.and_eq_true]
  · rw [port]
    exact ⟨rfl, rfl, rfl, rfl, rfl, rfl, rfl, rfl, rfl, rfl, rfl, rfl⟩
  · rw [← e]
    unfold doPowerOn State.reset
    rw [hs, hp]
    cases answers <;> rfl

/-! ### Indicator outputs (R17, R179) -/

/-- The five bits of an output, each indicator's at its place (R179). -/
theorem toByte_bits (v : Indicators) :
    v.toByte.getLsbD 0 = v.num ∧ v.toByte.getLsbD 1 = v.caps ∧ v.toByte.getLsbD 2 = v.scroll ∧
      v.toByte.getLsbD 3 = v.compose ∧ v.toByte.getLsbD 4 = v.kana ∧ v.toByte.getLsbD 5 = false ∧
      v.toByte.getLsbD 6 = false ∧ v.toByte.getLsbD 7 = false := by
  obtain ⟨a, b, c, d, e⟩ := v
  revert a b c d e
  decide

theorem toByte_high (v : Indicators) (i : Nat) (hi : 5 ≤ i) : v.toByte.getLsbD i = false := by
  obtain ⟨-, -, -, -, -, h5, h6, h7⟩ := toByte_bits v
  match i, hi with
  | 5, _ => exact h5
  | 6, _ => exact h6
  | 7, _ => exact h7
  | i + 8, _ => exact BitVec.getLsbD_of_ge _ _ (by omega)

theorem toByte_ofByte (b : Byte) : (Indicators.ofByte b).toByte = b &&& 31 := by
  revert b
  decide

/-- Settles O26: an ending by how the output ended, and the bits of its byte. -/
theorem indicatorOutputsEnd : Obligations.IndicatorOutputsEnd := by
  refine ⟨fun c how s => ⟨rfl, fun hne => ?_, fun keys shown sent hp => ?_⟩, fun v => ?_, toByte_ofByte⟩
  · have h : doIndicatorOutputEnd c how false s = s := by
      unfold doIndicatorOutputEnd
      split
      next hp => exact absurd hp (hne _ _ _)
      next => rfl
    exact congrArg _ h
  · have h : exec (.indicatorOutputEnd c how false) s = .next (endOutput c keys shown sent how s) := by
      simp only [exec, execIndicatorOutputEnd, doIndicatorOutputEnd, hp]
    rw [h]
    refine ⟨fun ha => ?_, fun ha hm => ?_, fun ha hm => ?_⟩
    · cases how with
      | accepted => exact absurd rfl ha
      | refused | failed => rfl
    · subst ha hm
      simp [endOutput, Console.startOutputAt, Console.outputFrom, ConsolePort.needsOutput, ConsolePort.startOutput,
        modConsolePort, State.setConsole]
    · subst ha
      simp [endOutput, Console.startOutputAt, Console.outputFrom, ConsolePort.needsOutput, ConsolePort.startOutput,
        modConsolePort, State.setConsole, hm]
  · obtain ⟨h0, h1, h2, h3, h4, -, -, -⟩ := toByte_bits v
    exact ⟨h0, h1, h2, h3, h4, toByte_high v⟩

/-! ### The reduction of a report (R6, R11) -/

theorem isModifier_iff (k : Nat) : isModifier k = true ↔ 224 ≤ k ∧ k ≤ 231 := by
  simp [isModifier]

theorem mem_listedKeys (r : KeyInput) (k : Nat) : k ∈ listedKeys r ↔ k ≠ 0 ∧ ∃ b ∈ r.keys, b.toNat = k := by
  simp only [listedKeys, mem_setOf, List.mem_filter, List.mem_map, decide_eq_true_eq]
  exact and_comm

theorem mem_modifierKeys (m : Byte) (k : Nat) :
    k ∈ modifierKeys m ↔ 224 ≤ k ∧ k ≤ 231 ∧ m.getLsbD (k - 224) = true := by
  simp only [modifierKeys, List.mem_map, List.mem_filter, bit]
  constructor
  · rintro ⟨i, ⟨hi, hb⟩, rfl⟩
    have h7 : i ≤ 7 := by simp at hi; omega
    exact ⟨by omega, by omega, by simpa using hb⟩
  · rintro ⟨h1, h2, hb⟩
    refine ⟨k - 224, ⟨?_, hb⟩, by omega⟩
    have : k - 224 ≤ 7 := by omega
    simp; omega

/-- The listed keys that count toward the limit, each once, are the longest list of them (R6). -/
theorem limit_passed_iff (r : KeyInput) :
    14 < ((listedKeys r).filter fun k => !isModifier k).length ↔ ∃ l : List Nat, l.Nodup ∧ 14 < l.length ∧
      ∀ k ∈ l, k ≠ 0 ∧ ¬ (224 ≤ k ∧ k ≤ 231) ∧ ∃ b ∈ r.keys, b.toNat = k := by
  have mem : ∀ k, k ∈ (listedKeys r).filter (fun k => !isModifier k) ↔
      k ≠ 0 ∧ ¬ (224 ≤ k ∧ k ≤ 231) ∧ ∃ b ∈ r.keys, b.toNat = k := by
    intro k
    rw [List.mem_filter, mem_listedKeys, Bool.not_eq_true', ← Bool.not_eq_true, isModifier_iff]
    tauto
  constructor
  · intro h
    have nodup : (listedKeys r).Nodup := (pairwise_setOf _).imp fun hab => Nat.ne_of_lt hab
    exact ⟨_, nodup.filter _, h, fun k hk => (mem k).1 hk⟩
  · rintro ⟨l, hn, hl, hk⟩
    exact lt_of_lt_of_le hl (hn.subperm fun k hm => (mem k).2 (hk k hm)).length_le

theorem reduceKeys_eq_none_iff (r : KeyInput) : reduceKeys r = none ↔ r.rollover = true ∨
    ∃ l : List Nat, l.Nodup ∧ 14 < l.length ∧
      ∀ k ∈ l, k ≠ 0 ∧ ¬ (224 ≤ k ∧ k ≤ 231) ∧ ∃ b ∈ r.keys, b.toNat = k := by
  rw [← limit_passed_iff]
  unfold reduceKeys Config.rolloverLimit
  split
  next h => simpa using h
  next h => simpa using h

theorem mem_reduceKeys {r : KeyInput} {n : List Nat} (h : reduceKeys r = some n) (k : Nat) : k ∈ n ↔
    (k ≠ 0 ∧ ∃ b ∈ r.keys, b.toNat = k) ∨ (224 ≤ k ∧ k ≤ 231 ∧ r.modifiers.getLsbD (k - 224) = true) := by
  unfold reduceKeys at h
  split at h
  · cases h
  · cases h
    rw [mem_setOf, List.mem_append, mem_listedKeys, mem_modifierKeys]

/-! ### What a report does, by the class of its port (R7, R14) -/

theorem exec_keyboardReport {c : ConsoleNo} {r : KeyInput} {s : State} {o n : List Nat} {shown : Indicators}
    {flight : Option Indicators} (hp : s.console.ports[c] = .keyboard o shown flight) (hr : reduceKeys r = some n) :
    exec (.keyboardReport c r) s = .next (takeKeySet c o n s) := by
  simp only [exec, execKeyboardReport, doKeyboardReport, hp, hr]

theorem exec_pointerReport {c : ConsoleNo} {r : PointerInput} {s : State} {o : List Nat}
    (hp : s.console.ports[c] = .pointer o) :
    exec (.pointerReport c r) s =
      .next (takeButtons c o (reduceButtons r) (clampMotion r.dx) (clampMotion r.dy) (clampWheel r.wheel) s) := by
  simp only [exec, execPointerReport, doPointerReport, hp]

/-- Settles O21: the reduction of a key report, and the reports their port's class ignores. -/
theorem reportsAreReducedOrIgnored : Obligations.ReportsAreReducedOrIgnored := by
  refine ⟨fun r => ⟨reduceKeys_eq_none_iff r, fun n h => ⟨pairwise_reduceKeys h, mem_reduceKeys h⟩⟩,
    fun c r s h => ?_, fun c r s h => ?_, fun c r s h => ?_⟩
  · have e : doKeyboardReport c r s = s := by
      unfold doKeyboardReport
      split
      next hr => rw [h] at hr; cases hr
      next => rfl
    exact congrArg _ e
  · have e : doKeyboardReport c r s = s := by
      unfold doKeyboardReport
      split
      next o shown flight n hp hr => exact absurd hp (h o shown flight)
      next => rfl
    exact congrArg _ e
  · have e : doPointerReport c r s = s := by
      unfold doPointerReport
      split
      next o hp => exact absurd hp (h o)
      all_goals rfl
    exact congrArg _ e

/-! ### Attach and detach (R2 to R5) -/

/-- A set whose device keeps nothing loses what no other device holds (R9, R12). -/
theorem emptied_iff {k : Nat} {o u : List Nat} {p : Prop} :
    ((k ∈ ([] : List Nat) ∧ k ∉ o) ∨ (k ∈ u ∧ (k ∈ ([] : List Nat) ∨ k ∉ o ∨ p))) ↔ k ∈ u ∧ (k ∉ o ∨ p) := by
  simp

/-- What a detach leaves: the other ports' sets and classes, and what the freed device alone held leaves the desk states
(R4, R5, R9, R12). -/
structure DetachEffect (c : ConsoleNo) (s t : State) : Prop where
  others : ∀ d : ConsoleNo, d ≠ c → t.console.ports[d].keys = s.console.ports[d].keys ∧
    t.console.ports[d].buttons = s.console.ports[d].buttons ∧ t.console.ports[d].code = s.console.ports[d].code
  deskKeys : ∀ k, k ∈ t.console.deskKeys ↔ k ∈ s.console.deskKeys ∧
    (k ∉ s.console.ports[c].keys ∨ ∃ d : ConsoleNo, d ≠ c ∧ k ∈ s.console.ports[d].keys)
  deskButtons : ∀ b, b ∈ t.console.deskButtons ↔ b ∈ s.console.deskButtons ∧
    (b ∉ s.console.ports[c].buttons ∨ ∃ d : ConsoleNo, d ≠ c ∧ b ∈ s.console.ports[d].buttons)

theorem DetachEffect.modConsolePort {c : ConsoleNo} {s t : State} (h : DetachEffect c s t) (f) :
    DetachEffect c s (modConsolePort c f t) where
  others d hd := by
    simp only [Fin.getElem_fin, modConsolePort_console_ports_ne f t hd]
    exact h.others d hd
  deskKeys := h.deskKeys
  deskButtons := h.deskButtons

theorem detachEffect_of_nothing_held {c : ConsoleNo} {s : State} (hk : s.console.ports[c].keys = [])
    (hb : s.console.ports[c].buttons = []) : DetachEffect c s s where
  others _ _ := ⟨rfl, rfl, rfl⟩
  deskKeys k := by simp only [hk, List.not_mem_nil, not_false_eq_true, true_or, and_true]
  deskButtons b := by simp only [hb, List.not_mem_nil, not_false_eq_true, true_or, and_true]

theorem doConsoleDetach_effect (c : ConsoleNo) (s : State) : DetachEffect c s (doConsoleDetach c s) := by
  unfold doConsoleDetach
  split
  next hp => exact detachEffect_of_nothing_held (by rw [hp]; rfl) (by rw [hp]; rfl)
  next o shown flight hp =>
    have e := takeKeySet_effect (c := c) (s := s) (by rw [hp]; rfl) o []
    have hb : s.console.ports[c].buttons = [] := by rw [hp]; rfl
    have ho : s.console.ports[c].keys = o := by rw [hp]; rfl
    refine DetachEffect.modConsolePort ⟨fun d hd => ⟨e.moved d hd, e.buttons d, e.codes d⟩, fun k => ?_, fun b => ?_⟩ _
    · rw [e.deskKeys, ho]
      exact emptied_iff
    · rw [e.deskButtons, hb]
      simp only [List.not_mem_nil, not_false_eq_true, true_or, and_true]
  next o hp =>
    have e := takeButtons_effect (c := c) (s := s) (by rw [hp]; rfl) o [] 0 0 0
    have hk : s.console.ports[c].keys = [] := by rw [hp]; rfl
    have ho : s.console.ports[c].buttons = o := by rw [hp]; rfl
    refine DetachEffect.modConsolePort ⟨fun d hd => ⟨e.keys d, e.moved d hd, e.codes d⟩, fun k => ?_, fun b => ?_⟩ _
    · rw [e.deskKeys, hk]
      simp only [List.not_mem_nil, not_false_eq_true, true_or, and_true]
    · rw [e.deskButtons, ho]
      exact emptied_iff
  next hp => exact (detachEffect_of_nothing_held (by rw [hp]; rfl) (by rw [hp]; rfl)).modConsolePort _

/-- The class R2 gives a device. -/
theorem classify_eq (d : DeviceDescription) :
    ((d.usable = true ∧ d.hub = false ∧ d.keyboard = true) → classify d = .keyboard [] Indicators.none none) ∧
    ((d.usable = true ∧ d.hub = false ∧ d.keyboard = false ∧ d.relativePointer = true) → classify d = .pointer []) ∧
    (¬ (d.usable = true ∧ d.hub = false ∧ d.keyboard = true) →
      ¬ (d.usable = true ∧ d.hub = false ∧ d.keyboard = false ∧ d.relativePointer = true) →
      classify d = .unsupported) := by
  obtain ⟨usable, hub, keyboard, relative, absolute⟩ := d
  cases usable <;> cases hub <;> cases keyboard <;> cases relative <;> simp [classify]

/-- Clamped motion and wheel of a motionless report are none. -/
theorem motionless_clamped {r : PointerInput} (h : motionless r) :
    clampMotion r.dx = 0 ∧ clampMotion r.dy = 0 ∧ clampWheel r.wheel = 0 := by
  obtain ⟨hx, hy, hw⟩ := h
  rw [hx, hy, hw]
  decide

/-- The first part of O20: what a detach does (R4, R5). -/
theorem consoleDetach_leaves (c : ConsoleNo) (s : State) :
    (∀ (o : List Nat) (shown : Indicators) (flight : Option Indicators) (r : KeyInput),
      s.console.ports[c] = .keyboard o shown flight → reduceKeys r = some [] →
      ∃ u, exec (.keyboardReport c r) s = .next u ∧ doConsoleDetach c s = modConsolePort c (fun _ => .none) u) ∧
    ∀ (o : List Nat) (r : PointerInput), s.console.ports[c] = .pointer o → reduceButtons r = [] → motionless r →
      ∃ u, exec (.pointerReport c r) s = .next u ∧ doConsoleDetach c s = modConsolePort c (fun _ => .none) u := by
  constructor
  · intro o shown flight r hp hr
    refine ⟨_, exec_keyboardReport hp hr, ?_⟩
    unfold doConsoleDetach
    rw [hp]
  · intro o r hp hr hm
    refine ⟨_, exec_pointerReport hp, ?_⟩
    obtain ⟨hx, hy, hw⟩ := motionless_clamped hm
    rw [hr, hx, hy, hw]
    unfold doConsoleDetach
    rw [hp]

/-- The outputs an attached keyboard starts (R17): at each port where one is due, and nowhere else. -/
theorem startOutputs_at (k : Console) (e : ConsoleNo) :
    (∀ keys shown, k.ports[e] = .keyboard keys shown none → shown ≠ k.mirrored →
      k.startOutputs.ports[e] = .keyboard keys shown (some k.mirrored) ∧
        k.startOutputs.outputs[e] = some k.mirrored.toByte) ∧
    ((¬ ∃ keys shown, k.ports[e] = .keyboard keys shown none ∧ shown ≠ k.mirrored) →
      k.startOutputs.ports[e] = k.ports[e] ∧ k.startOutputs.outputs[e] = k.outputs[e]) := by
  obtain ⟨idle, due⟩ := ConsolePort.startOutput_eq k.mirrored k.ports[e]
  simp only [Fin.getElem_fin, Console.startOutputs_ports, Console.startOutputs_outputs, Console.outputFrom]
  constructor
  · intro keys shown hp hs
    obtain ⟨h1, h2⟩ := due keys shown hp hs
    exact ⟨h2, if_pos h1⟩
  · intro hn
    have hno : k.ports[e].needsOutput k.mirrored = false := by
      rw [← Bool.not_eq_true]
      intro h
      unfold ConsolePort.needsOutput at h
      split at h
      next keys shown hp => exact hn ⟨keys, shown, hp, by simpa using h⟩
      all_goals cases h
    exact ⟨idle hno, if_neg (by simpa using hno)⟩

/-- Settles O20: a detach by the class of its port, and an attach by the class R2 gives the device. -/
theorem consoleDevicesComeAndGo : Obligations.ConsoleDevicesComeAndGo := by
  refine ⟨fun c s => ⟨fun hp => ?_, fun hp => ?_, ?_⟩, fun c d s => ?_⟩
  · simp only [exec, execConsoleDetach, doConsoleDetach, hp]
  · simp only [exec, execConsoleDetach, doConsoleDetach, hp]
    rfl
  · have e := doConsoleDetach_effect c s
    have b := background_doConsoleDetach c s
    obtain ⟨byKeys, byButtons⟩ := consoleDetach_leaves c s
    exact ⟨_, rfl, doConsoleDetach_frees c s, e.others, e.deskKeys, e.deskButtons, b.lock, b.tables, b.channels,
      b.settled.store, b.now, byKeys, byButtons⟩
  · obtain ⟨hkeyboard, hpointer, hother⟩ := classify_eq d
    refine ⟨_, _, rfl, rfl, fun hk => ⟨?_, ?_⟩, fun hp => ?_, fun hk hp => ?_⟩
    · unfold doConsoleAttach
      rw [hkeyboard hk]
      rfl
    · have hu : (doConsoleAttach c d s).console =
          (modConsolePort c (fun _ => .keyboard [] Indicators.none none) (doConsoleDetach c s)).console.startOutputs := by
        unfold doConsoleAttach
        rw [hkeyboard hk]
        rfl
      rw [hu]
      exact startOutputs_at
        (modConsolePort c (fun _ => .keyboard [] Indicators.none none) (doConsoleDetach c s)).console
    · unfold doConsoleAttach
      rw [hpointer hp]
      rfl
    · unfold doConsoleAttach
      rw [hother hk hp]
      rfl

end Sys2Proof.Machine
end

section
/-! ## Motion outside GLIDE, and indicator reports -/

namespace Sys2Proof.Machine

/-! ### Relative forwarding (R39, R40) -/

theorem forwardRelative_of_no_focus {s : State} (dx dy wheel : Int) (h : s.focus.focus = none) :
    forwardRelative dx dy wheel s = clearRemainder s := by
  unfold forwardRelative
  rw [h]

theorem takesReports_iff (l : LinkState) :
    l.takesReports = true ↔ l = .ready ∨ l = .suspended ∨ l = .waking := by
  cases l <;> simp [LinkState.takesReports]

theorem forwardRelative_of_closed {s : State} {f : Computer} (dx dy wheel : Int) (h : s.focus.focus = some f)
    (hl : s.ports[f].link.takesReports ≠ true) : forwardRelative dx dy wheel s = clearRemainder s := by
  unfold forwardRelative
  rw [h]
  exact if_neg hl

/-- The state with the remainders that motion leaves (R39). -/
def remainderKept (dx dy : Int) (s : State) : State :=
  s.setFocus { s.focus with rx := leftCount (s.focus.rx + dx), ry := leftCount (s.focus.ry + dy) }

theorem forwardRelative_of_open {s : State} {f : Computer} (dx dy wheel : Int) (h : s.focus.focus = some f)
    (hl : s.ports[f].link.takesReports = true) : forwardRelative dx dy wheel s =
      if sentCount (s.focus.rx + dx) = 0 ∧ sentCount (s.focus.ry + dy) = 0 ∧ wheel = 0 then remainderKept dx dy s
      else (remainderKept dx dy s).modPort f (Port.takePointer s.now
        ⟨.relative, sentCount (s.focus.rx + dx), sentCount (s.focus.ry + dy), s.focus.beliefs[f].buttons, wheel⟩) := by
  unfold forwardRelative
  rw [h]
  exact if_pos hl

/-- A change of a port's record is given by its values there. -/
theorem modPort_congr {s : State} {n : Computer} {f g : Port → Port} (h : f s.ports[n] = g s.ports[n]) :
    s.modPort n f = s.modPort n g := by
  unfold State.modPort
  rw [h]

theorem takePointer_of_ready {now : Nat} {r : PtrReport} {p : Port} (h : p.link = .ready) :
    p.takePointer now r = p.addPointer now r := by
  unfold Port.takePointer
  rw [h]

/-- The report a port holds once it has been handed `r` (R152). -/
def heldWith (r : PtrReport) : Option PtrReport → PtrReport
  | none => r
  | some q => q.merge r

theorem takePointer_of_asleep {now : Nat} {r : PtrReport} {p : Port} (h : p.link = .suspended ∨ p.link = .waking) :
    p.takePointer now r = { p with held := some (heldWith r p.held) } := by
  have e : p.takePointer now r = p.holdReport r := by
    unfold Port.takePointer
    rcases h with h | h <;> rw [h]
  rw [e]
  unfold Port.holdReport
  split
  next hh => simp only [hh, heldWith]
  next q hh => simp only [hh, heldWith]

/-- Motion that is not none is not none once clamped (R11). -/
theorem clamped_ne_zero {r : PointerInput} (h : ¬ motionless r) :
    ¬ (clampMotion r.dx = 0 ∧ clampMotion r.dy = 0 ∧ clampWheel r.wheel = 0) := by
  unfold motionless at h
  simp only [clampMotion, clampWheel, clampInt]
  omega

@[simp] theorem setDiff_self (l : List Nat) : setDiff l l = [] := by
  simp [setDiff]

/-- A report that leaves the buttons as they were is its motion (R13). -/
theorem takeButtons_same (c : ConsoleNo) (n : List Nat) (dx dy wheel : Int) (s : State) :
    takeButtons c n n dx dy wheel s = modConsolePort c (ConsolePort.setButtons n) (reportMotion dx dy wheel c s) := by
  simp only [takeButtons, setDiff_self, List.foldl]

theorem forwardRelative_console (dx dy wheel : Int) (s : State) :
    (forwardRelative dx dy wheel s).console = s.console := by
  cases h : s.focus.focus with
  | none =>
    rw [forwardRelative_of_no_focus dx dy wheel h]
    rfl
  | some f =>
    by_cases hl : s.ports[f].link.takesReports = true
    · rw [forwardRelative_of_open dx dy wheel h hl]
      split <;> rfl
    · rw [forwardRelative_of_closed dx dy wheel h hl]
      rfl

/-- Outside GLIDE an UNLOCKED console forwards a report of motion alone as relative counts (R35, R115). -/
theorem exec_pointerReport_relative {c : ConsoleNo} {r : PointerInput} {s : State} (hl : s.lock.state = .unlocked)
    (hm : s.focus.mode ≠ .glide) (hb : buttonsSame c r s) (hn : ¬ motionless r) :
    exec (.pointerReport c r) s =
      .next (forwardRelative (clampMotion r.dx) (clampMotion r.dy) (clampWheel r.wheel) s) := by
  have hmotion : ∀ dx dy wheel, motionItem dx dy wheel c s = forwardRelative dx dy wheel s := by
    intro dx dy wheel
    unfold motionItem
    split
    next h => exact absurd h hm
    all_goals rfl
  rw [exec_pointerReport hb, takeButtons_same]
  unfold reportMotion lockMotion
  rw [if_neg (clamped_ne_zero hn), hl]
  dsimp only
  rw [hmotion, modConsolePort_eq_self]
  rw [forwardRelative_console, ← Fin.getElem_fin, hb]
  rfl

/-- Settles O28: the motion is forwarded, and what forwarding does goes by the focus computer's link state. -/
theorem motionIsForwardedRelative : Obligations.MotionIsForwardedRelative := by
  intro c r s hl hm hb hn
  rw [exec_pointerReport_relative hl hm hb hn]
  refine ⟨fun hf => congrArg _ (forwardRelative_of_no_focus _ _ _ hf), fun f hf => ⟨fun ht => ?_, fun ht hs => ?_,
    fun ht hs => ?_, fun ht hs => ?_⟩⟩
  · exact congrArg _ (forwardRelative_of_closed _ _ _ hf (mt (takesReports_iff _).1 ht))
  · rw [forwardRelative_of_open _ _ _ hf ((takesReports_iff _).2 ht)]
    exact congrArg _ (if_pos (not_not.1 hs))
  · rw [forwardRelative_of_open _ _ _ hf ((takesReports_iff _).2 (.inl ht))]
    refine congrArg _ ((if_neg hs).trans (modPort_congr ?_))
    exact takePointer_of_ready ht
  · rw [forwardRelative_of_open _ _ _ hf ((takesReports_iff _).2 (.inr ht))]
    refine congrArg _ ((if_neg hs).trans (modPort_congr ?_))
    exact (takePointer_of_asleep ht).trans (by unfold heldWith; rfl)

/-! ### The tile frames computed anew (R88, R89) -/

theorem recomputeFrames_screens (s : State) (sc : ScreenNo) :
    (recomputeFrames s).screens[sc] = s.screens[sc].takeKinds (kindsFor s sc s.screens[sc].displayed) := by
  simp [recomputeFrames]

/-- What taking computed frame kinds leaves of a screen's record. -/
theorem takeKinds_keeps (kinds : List FrameKind) (r : Screen) :
    (r.takeKinds kinds).attached = r.attached ∧ (r.takeKinds kinds).reported = r.reported ∧
      (r.takeKinds kinds).native = r.native ∧ (r.takeKinds kinds).displayed = r.displayed ∧
      (r.takeKinds kinds).pendingAssignment = r.pendingAssignment ∧ (r.takeKinds kinds).peek = r.peek ∧
      (r.takeKinds kinds).blanked = r.blanked := by
  unfold Screen.takeKinds
  split <;> exact ⟨rfl, rfl, rfl, rfl, rfl, rfl, rfl⟩

theorem screensKept_refl (s : State) : screensKept s s := fun _ => ⟨rfl, rfl, rfl, rfl, rfl, rfl, rfl⟩

theorem screensKept_recomputeFrames (s : State) : screensKept s (recomputeFrames s) := by
  intro sc
  rw [recomputeFrames_screens]
  exact takeKinds_keeps _ _

theorem tileKinds_congr {s t : State} {sc : ScreenNo} (hp : t.screens[sc].peek = s.screens[sc].peek)
    (ht : t.tables = s.tables) (hf : t.focus.focus = s.focus.focus) (ha : t.alerts.list = s.alerts.list)
    (a : Assignment) : tileKinds t sc a = tileKinds s sc a := by
  have h : tileKind t sc a = tileKind s sc a := by
    funext c
    unfold tileKind
    rw [hp, ht, hf, ha]
  unfold tileKinds
  rw [h, ht]

theorem framesAnew_recomputeFrames (s : State) : framesAnew (recomputeFrames s) := by
  intro sc
  obtain ⟨hattached, -, -, hdisplayed, -, hpeek, -⟩ := screensKept_recomputeFrames s sc
  have kinds : tileKinds (recomputeFrames s) sc (recomputeFrames s).screens[sc].displayed =
      kindsFor s sc s.screens[sc].displayed := by
    rw [hdisplayed, kindsFor_eq_tileKinds]
    exact tileKinds_congr hpeek rfl rfl rfl _
  unfold screenAnew
  rw [kinds, hattached, recomputeFrames_screens]
  unfold Screen.takeKinds
  split
  next h => exact ⟨fun _ => rfl, fun e => absurd (e.symm.trans h) (by decide)⟩
  next h => exact ⟨fun e => absurd e h, fun _ => ⟨rfl, rfl⟩⟩

theorem framesAnew_congr {s t : State} (h : framesAnew s) (hs : t.screens = s.screens) (ht : t.tables = s.tables)
    (hf : t.focus.focus = s.focus.focus) (ha : t.alerts.list = s.alerts.list) : framesAnew t := by
  intro sc
  have kinds := tileKinds_congr (s := s) (t := t) (sc := sc) (by rw [hs]) ht hf ha
  unfold screenAnew
  rw [kinds, hs]
  exact h sc

/-! ### A change of the alert list (R135) -/

theorem setAlertList_same {l : List AlertEntry} {s : State} (h : l = s.alerts.list) : setAlertList l s = s :=
  if_pos h

theorem setAlertList_changed {l : List AlertEntry} {s : State} (h : l ≠ s.alerts.list) :
    setAlertList l s = recomputeFrames (raise .alert (s.setAlerts { s.alerts with list := l })) :=
  if_neg h

/-- What a change of the alert list does besides putting the list in place. -/
structure AlertListSet (l : List AlertEntry) (s t : State) : Prop where
  alerts : t.alerts = { s.alerts with list := l }
  console : t.console = s.console
  focus : t.focus = s.focus
  glide : t.glide = s.glide
  typeout : t.typeout = s.typeout
  screens : screensKept s t
  indicators : ∀ n : Computer, t.ports[n].indicators = s.ports[n].indicators

theorem setAlertList_sets (l : List AlertEntry) (s : State) : AlertListSet l s (setAlertList l s) := by
  by_cases h : l = s.alerts.list
  · rw [setAlertList_same h]
    exact ⟨by rw [h], rfl, rfl, rfl, rfl, screensKept_refl s, fun _ => rfl⟩
  · rw [setAlertList_changed h]
    refine ⟨rfl, rfl, rfl, rfl, rfl,
      screensKept_recomputeFrames (raise .alert (s.setAlerts { s.alerts with list := l })), fun n => ?_⟩
    simp [recomputeFrames, raise]

theorem tookEvent_raise (e : EventKind) (s : State) : tookEvent e s (raise e s) := by
  intro n
  simp [raise, summaryAfter]

/-! ### Indicator reports (R133, R145) -/

theorem alertCondition_iff (e : ComputerEntry) (lamps : Indicators) : alertCondition e true lamps = true ↔
    ∃ i, e.alertIndicator = some i ∧ lamps.has i = decide (e.alertSense = .on) := by
  unfold alertCondition
  cases e.alertIndicator with
  | none => simp
  | some i => cases e.alertSense <;> simp

theorem hasEntry_iff (l : List AlertEntry) (n : Computer) : hasEntry l n = true ↔ ∃ x ∈ l, x.computer = n := by
  simp [hasEntry]

theorem riseList_of_absent {s : State} {n : Computer} (hp : s.tables.computer[n].parked = false)
    (he : ∀ x ∈ s.alerts.list, ¬ x.computer = n) :
    riseList s n = s.alerts.list ++ [⟨n, s.tables.computer[n].alertKind, .indicator⟩] := by
  have h : hasEntry s.alerts.list n = false := by
    rw [← Bool.not_eq_true, hasEntry_iff]
    rintro ⟨x, hx, hc⟩
    exact he x hx hc
  unfold riseList
  rw [hp, h]
  rfl

theorem riseList_of_present {s : State} {n : Computer}
    (h : s.tables.computer[n].parked = true ∨ ∃ x ∈ s.alerts.list, x.computer = n) : riseList s n = s.alerts.list := by
  unfold riseList
  rw [← hasEntry_iff] at h
  exact if_pos (by simpa using h)

theorem fallList_eq (s : State) (n : Computer) : fallList s n =
    s.alerts.list.filter (fun x => !decide (x.computer = n ∧ x.kind = .level ∧ x.raisedBy = .indicator)) := by
  unfold fallList dropEntries
  congr 1
  funext x
  simp

/-- The alert list after an indicator report, by the new condition and the old one (R133). -/
def reportedList (n : Computer) (new old : Bool) (s : State) : List AlertEntry :=
  if new && !old then riseList s n else if old && !new then fallList s n else s.alerts.list

theorem reportedList_of_no_rise {n : Computer} {new old : Bool} {s : State}
    (h : (new = true ↔ old = true) ∨
      (new = true ∧ (s.tables.computer[n].parked = true ∨ ∃ x ∈ s.alerts.list, x.computer = n))) :
    reportedList n new old s = s.alerts.list := by
  rcases h with h | ⟨h, hp⟩
  · have e : new = old := Bool.eq_iff_iff.2 h
    subst e
    cases new <;> rfl
  · subst h
    cases old with
    | false => exact riseList_of_present hp
    | true => rfl

/-- The state with the set an indicator report brings stored, before it is taken up (R145). -/
def reportStored (n : Computer) (lamps : Byte) (s : State) : State :=
  s.modPort n fun p => { p with indicators := Indicators.ofByte lamps }

theorem takeIndicatorReport_stored (n : Computer) (lamps : Byte) (s : State) :
    takeIndicatorReport n (reportStored n lamps s) =
      let new := alertCondition s.tables.computer[n] true (Indicators.ofByte lamps)
      setAlertList (reportedList n new s.alerts.sources[n].condition s) (setSource n ⟨true, new⟩ (reportStored n lamps s)) := by
  have h : (reportStored n lamps s).ports[n].indicators = Indicators.ofByte lamps := by
    simp [reportStored]
  unfold takeIndicatorReport
  rw [h]
  rfl

/-- What bringing the lamps into agreement leaves alone. -/
theorem syncMirror_keeps (s : State) :
    (syncMirror s).ports = s.ports ∧ (syncMirror s).alerts = s.alerts ∧ (syncMirror s).mgmt = s.mgmt ∧
      (syncMirror s).focus = s.focus ∧ (syncMirror s).glide = s.glide ∧ (syncMirror s).typeout = s.typeout ∧
      (syncMirror s).screens = s.screens ∧ (syncMirror s).tables = s.tables := by
  unfold syncMirror
  split <;> exact ⟨rfl, rfl, rfl, rfl, rfl, rfl, rfl, rfl⟩

/-- A changed source puts its set in the lamps and starts an output where one is due (R16, R17). -/
theorem syncMirror_lamps {s : State} {set : Indicators} (hsrc : mirrorSource s = set) (hne : s.console.mirrored ≠ set)
    {c : ConsoleNo} {keys : List Nat} {shown : Indicators} (hp : s.console.ports[c] = .keyboard keys shown none) :
    (syncMirror s).console.ports[c] = .keyboard keys shown (if shown = set then none else some set) ∧
      (syncMirror s).console.outputs[c] = if shown = set then s.console.outputs[c] else some set.toByte := by
  subst hsrc
  have e : (syncMirror s).console = { s.console with mirrored := mirrorSource s }.startOutputs := by
    unfold syncMirror
    rw [if_neg (Ne.symm hne)]
    rfl
  rw [e]
  simp only [Fin.getElem_fin] at hp
  by_cases hs : shown = mirrorSource s
  · simp [Console.outputFrom, hp, ConsolePort.startOutput, ConsolePort.needsOutput, hs]
  · simp [Console.outputFrom, hp, ConsolePort.startOutput, ConsolePort.needsOutput, hs]

/-- The clauses of `DeskKept` are those of `Quiet` and the screens. -/
theorem Quiet.deskKept {s t : State} (h : Quiet s t) (hs : screensKept s t) : DeskKept s t :=
  ⟨h.now, h.tables, h.store, h.lock, h.matcher, h.channels, h.wakeAll, h.deskKeys, h.deskButtons, h.keys, h.buttons,
    h.generation, h.masks, h.freezeSet, hs⟩

/-- The alert condition an indicator report gives computer `n` (R133). -/
def reportedCondition (n : Computer) (lamps : Byte) (s : State) : Bool :=
  alertCondition s.tables.computer[n] true (Indicators.ofByte lamps)

/-- The alert list an indicator report leaves (R133). -/
def listAfterReport (n : Computer) (lamps : Byte) (s : State) : List AlertEntry :=
  reportedList n (reportedCondition n lamps s) s.alerts.sources[n].condition s

/-- What storing an indicator report and taking it up for the alerts leaves (R133, R145). -/
structure ReportTaken (n : Computer) (lamps : Byte) (s u : State) : Prop where
  indicators : ∀ m : Computer, u.ports[m].indicators = if n = m then Indicators.ofByte lamps else s.ports[m].indicators
  sources : u.alerts.sources = s.alerts.sources.set n ⟨true, reportedCondition n lamps s⟩
  list : u.alerts.list = listAfterReport n lamps s
  rotation : u.alerts.rotation = s.alerts.rotation
  console : u.console = s.console
  focus : u.focus = s.focus
  glide : u.glide = s.glide
  typeout : u.typeout = s.typeout
  screens : screensKept s u
  changed : listAfterReport n lamps s ≠ s.alerts.list → tookEvent .alert s u ∧ framesAnew u
  unchanged : listAfterReport n lamps s = s.alerts.list → u.mgmt = s.mgmt

theorem takeIndicatorReport_taken (n : Computer) (lamps : Byte) (s : State) :
    ReportTaken n lamps s (takeIndicatorReport n (reportStored n lamps s)) := by
  have e : takeIndicatorReport n (reportStored n lamps s) = setAlertList (listAfterReport n lamps s)
      (setSource n ⟨true, reportedCondition n lamps s⟩ (reportStored n lamps s)) :=
    takeIndicatorReport_stored n lamps s
  have a := setAlertList_sets (listAfterReport n lamps s)
    (setSource n ⟨true, reportedCondition n lamps s⟩ (reportStored n lamps s))
  rw [e]
  refine ⟨fun m => ?_, by rw [a.alerts]; rfl, by rw [a.alerts], by rw [a.alerts]; rfl, a.console, a.focus, a.glide,
    a.typeout, a.screens, fun h => ?_, fun h => ?_⟩
  · rw [a.indicators]
    simp only [setSource, reportStored, State.setAlerts_ports, Fin.getElem_fin, State.modPort_ports]
    split <;> rfl
  · rw [setAlertList_changed (s := setSource n ⟨true, reportedCondition n lamps s⟩ (reportStored n lamps s)) h]
    exact ⟨tookEvent_raise .alert ((setSource n ⟨true, reportedCondition n lamps s⟩ (reportStored n lamps s)).setAlerts _),
      framesAnew_recomputeFrames _⟩
  · rw [setAlertList_same (s := setSource n ⟨true, reportedCondition n lamps s⟩ (reportStored n lamps s)) h]
    rfl

theorem mirrorSource_taken {n : Computer} {lamps : Byte} {s u : State} (h : ReportTaken n lamps s u) :
    mirrorSource u = if s.focus.focus = some n then Indicators.ofByte lamps else mirrorSource s := by
  unfold mirrorSource
  rw [h.focus]
  cases hf : s.focus.focus with
  | none => rfl
  | some m =>
    dsimp only
    rw [h.indicators]
    by_cases hm : n = m
    · rw [if_pos hm, if_pos (by rw [hm])]
    · rw [if_neg hm, if_neg (fun e => hm (Option.some.inj e).symm)]

/-- Settles O51: the set is stored, then the alert unit takes it up, then the lamps follow. -/
theorem indicatorReportsAreTakenUp : Obligations.IndicatorReportsAreTakenUp := by
  intro n lamps s
  refine ⟨fun h1 h2 => congrArg _ (if_neg (by tauto)), fun hlink hm => ?_⟩
  have k := takeIndicatorReport_taken n lamps s
  have hsrc := mirrorSource_taken k
  have q := quiet_doIndicatorReport n lamps s
  have e : doIndicatorReport n lamps s = syncMirror (takeIndicatorReport n (reportStored n lamps s)) := if_pos hlink
  rw [e] at q
  generalize takeIndicatorReport n (reportStored n lamps s) = u at k hsrc q e
  obtain ⟨kports, kalerts, kmgmt, kfocus, kglide, ktypeout, kscreens, ktables⟩ := syncMirror_keeps u
  have cond : reportedCondition n lamps s = true ↔ _ :=
    alertCondition_iff s.tables.computer[n] (Indicators.ofByte lamps)
  refine ⟨syncMirror u, congrArg Host.Outcome.next e, ?_, ?_, fun hc => ?_, fun hc => ?_, fun hc ho hp hx => ?_,
    fun hc ho => ?_, fun h => ?_, fun hf => ⟨?_, fun c keys shown hne hp => ?_⟩, fun hf => ?_, ?_, ?_, ?_,
    q.deskKept ?_⟩
  · rw [kports, k.indicators, if_pos rfl]
  · rw [kalerts, k.rotation]
  · rw [kalerts, k.sources, cond.2 hc]
  · rw [kalerts, k.sources, Bool.eq_false_iff.2 (mt cond.1 hc)]
  · have hrise : listAfterReport n lamps s = s.alerts.list ++ [⟨n, s.tables.computer[n].alertKind, .indicator⟩] := by
      unfold listAfterReport
      rw [cond.2 hc, Bool.eq_false_iff.2 ho]
      exact riseList_of_absent hp hx
    obtain ⟨htook, hanew⟩ := k.changed (by simp [hrise])
    refine ⟨by rw [kalerts, k.list, hrise], fun m => ?_, ?_⟩
    · rw [kmgmt]
      exact htook m
    · exact framesAnew_congr hanew kscreens ktables (by rw [kfocus]) (by rw [kalerts])
  · rw [kalerts, k.list, listAfterReport, Bool.eq_false_iff.2 (mt cond.1 hc), ho]
    exact fallList_eq s n
  · have hkeep : listAfterReport n lamps s = s.alerts.list := reportedList_of_no_rise (by rw [cond]; exact h)
    exact ⟨by rw [kalerts, k.list, hkeep], by rw [kmgmt, k.unchanged hkeep]⟩
  · have hmir : (syncMirror u).console.mirrored = mirrorSource (syncMirror u) := mirrored_syncMirror
    have hsame : mirrorSource (syncMirror u) = mirrorSource u := by
      unfold mirrorSource
      rw [kfocus, kports]
    rw [hmir, hsame, hsrc, if_pos hf]
  · rw [← k.console] at hne hp ⊢
    exact syncMirror_lamps (hsrc.trans (if_pos hf)) hne hp
  · have hagree : mirrorSource u = u.console.mirrored := by rw [hsrc, if_neg hf, k.console, hm]
    rw [syncMirror, if_pos hagree, k.console]
  · rw [kfocus, k.focus]
  · rw [kglide, k.glide]
  · rw [ktypeout, k.typeout]
  · intro sc
    rw [kscreens]
    exact k.screens sc

end Sys2Proof.Machine
end

section
/-! ## A report with several changes is taken change by change (R8, R13) -/

namespace Sys2Proof.Machine

/-! ### The order of the changes -/

/-- A release of `k` comes before one of `x`: modifiers last, each group ascending (R8; log entry 37). -/
def releaseBefore (k x : Nat) : Prop :=
  ((224 ≤ k ∧ k ≤ 231 ↔ 224 ≤ x ∧ x ≤ 231) ∧ k < x) ∨ (¬ (224 ≤ k ∧ k ≤ 231) ∧ 224 ≤ x ∧ x ≤ 231)

/-- A press of `k` comes before one of `x`: modifiers first, each group ascending (R8; log entry 37). -/
def pressBefore (k x : Nat) : Prop :=
  ((224 ≤ k ∧ k ≤ 231 ↔ 224 ≤ x ∧ x ≤ 231) ∧ k < x) ∨ ((224 ≤ k ∧ k ≤ 231) ∧ ¬ (224 ≤ x ∧ x ≤ 231))

/-- Lists in one strict order with the same members are equal. -/
theorem eq_of_ordered {R : Nat → Nat → Prop} (irrefl : ∀ a, ¬ R a a) (antisymm : ∀ a b, R a b → R b a → a = b)
    {l m : List Nat} (hl : l.Pairwise R) (hm : m.Pairwise R) (h : ∀ a, a ∈ l ↔ a ∈ m) : l = m := by
  have : Std.Irrefl R := ⟨irrefl⟩
  have : Std.Antisymm R := ⟨antisymm⟩
  exact hl.eq_of_mem_iff hm h

theorem eq_of_releaseBefore {l m : List Nat} (hl : l.Pairwise releaseBefore) (hm : m.Pairwise releaseBefore)
    (h : ∀ a, a ∈ l ↔ a ∈ m) : l = m :=
  eq_of_ordered (fun a => by unfold releaseBefore; omega) (fun a b => by unfold releaseBefore; omega) hl hm h

theorem eq_of_pressBefore {l m : List Nat} (hl : l.Pairwise pressBefore) (hm : m.Pairwise pressBefore)
    (h : ∀ a, a ∈ l ↔ a ∈ m) : l = m :=
  eq_of_ordered (fun a => by unfold pressBefore; omega) (fun a b => by unfold pressBefore; omega) hl hm h

theorem eq_of_ascending {l m : List Nat} (hl : l.Pairwise (· < ·)) (hm : m.Pairwise (· < ·))
    (h : ∀ a, a ∈ l ↔ a ∈ m) : l = m :=
  eq_of_ordered Nat.lt_irrefl (fun _ _ h1 h2 => absurd h1 (Nat.lt_asymm h2)) hl hm h

theorem pairwise_setDiff {l : List Nat} (h : l.Pairwise (· < ·)) (m : List Nat) :
    (setDiff l m).Pairwise (· < ·) :=
  h.filter _

theorem not_isModifier_iff (k : Nat) : (!isModifier k) = true ↔ ¬ (224 ≤ k ∧ k ≤ 231) := by
  rw [Bool.not_eq_true', ← Bool.not_eq_true, isModifier_iff]

theorem pairwise_keyReleases {o : List Nat} (h : o.Pairwise (· < ·)) (n : List Nat) :
    (keyReleases o n).Pairwise releaseBefore := by
  have hd := pairwise_setDiff h n
  unfold keyReleases
  refine List.pairwise_append.2 ⟨(hd.filter _).imp_of_mem ?_, (hd.filter _).imp_of_mem ?_, ?_⟩
  · intro a b ha hb hab
    rw [List.mem_filter, not_isModifier_iff] at ha hb
    unfold releaseBefore
    omega
  · intro a b ha hb hab
    rw [List.mem_filter, isModifier_iff] at ha hb
    unfold releaseBefore
    omega
  · intro a ha b hb
    rw [List.mem_filter, not_isModifier_iff] at ha
    rw [List.mem_filter, isModifier_iff] at hb
    unfold releaseBefore
    omega

theorem pairwise_keyPresses {n : List Nat} (h : n.Pairwise (· < ·)) (o : List Nat) :
    (keyPresses o n).Pairwise pressBefore := by
  have hd := pairwise_setDiff h o
  unfold keyPresses
  refine List.pairwise_append.2 ⟨(hd.filter _).imp_of_mem ?_, (hd.filter _).imp_of_mem ?_, ?_⟩
  · intro a b ha hb hab
    rw [List.mem_filter, isModifier_iff] at ha hb
    unfold pressBefore
    omega
  · intro a b ha hb hab
    rw [List.mem_filter, not_isModifier_iff] at ha hb
    unfold pressBefore
    omega
  · intro a ha b hb
    rw [List.mem_filter, isModifier_iff] at ha
    rw [List.mem_filter, not_isModifier_iff] at hb
    unfold pressBefore
    omega

/-! ### The changes of a key report, split after the first -/

/-- The changes from `o` to `n` are those from `o` to `m` and then those from `m` to `n`. -/
def keyChangesSplit (o m n : List Nat) : Prop :=
  (keyReleases o n = keyReleases o m ++ keyReleases m n ∧ keyPresses o m = [] ∧ keyPresses o n = keyPresses m n) ∨
    (keyReleases o n = [] ∧ keyReleases o m = [] ∧ keyReleases m n = [] ∧
      keyPresses o n = keyPresses o m ++ keyPresses m n)

theorem keyPresses_congr {o m n : List Nat} (h : ∀ a ∈ n, a ∈ o ↔ a ∈ m) : keyPresses o n = keyPresses m n := by
  have e : setDiff n o = setDiff n m := List.filter_congr fun a ha => by simp [h a ha]
  unfold keyPresses
  rw [e]

theorem keyReleases_eq_nil {o n : List Nat} (h : ∀ a ∈ o, a ∈ n) : keyReleases o n = [] :=
  List.eq_nil_iff_forall_not_mem.2 fun a ha => by
    obtain ⟨h1, h2⟩ := (mem_keyReleases a o n).1 ha
    exact h2 (h a h1)

theorem keyPresses_eq_nil {o n : List Nat} (h : ∀ a ∈ n, a ∈ o) : keyPresses o n = [] :=
  List.eq_nil_iff_forall_not_mem.2 fun a ha => by
    obtain ⟨h1, h2⟩ := (mem_keyPresses a o n).1 ha
    exact h2 (h a h1)

/-- The first change in the order of R8 splits the changes. -/
theorem keyChangesSplit_of_first {o n m : List Nat} (ho : o.Pairwise (· < ·)) (hn : n.Pairwise (· < ·))
    (hm : m.Pairwise (· < ·)) (h : firstKeyChange o n m) : keyChangesSplit o m n := by
  rcases h with ⟨k, hk, hkn, first, mem⟩ | ⟨sub, k, hk, hko, first, mem⟩
  · have one : keyReleases o m = [k] := by
      refine eq_of_releaseBefore (pairwise_keyReleases ho m) (List.pairwise_singleton _ _) fun a => ?_
      rw [mem_keyReleases, mem, List.mem_singleton]
      constructor
      · tauto
      · rintro rfl
        exact ⟨hk, fun e => e.2 rfl⟩
    refine .inl ⟨?_, keyPresses_eq_nil fun a ha => ((mem a).1 ha).1, keyPresses_congr fun a ha => ?_⟩
    · rw [one]
      refine eq_of_releaseBefore (pairwise_keyReleases ho n)
        (List.pairwise_cons.2 ⟨fun x hx => ?_, pairwise_keyReleases hm n⟩) fun a => ?_
      · obtain ⟨h1, h2⟩ := (mem_keyReleases x m n).1 hx
        obtain ⟨hxo, hxk⟩ := (mem x).1 h1
        exact (first x hxo h2).resolve_left hxk
      · change _ ↔ a ∈ k :: keyReleases m n
        rw [List.mem_cons, mem_keyReleases, mem_keyReleases, mem]
        by_cases hak : a = k
        · subst hak
          simp [hk, hkn]
        · simp [hak]
    · rw [mem]
      exact ⟨fun e => ⟨e, fun e' => hkn (e' ▸ ha)⟩, fun e => e.1⟩
  · have one : keyPresses o m = [k] := by
      refine eq_of_pressBefore (pairwise_keyPresses hm o) (List.pairwise_singleton _ _) fun a => ?_
      rw [mem_keyPresses, mem, List.mem_singleton]
      constructor
      · tauto
      · rintro rfl
        exact ⟨.inr rfl, hko⟩
    refine .inr ⟨keyReleases_eq_nil sub, keyReleases_eq_nil fun a ha => (mem a).2 (.inl ha),
      keyReleases_eq_nil fun a ha => ?_, ?_⟩
    · rcases (mem a).1 ha with h | rfl
      · exact sub a h
      · exact hk
    · rw [one]
      refine eq_of_pressBefore (pairwise_keyPresses hn o)
        (List.pairwise_cons.2 ⟨fun x hx => ?_, pairwise_keyPresses hn m⟩) fun a => ?_
      · obtain ⟨h1, h2⟩ := (mem_keyPresses x m n).1 hx
        rw [mem, not_or] at h2
        exact (first x h1 h2.1).resolve_left h2.2
      · change _ ↔ a ∈ k :: keyPresses m n
        rw [List.mem_cons, mem_keyPresses, mem_keyPresses, mem]
        by_cases hak : a = k
        · subst hak
          simp [hk, hko]
        · simp [hak]

/-- The changes of one report, taken in two. -/
theorem takeKeySet_split {o m n : List Nat} (h : keyChangesSplit o m n) (c : ConsoleNo) (s : State) :
    takeKeySet c m n (takeKeySet c o m s) = takeKeySet c o n s := by
  have e : (keyPresses m n).foldl devicePress ((keyReleases m n).foldl (deviceRelease c)
      ((keyPresses o m).foldl devicePress ((keyReleases o m).foldl (deviceRelease c) s))) =
      (keyPresses o n).foldl devicePress ((keyReleases o n).foldl (deviceRelease c) s) := by
    rcases h with ⟨h1, h2, h3⟩ | ⟨h1, h2, h3, h4⟩
    · rw [h1, h2, h3, List.foldl_append]
      rfl
    · rw [h1, h2, h3, h4, List.foldl_append]
      rfl
  unfold takeKeySet
  rw [keyChanges_lastSets (setsOnly_setKeys m), setKeys_twice, e]

/-- The port of a keyboard after a report of its key set. -/
theorem takeKeySet_port {c : ConsoleNo} {s : State} {o : List Nat} {shown : Indicators} {flight : Option Indicators}
    (hp : s.console.ports[c] = .keyboard o shown flight) (m : List Nat) :
    ∃ shown' flight', (takeKeySet c o m s).console.ports[c] = .keyboard m shown' flight' := by
  have hc : s.console.ports[c].code = 1 := by rw [hp]; rfl
  have e := takeKeySet_effect hc o m
  obtain ⟨shown', flight', h⟩ := ConsolePort.keyboard_of_code ((e.codes c).trans hc)
  rw [e.own] at h
  exact ⟨shown', flight', h⟩

/-- A key set that is the last one changes nothing. -/
theorem takeKeySet_same {c : ConsoleNo} {s : State} {o : List Nat} {shown : Indicators} {flight : Option Indicators}
    (hp : s.console.ports[c] = .keyboard o shown flight) : takeKeySet c o o s = s := by
  have hr : keyReleases o o = [] := keyReleases_eq_nil fun _ => id
  have hk : keyPresses o o = [] := keyPresses_eq_nil fun _ => id
  have e : takeKeySet c o o s = modConsolePort c (ConsolePort.setKeys o) s := by
    unfold takeKeySet
    rw [hr, hk]
    rfl
  rw [e]
  refine modConsolePort_eq_self ?_
  rw [← Fin.getElem_fin, hp]
  rfl

/-! ### The items of a pointer report, split after the first -/

@[simp] theorem reportMotion_none (c : ConsoleNo) (s : State) : reportMotion 0 0 0 c s = s :=
  if_pos ⟨rfl, rfl, rfl⟩

/-- The items of two reports, one after the other. -/
theorem takeButtons_twice (c : ConsoleNo) (o m n : List Nat) (dx dy wheel dx' dy' wheel' : Int) (s : State) :
    takeButtons c m n dx' dy' wheel' (takeButtons c o m dx dy wheel s) =
      modConsolePort c (ConsolePort.setButtons n) ((setDiff n m).foldl deviceButtonPress
        (reportMotion dx' dy' wheel' c ((setDiff m n).foldl (deviceButtonRelease c)
          ((setDiff m o).foldl deviceButtonPress
            (reportMotion dx dy wheel c ((setDiff o m).foldl (deviceButtonRelease c) s)))))) := by
  unfold takeButtons
  rw [buttonChanges_lastSets (setsOnly_setButtons m), setButtons_twice]

/-- A button the set lost first is a report of its own. -/
theorem takeButtons_release_first {o n : List Nat} {b : Nat} (ho : o.Pairwise (· < ·)) (hb : b ∈ o) (hbn : b ∉ n)
    (first : ∀ x ∈ o, x ∉ n → b ≤ x) (c : ConsoleNo) (dx dy wheel : Int) (s : State) :
    takeButtons c (o.filter fun x => decide (x ≠ b)) n dx dy wheel
        (takeButtons c o (o.filter fun x => decide (x ≠ b)) 0 0 0 s) = takeButtons c o n dx dy wheel s := by
  have hm : (o.filter fun x => decide (x ≠ b)).Pairwise (· < ·) := ho.filter _
  have one : setDiff o (o.filter fun x => decide (x ≠ b)) = [b] := by
    refine eq_of_ascending (pairwise_setDiff ho _) (List.pairwise_singleton _ _) fun a => ?_
    simp only [mem_setDiff, List.mem_filter, decide_eq_true_eq, List.mem_singleton]
    constructor
    · tauto
    · rintro rfl
      exact ⟨hb, fun e => e.2 rfl⟩
  have none_gained : setDiff (o.filter fun x => decide (x ≠ b)) o = [] :=
    List.eq_nil_iff_forall_not_mem.2 fun a ha => by
      obtain ⟨h1, h2⟩ := (mem_setDiff a _ _).1 ha
      exact h2 (List.mem_filter.1 h1).1
  have rest : setDiff o n = b :: setDiff (o.filter fun x => decide (x ≠ b)) n := by
    refine eq_of_ascending (pairwise_setDiff ho n)
      (List.pairwise_cons.2 ⟨fun x hx => ?_, pairwise_setDiff hm n⟩) fun a => ?_
    · obtain ⟨h1, h2⟩ := (mem_setDiff x _ _).1 hx
      obtain ⟨hxo, hxb⟩ := List.mem_filter.1 h1
      have := first x hxo h2
      have : x ≠ b := by simpa using hxb
      omega
    · simp only [List.mem_cons, mem_setDiff, List.mem_filter, decide_eq_true_eq]
      by_cases hab : a = b
      · subst hab
        simp [hb, hbn]
      · simp [hab]
  have gained : setDiff n (o.filter fun x => decide (x ≠ b)) = setDiff n o := by
    refine List.filter_congr fun a ha => ?_
    have : a ≠ b := fun e => hbn (e ▸ ha)
    simp [this]
  rw [takeButtons_twice, one, none_gained, gained, reportMotion_none]
  unfold takeButtons
  rw [rest]
  rfl

theorem setDiff_eq_nil {o n : List Nat} (h : ∀ a ∈ o, a ∈ n) : setDiff o n = [] :=
  List.eq_nil_iff_forall_not_mem.2 fun a ha => by
    obtain ⟨h1, h2⟩ := (mem_setDiff a o n).1 ha
    exact h2 (h a h1)

/-- Without releases the motion is a report of its own. -/
theorem takeButtons_motion_first {o n : List Nat} (sub : ∀ x ∈ o, x ∈ n) (c : ConsoleNo) (dx dy wheel : Int)
    (s : State) : takeButtons c o n 0 0 0 (takeButtons c o o dx dy wheel s) = takeButtons c o n dx dy wheel s := by
  rw [takeButtons_twice, setDiff_self, setDiff_eq_nil sub, reportMotion_none]
  unfold takeButtons
  rw [setDiff_eq_nil sub]
  rfl

/-- Without releases and motion the first button pressed is a report of its own. -/
theorem takeButtons_press_first {o n : List Nat} {b : Nat} (ho : o.Pairwise (· < ·)) (hn : n.Pairwise (· < ·))
    (sub : ∀ x ∈ o, x ∈ n) (hb : b ∈ n) (hbo : b ∉ o) (first : ∀ x ∈ n, x ∉ o → b ≤ x) (c : ConsoleNo) (s : State) :
    takeButtons c (setInsert b o) n 0 0 0 (takeButtons c o (setInsert b o) 0 0 0 s) = takeButtons c o n 0 0 0 s := by
  have one : setDiff (setInsert b o) o = [b] := by
    refine eq_of_ascending (pairwise_setDiff (pairwise_setInsert ho) o) (List.pairwise_singleton _ _) fun a => ?_
    simp only [mem_setDiff, mem_setInsert, List.mem_singleton]
    constructor
    · tauto
    · rintro rfl
      exact ⟨.inl rfl, hbo⟩
  have none_lost : setDiff o (setInsert b o) = [] := setDiff_eq_nil fun a ha => (mem_setInsert b a o).2 (.inr ha)
  have none_left : setDiff (setInsert b o) n = [] := setDiff_eq_nil fun a ha => by
    rcases (mem_setInsert b a o).1 ha with rfl | h
    · exact hb
    · exact sub a h
  have rest : setDiff n o = b :: setDiff n (setInsert b o) := by
    refine eq_of_ascending (pairwise_setDiff hn o) (List.pairwise_cons.2 ⟨fun x hx => ?_, pairwise_setDiff hn _⟩)
      fun a => ?_
    · obtain ⟨h1, h2⟩ := (mem_setDiff x _ _).1 hx
      rw [mem_setInsert, not_or] at h2
      have := first x h1 h2.2
      have := h2.1
      omega
    · simp only [List.mem_cons, mem_setDiff, mem_setInsert]
      by_cases hab : a = b
      · subst hab
        simp [hb, hbo]
      · simp [hab]
  rw [takeButtons_twice, one, none_lost, none_left, reportMotion_none]
  unfold takeButtons
  rw [rest, setDiff_eq_nil sub, reportMotion_none]
  rfl

/-- The port of a pointer after a report of its button set. -/
theorem takeButtons_port {c : ConsoleNo} {s : State} {o : List Nat} (hp : s.console.ports[c] = .pointer o)
    (m : List Nat) (dx dy wheel : Int) : (takeButtons c o m dx dy wheel s).console.ports[c] = .pointer m := by
  have hc : s.console.ports[c].code = 2 := by rw [hp]; rfl
  have e := takeButtons_effect hc o m dx dy wheel
  rw [ConsolePort.pointer_of_code ((e.codes c).trans hc), e.own]

/-- A motionless report of the last button set changes nothing. -/
theorem takeButtons_none {c : ConsoleNo} {s : State} {o : List Nat} (hp : s.console.ports[c] = .pointer o) :
    takeButtons c o o 0 0 0 s = s := by
  rw [takeButtons_same, reportMotion_none]
  refine modConsolePort_eq_self ?_
  rw [← Fin.getElem_fin, hp]
  rfl

theorem exec_pointerReport_still {c : ConsoleNo} {r : PointerInput} {s : State} {o : List Nat}
    (hp : s.console.ports[c] = .pointer o) (hm : motionless r) :
    exec (.pointerReport c r) s = .next (takeButtons c o (reduceButtons r) 0 0 0 s) := by
  obtain ⟨hx, hy, hw⟩ := motionless_clamped hm
  rw [exec_pointerReport hp, hx, hy, hw]

/-- The second part of O22: a key report is that of its first change and then the rest (R8). -/
theorem keyReport_split (c : ConsoleNo) (r r1 : KeyInput) (s : State) (o n m : List Nat) (shown : Indicators)
    (flight : Option Indicators) (hp : s.console.ports[c] = .keyboard o shown flight) (ho : o.Pairwise (· < ·))
    (hr : reduceKeys r = some n) (hr1 : reduceKeys r1 = some m) (h : firstKeyChange o n m) :
    ∃ u, exec (.keyboardReport c r1) s = .next u ∧ exec (.keyboardReport c r) s = exec (.keyboardReport c r) u := by
  obtain ⟨shown', flight', hu⟩ := takeKeySet_port hp m
  refine ⟨_, exec_keyboardReport hp hr1, ?_⟩
  rw [exec_keyboardReport hp hr, exec_keyboardReport hu hr,
    takeKeySet_split (keyChangesSplit_of_first ho (pairwise_reduceKeys hr) (pairwise_reduceKeys hr1) h)]

/-- The third part of O22: a pointer report is that of its first item and then the rest (R13). -/
theorem pointerReport_split (c : ConsoleNo) (r r1 : PointerInput) (s : State) (o : List Nat)
    (hp : s.console.ports[c] = .pointer o) (ho : o.Pairwise (· < ·)) :
    (∀ b ∈ o, b ∉ reduceButtons r → (∀ x ∈ o, x ∉ reduceButtons r → b ≤ x) →
      reduceButtons r1 = o.filter (fun x => decide (x ≠ b)) → motionless r1 →
      ∃ u, exec (.pointerReport c r1) s = .next u ∧ exec (.pointerReport c r) s = exec (.pointerReport c r) u) ∧
    ((∀ x ∈ o, x ∈ reduceButtons r) → reduceButtons r1 = o → r1.dx = r.dx → r1.dy = r.dy →
      r1.wheel = r.wheel → ∃ u, exec (.pointerReport c r1) s = .next u ∧
        exec (.pointerReport c r) s = exec (.pointerReport c { r with dx := 0, dy := 0, wheel := 0 }) u) ∧
    (motionless r → reduceButtons r = o → exec (.pointerReport c r) s = .next s) ∧
    (∀ b ∈ reduceButtons r, (∀ x ∈ o, x ∈ reduceButtons r) → motionless r → b ∉ o →
      (∀ x ∈ reduceButtons r, x ∉ o → b ≤ x) → reduceButtons r1 = setInsert b o → motionless r1 →
      ∃ u, exec (.pointerReport c r1) s = .next u ∧ exec (.pointerReport c r) s = exec (.pointerReport c r) u) := by
  refine ⟨fun b hb hbn first h1 hm1 => ⟨_, exec_pointerReport_still hp hm1, ?_⟩,
    fun sub h1 hx hy hw => ⟨_, exec_pointerReport hp, ?_⟩, fun hm hn => ?_,
    fun b hb sub hm hbo first h1 hm1 => ⟨_, exec_pointerReport_still hp hm1, ?_⟩⟩
  · rw [h1, exec_pointerReport hp, exec_pointerReport (takeButtons_port hp _ _ _ _),
      takeButtons_release_first ho hb hbn first]
  · have still : motionless { r with dx := 0, dy := 0, wheel := 0 } := ⟨rfl, rfl, rfl⟩
    rw [h1, hx, hy, hw, exec_pointerReport hp, exec_pointerReport_still (takeButtons_port hp _ _ _ _) still]
    exact congrArg _ (takeButtons_motion_first sub _ _ _ _ _).symm
  · rw [exec_pointerReport_still hp hm, hn, takeButtons_none hp]
  · rw [h1, exec_pointerReport_still hp hm, exec_pointerReport_still (takeButtons_port hp _ _ _ _) hm,
      takeButtons_press_first ho (pairwise_reduceButtons r) sub hb hbo first]

end Sys2Proof.Machine
end

section
/-! ## The all-released mark (R15, R38, R126) -/

namespace Sys2Proof.Machine

/-! ### What telling the computers leaves alone -/

/-- `t` is `s` but for what the computers are told and believe, the events, and the last absolute positions, which change
in GLIDE alone. -/
structure Told (s t : State) : Prop where
  focus : t.focus = { s.focus with beliefs := t.focus.beliefs }
  glide : t.glide = { s.glide with lastAbs := t.glide.lastAbs }
  still : s.focus.mode ≠ .glide → t.glide = s.glide
  typeout : t.typeout = s.typeout
  screens : t.screens = s.screens
  tables : t.tables = s.tables

theorem Told.refl (s : State) : Told s s := ⟨rfl, rfl, fun _ => rfl, rfl, rfl, rfl⟩

theorem Told.mode {s t : State} (h : Told s t) : t.focus.mode = s.focus.mode := by rw [h.focus]
theorem Told.focused {s t : State} (h : Told s t) : t.focus.focus = s.focus.focus := by rw [h.focus]
theorem Told.previous {s t : State} (h : Told s t) : t.focus.previous = s.focus.previous := by rw [h.focus]
theorem Told.broadcast {s t : State} (h : Told s t) : t.focus.broadcast = s.focus.broadcast := by rw [h.focus]

theorem Told.trans {s t u : State} (h : Told s t) (k : Told t u) : Told s u := by
  refine ⟨?_, ?_, fun hm => ?_, k.typeout.trans h.typeout, k.screens.trans h.screens, k.tables.trans h.tables⟩
  · rw [k.focus, h.focus]
  · rw [k.glide, h.glide]
  · rw [k.still (by rwa [h.mode]), h.still hm]

theorem told_foldl {α : Type} {f : State → α → State} (hf : ∀ s a, Told s (f s a)) (l : List α) (s : State) :
    Told s (l.foldl f s) := by
  induction l generalizing s with
  | nil => exact .refl s
  | cons a l ih => exact (hf s a).trans (ih _)

theorem told_modPort (s : State) (n f) : Told s (s.modPort n f) := ⟨rfl, rfl, fun _ => rfl, rfl, rfl, rfl⟩
theorem told_setBelief (s : State) (n b) : Told s (s.setBelief n b) := ⟨rfl, rfl, fun _ => rfl, rfl, rfl, rfl⟩
theorem told_raise (s : State) (e) : Told s (raise e s) := ⟨rfl, rfl, fun _ => rfl, rfl, rfl, rfl⟩
theorem told_clearBelief (s : State) (n) : Told s (clearBelief n s) := told_setBelief s n _
theorem told_releaseBelief (s : State) (n) : Told s (releaseBelief n s) := (told_clearBelief s n).trans (told_modPort _ _ _)

/-- The live tile under the pointer depends on nothing that telling the computers changes. -/
theorem Told.seatOwner {s t : State} (h : Told s t) : seatOwner t = seatOwner s := by
  have tiles : ∀ sc, screenTiles t sc = screenTiles s sc := fun sc => by
    unfold screenTiles
    rw [h.tables, h.screens]
  have live : ∀ tile, liveOwner t tile = liveOwner s tile := fun tile => by
    unfold liveOwner
    rw [h.screens, h.tables]
  have tile : seatTile t = seatTile s := by
    unfold seatTile
    rw [h.glide]
    simp only [tiles]
  unfold Machine.seatOwner
  simp only [tile, live]

theorem told_releaseAt (k : Nat) (s : State) (n : Computer) : Told s (releaseAt k s n) := by
  unfold releaseAt
  dsimp only
  split
  · exact (told_setBelief s n _).trans (told_modPort _ _ _)
  · exact .refl s

/-- The releases of a key move no pointer. -/
theorem releaseAt_glide (k : Nat) (s : State) (n : Computer) : (releaseAt k s n).glide = s.glide := by
  unfold releaseAt
  dsimp only
  split <;> rfl

theorem releases_glide (k : Nat) (l : List Computer) (s : State) : (l.foldl (releaseAt k) s).glide = s.glide := by
  induction l generalizing s with
  | nil => rfl
  | cons n l ih => exact (ih _).trans (releaseAt_glide k s n)

/-- Every computer is told that a key was released. -/
theorem told_releases (k : Nat) (s : State) : Told s (computers.foldl (releaseAt k) s) :=
  told_foldl (told_releaseAt k) computers s

theorem quiet_releases (k : Nat) (s : State) : Quiet s (computers.foldl (releaseAt k) s) := by
  refine quiet_foldl (releaseAt k) (fun u n => ?_) computers s
  unfold releaseAt
  dsimp only
  split
  · exact (quiet_setBelief n _ u).trans (quiet_modPort n _ _)
  · exact .refl u

theorem told_tellButtons (n : Computer) (s : State) : Told s (tellButtons n s) := by
  unfold tellButtons
  split
  · split
    next h =>
      unfold buttonAbsolute handAbsolute
      dsimp only
      split
      · exact ⟨rfl, rfl, fun hm => absurd h.2 hm, rfl, rfl, rfl⟩
      · exact .refl s
    next => exact told_modPort s n _
  · split
    · exact told_modPort s n _
    · exact .refl s

theorem told_buttonReleaseAt (b : Nat) (s : State) (n : Computer) : Told s (buttonReleaseAt b s n) := by
  unfold buttonReleaseAt
  dsimp only
  split
  · exact (told_setBelief s n _).trans (told_tellButtons n _)
  · exact .refl s

/-- Every computer is told that a button was released. -/
theorem told_buttonReleases (b : Nat) (s : State) : Told s (computers.foldl (buttonReleaseAt b) s) :=
  told_foldl (told_buttonReleaseAt b) computers s

theorem quiet_buttonReleases (b : Nat) (s : State) : Quiet s (computers.foldl (buttonReleaseAt b) s) := by
  refine quiet_foldl (buttonReleaseAt b) (fun u n => ?_) computers s
  unfold buttonReleaseAt
  dsimp only
  split
  · exact (quiet_setBelief n _ u).trans (quiet_tellButtons n _)
  · exact .refl u

/-! ### The mark at the type-out unit (R126) -/

theorem typeoutMark_idle {s : State} (h : s.typeout.state ≠ .typing) : typeoutMark s = s :=
  if_neg fun e => h e.1

/-- No character is skipped where the next one is typeable (R127). -/
theorem skipCount_eq_zero {s : State} {code : Nat} (hc : s.typeout.text[s.typeout.index]? = some code)
    (ht : (translate s.tables code).key ≠ 0) : skipCount s = 0 := by
  obtain ⟨hlen, hget⟩ := List.getElem?_eq_some_iff.1 hc
  unfold skipCount
  rw [List.drop_eq_getElem_cons hlen, hget, List.takeWhile_cons_of_neg (by simpa using ht)]
  rfl

/-- A type-out that waits for a release becomes ACTIVE at a mark; the first character, typeable here, waits for its press
(R126, R127; log entry 7). -/
theorem typeoutMark_active {s : State} {code : Nat} (hs : s.typeout.state = .typing)
    (hw : s.typeout.sub = some .waitingRelease) (hc : s.typeout.text[s.typeout.index]? = some code)
    (ht : (translate s.tables code).key ≠ 0) :
    typeoutMark s = s.setTypeout { s.typeout with sub := some .active, pacing := some ⟨none, s.now⟩ } := by
  have noskip : skipCount (s.setTypeout { s.typeout with sub := some .active, pacing := some ⟨none, s.now⟩ }) = 0 :=
    skipCount_eq_zero hc ht
  obtain ⟨hlen, -⟩ := List.getElem?_eq_some_iff.1 hc
  unfold typeoutMark
  rw [if_pos ⟨hs, hw⟩]
  unfold enterActive takeUp
  rw [noskip]
  exact if_neg (Nat.not_le.2 hlen)

/-! ### The mark at the focus controller (R38) -/

theorem focusMark_of_not_held {s : State} (h : s.focus.mode ≠ .held) : focusMark s = s :=
  if_neg h

theorem endTypeout_idle {e : TypeEnd} {s : State} (h : s.typeout.state ≠ .typing) : endTypeout e s = s :=
  if_neg h

/-- Without a type-out a wake request tells nothing, and no belief set but its computer's changes. -/
theorem wakeRequest_told {s : State} (h : s.typeout.state ≠ .typing) (n : Computer) : Told s (wakeRequest n s) ∧
    ∀ f : Computer, f ≠ n → (wakeRequest n s).focus.beliefs[f] = s.focus.beliefs[f] := by
  have refused : Told s (refuseWake n s) ∧
      ∀ f : Computer, f ≠ n → (refuseWake n s).focus.beliefs[f] = s.focus.beliefs[f] := by
    have e : refuseWake n s = raise .wake (clearBelief n (s.modPort n Port.refuseWake)) := by
      unfold refuseWake typeoutWakeLost
      split
      · exact endTypeout_idle h
      · rfl
    rw [e]
    refine ⟨((told_modPort s n _).trans (told_clearBelief _ n)).trans (told_raise _ _), fun f hf => ?_⟩
    exact State.setBelief_beliefs_ne (s.modPort n Port.refuseWake) _ hf.symm
  unfold wakeRequest
  split
  · split
    · split
      · exact ⟨.refl s, fun _ _ => rfl⟩
      · split
        · exact ⟨told_modPort s n _, fun _ _ => rfl⟩
        · exact ⟨(told_modPort s n _).trans (told_raise _ _), fun _ _ => rfl⟩
    · exact refused
  · exact ⟨.refl s, fun _ _ => rfl⟩

theorem wakeOnFocus_told {s : State} (h : s.typeout.state ≠ .typing) (n : Computer) : Told s (wakeOnFocus (some n) s) ∧
    ∀ f : Computer, f ≠ n → (wakeOnFocus (some n) s).focus.beliefs[f] = s.focus.beliefs[f] := by
  unfold wakeOnFocus
  dsimp only
  split
  · exact wakeRequest_told h n
  · exact ⟨.refl s, fun _ _ => rfl⟩

theorem told_releaseOldFocus (s : State) : Told s (releaseOldFocus s) := by
  unfold releaseOldFocus
  split
  · exact .refl s
  · split
    · exact .refl s
    · exact told_releaseBelief s _

/-- The old focus computer's belief set is released unless it is a broadcast member (R27). -/
theorem releaseOldFocus_released {s : State} {f : Computer} (hf : s.focus.focus = some f)
    (hb : s.focus.broadcast[f] = false) : (releaseOldFocus s).focus.beliefs[f] = ⟨[], []⟩ := by
  unfold releaseOldFocus
  rw [hf]
  dsimp only
  rw [hb]
  exact State.setBelief_beliefs_self s f _

/-- Step 4 of a focus change to a computer (R27). -/
theorem setFocusTo_sets (n : Computer) (s : State) :
    (setFocusTo (some n) s).focus = { s.focus with previous := s.focus.focus, focus := some n, rx := 0, ry := 0 } ∧
      (setFocusTo (some n) s).glide = s.glide ∧ (setFocusTo (some n) s).typeout = s.typeout := by
  obtain ⟨-, -, -, hfocus, hglide, htypeout, -, -⟩ :=
    syncMirror_keeps (s.setFocus { s.focus with previous := s.focus.focus, focus := some n, rx := 0, ry := 0 })
  have a := setAlertList_sets (dropEntries n (fun e => decide (e.kind = .latched))
    (syncMirror (s.setFocus { s.focus with previous := s.focus.focus, focus := some n, rx := 0, ry := 0 })).alerts.list)
    (syncMirror (s.setFocus { s.focus with previous := s.focus.focus, focus := some n, rx := 0, ry := 0 }))
  exact ⟨a.focus.trans hfocus, a.glide.trans hglide, a.typeout.trans htypeout⟩

/-- What a focus change to `m` leaves when it hands over no position and no type-out is in progress (R27, R37, R38). -/
structure FocusMoved (m : Computer) (s t : State) : Prop where
  focus : t.focus.focus = some m
  previous : t.focus.previous = s.focus.focus
  broadcast : t.focus.broadcast = s.focus.broadcast
  glide : t.glide = s.glide
  announced : announced .focus t
  frames : framesAnew t
  released : ∀ f : Computer, s.focus.focus = some f → s.focus.broadcast[f] = false → t.focus.beliefs[f] = ⟨[], []⟩

theorem announced_announceFocus (s : State) : announced .focus (announceFocus s) := by
  intro n hn
  have h := tookEvent_raise .focus s n
  have hn' : s.tables.computer[n].manager = true := hn
  rw [if_pos hn'] at h
  have e : (announceFocus s).mgmt.summaries[n] = s.mgmt.summaries[n] ||| EventKind.focus.bit := h
  rw [e]
  ext i hi
  simpa using fun h => .inr h

theorem announceFocus_focus (s : State) : (announceFocus s).focus = s.focus := rfl
theorem announceFocus_glide (s : State) : (announceFocus s).glide = s.glide := rfl

theorem focusChangePlaced_moves {m : Computer} {s : State} (hne : s.focus.focus ≠ some m)
    (ht : s.typeout.state ≠ .typing) (hm : s.focus.mode ≠ .glide) :
    FocusMoved m s (focusChangePlaced m none s) := by
  have hand : ∀ u, rememberHanded none u = u := fun u => by
    unfold rememberHanded
    split
    next h => cases h
    next => rfl
  have e : focusChangePlaced m none s =
      announceFocus (wakeOnFocus (some m) (setFocusTo (some m) (releaseOldFocus s))) := by
    unfold focusChangePlaced
    rw [if_neg hne, endTypeout_idle ht, hand]
  have h1 := told_releaseOldFocus s
  obtain ⟨sfocus, sglide, stypeout⟩ := setFocusTo_sets m (releaseOldFocus s)
  have hidle : (setFocusTo (some m) (releaseOldFocus s)).typeout.state ≠ .typing := by
    rw [stypeout, h1.typeout]
    exact ht
  obtain ⟨h2, others⟩ := wakeOnFocus_told hidle m
  have hmode : (setFocusTo (some m) (releaseOldFocus s)).focus.mode ≠ .glide := by
    rw [sfocus]
    exact fun e => hm (h1.mode.symm.trans e)
  rw [e]
  refine ⟨?_, ?_, ?_, ?_, announced_announceFocus _, framesAnew_recomputeFrames _, fun f hf hb => ?_⟩
  · rw [announceFocus_focus, h2.focused, sfocus]
  · rw [announceFocus_focus, h2.previous, sfocus]
    exact h1.focused
  · rw [announceFocus_focus, h2.broadcast, sfocus]
    exact h1.broadcast
  · rw [announceFocus_glide, h2.still hmode, sglide, h1.still hm]
  · have hfm : f ≠ m := fun e => hne (e ▸ hf)
    rw [announceFocus_focus, others f hfm, sfocus]
    exact releaseOldFocus_released hf hb

/-- What the mark leaves in HELD with the pointer on a live tile of `m` (R38). -/
structure MarkTaken (m : Computer) (s t : State) : Prop where
  mode : t.focus.mode = .glide
  focus : t.focus.focus = some m
  broadcast : t.focus.broadcast = s.focus.broadcast
  glide : t.glide = s.glide
  stays : s.focus.focus = some m → t.focus.previous = s.focus.previous
  moves : s.focus.focus ≠ some m → t.focus.previous = s.focus.focus ∧ announced .focus t ∧ framesAnew t ∧
    ∀ f : Computer, s.focus.focus = some f → s.focus.broadcast[f] = false → t.focus.beliefs[f] = ⟨[], []⟩

theorem focusMark_taken {m : Computer} {s : State} (hm : s.focus.mode = .held) (ht : s.typeout.state ≠ .typing)
    (ho : seatOwner s = some m) : MarkTaken m s (focusMark s) := by
  have e : focusMark s = setMode .glide (focusChangePlaced m none s) := by
    unfold focusMark
    rw [if_pos hm, ho]
  rw [e]
  by_cases hf : s.focus.focus = some m
  · have same : focusChangePlaced m none s = s := if_pos hf
    rw [same]
    exact ⟨rfl, hf, rfl, rfl, fun _ => rfl, fun h => absurd hf h⟩
  · have k := focusChangePlaced_moves hf ht (by rw [hm]; decide)
    exact ⟨rfl, k.focus, k.broadcast, k.glide, fun h => absurd h hf, fun _ =>
      ⟨k.previous, k.announced, framesAnew_congr k.frames rfl rfl rfl rfl, k.released⟩⟩

/-! ### The reports that bring a mark (R9, R12, R15, R115) -/

/-- The console with an empty desk. -/
def deskCleared (k : Console) : Prop :=
  k.deskKeys = [] ∧ k.deskButtons = []

/-- The report `i` empties the desk, is taken to the mark, and sets one console port's last set: `u` is the state in which
the computers have been told, before the focus controller takes the mark. The console unit and the matcher, but no other
block, have changed before the type-out unit takes the mark. -/
structure Marked (i : Instr) (s : State) (console : Console) (matcher : Matcher) (u : State) (c : ConsoleNo)
    (g : ConsolePort → ConsolePort) : Prop where
  exec : exec i s = .next (modConsolePort c g (focusMark u))
  cleared : deskCleared console
  told : Told (typeoutMark ((s.setConsole console).setMatcher matcher)) u
  quiet : Quiet (typeoutMark ((s.setConsole console).setMatcher matcher)) u
  keys : (∃ c r, i = .keyboardReport c r) → u.glide = (typeoutMark ((s.setConsole console).setMatcher matcher)).glide

theorem setErase_eq_nil {k : Nat} {l : List Nat} (h : ∀ x ∈ l, x = k) : setErase k l = [] :=
  List.eq_nil_iff_forall_not_mem.2 fun a ha => by
    obtain ⟨h1, h2⟩ := (mem_setErase k a l).1 ha
    exact h2 (h a h1)

/-- A key release that empties the desk: the type-out unit takes the mark, the computers are told, and the focus
controller takes the mark (R24, R115). -/
theorem lockKeyRelease_marked (k : Nat) (s : State) : ∃ matcher u, lockKeyRelease k true s = focusMark u ∧
    Told (typeoutMark (s.setMatcher matcher)) u ∧ Quiet (typeoutMark (s.setMatcher matcher)) u ∧
    u.glide = (typeoutMark (s.setMatcher matcher)).glide := by
  have alone : markAlone true s = focusMark (typeoutMark (s.setMatcher s.matcher)) := rfl
  unfold lockKeyRelease
  cases s.lock.state with
  | unlocked =>
    have e : matcherRelease k true s = focusMark (computers.foldl (releaseAt k)
        (typeoutMark (s.setMatcher { s.matcher with candidate := releaseCandidate k s.matcher.candidate }))) := by
      simp only [matcherRelease, focusKeyRelease, markTypeout, setCandidate, if_true]
    exact ⟨{ s.matcher with candidate := releaseCandidate k s.matcher.candidate }, _, e, told_releases k _,
      quiet_releases k _, releases_glide k computers _⟩
  | locked => exact ⟨s.matcher, _, alone, .refl _, .refl _, rfl⟩
  | lockout => exact ⟨s.matcher, _, alone, .refl _, .refl _, rfl⟩

/-- A button release that empties the desk, likewise (R26, R115). -/
theorem lockButtonRelease_marked (b : Nat) (s : State) : ∃ u, lockButtonRelease b true s = focusMark u ∧
    Told (typeoutMark s) u ∧ Quiet (typeoutMark s) u := by
  unfold lockButtonRelease
  cases s.lock.state with
  | unlocked =>
    have e : focusButtonRelease b true (markTypeout true s) =
        focusMark (computers.foldl (buttonReleaseAt b) (typeoutMark s)) := by
      simp only [focusButtonRelease, markTypeout, if_true]
    exact ⟨_, e, told_buttonReleases b _, quiet_buttonReleases b _⟩
  | locked => exact ⟨_, rfl, .refl _, .refl _⟩
  | lockout => exact ⟨_, rfl, .refl _, .refl _⟩

/-- The report of a key release that leaves both desk states empty is marked (R15). -/
theorem releaseAlone_marked {c : ConsoleNo} {r : KeyInput} {k : Nat} {n : List Nat} {s : State}
    (h : ReleaseAlone c r k n s) (hk : ∀ x ∈ s.console.deskKeys, x = k) (hb : s.console.deskButtons = []) :
    ∃ console matcher u c' g, Marked (.keyboardReport c r) s console matcher u c' g := by
  obtain ⟨o, shown, flight, hp, hon, hno⟩ := h.keyboard
  have releases : keyReleases o n = [k] := by
    unfold keyReleases
    rw [hon]
    cases hm : isModifier k <;> simp [hm]
  have presses : keyPresses o n = [] := by
    unfold keyPresses
    rw [hno]
    rfl
  have alone : heldElsewhere c k s = false := by
    rw [← Bool.not_eq_true, heldElsewhere_iff]
    rintro ⟨d, hd, hx⟩
    exact h.elsewhere d hd hx
  have cleared : deskCleared { s.console with deskKeys := setErase k s.console.deskKeys } :=
    ⟨setErase_eq_nil hk, hb⟩
  have empty : deskEmpty (s.setConsole { s.console with deskKeys := setErase k s.console.deskKeys }) = true := by
    simp [deskEmpty, setErase_eq_nil hk, hb]
  obtain ⟨matcher, u, hu, told, quiet, glide⟩ := lockKeyRelease_marked k
    (s.setConsole { s.console with deskKeys := setErase k s.console.deskKeys })
  refine ⟨_, matcher, u, c, ConsolePort.setKeys n, ?_, cleared, told, quiet, fun _ => glide⟩
  rw [exec_keyboardReport hp h.reduced, ← hu]
  unfold takeKeySet
  rw [releases, presses]
  simp only [List.foldl, deviceRelease, alone, Bool.false_eq_true, if_false, empty]

/-- The report of a button release that leaves both desk states empty is marked (R15). -/
theorem buttonReleaseAlone_marked {c : ConsoleNo} {r : PointerInput} {b : Nat} {n : List Nat} {s : State}
    (h : ButtonReleaseAlone c r b n s) (hb : ∀ x ∈ s.console.deskButtons, x = b) (hk : s.console.deskKeys = []) :
    ∃ console matcher u c' g, Marked (.pointerReport c r) s console matcher u c' g := by
  obtain ⟨o, hp, hon, hno⟩ := h.pointer
  have alone : buttonElsewhere c b s = false := by
    rw [← Bool.not_eq_true, buttonElsewhere_iff]
    rintro ⟨d, hd, hx⟩
    exact h.elsewhere d hd hx
  have cleared : deskCleared { s.console with deskButtons := setErase b s.console.deskButtons } :=
    ⟨hk, setErase_eq_nil hb⟩
  have empty : deskEmpty (s.setConsole { s.console with deskButtons := setErase b s.console.deskButtons }) = true := by
    simp [deskEmpty, setErase_eq_nil hb, hk]
  obtain ⟨u, hu, told, quiet⟩ := lockButtonRelease_marked b
    (s.setConsole { s.console with deskButtons := setErase b s.console.deskButtons })
  refine ⟨_, s.matcher, u, c, ConsolePort.setButtons n, ?_, cleared, told, quiet, ?_⟩
  · rw [exec_pointerReport_still hp h.still, ← hu, h.reduced]
    unfold takeButtons
    rw [hon, hno]
    simp only [List.foldl, deviceButtonRelease, alone, Bool.false_eq_true, if_false, empty, reportMotion_none]
  · rintro ⟨c', r', e⟩
    cases e

/-- In HELD a marked report leads to GLIDE on the computer whose live tile the pointer lies on (R38). -/
theorem Marked.held {i : Instr} {s : State} {console : Console} {matcher : Matcher} {u : State} {c : ConsoleNo}
    {g : ConsolePort → ConsolePort} (h : Marked i s console matcher u c g) {m : Computer} (hm : s.focus.mode = .held)
    (ht : s.typeout.state ≠ .typing) (ho : seatOwner s = some m) :
    ∃ t, Machine.exec i s = .next t ∧ t.console.deskKeys = [] ∧ t.console.deskButtons = [] ∧ t.focus.mode = .glide ∧
      t.focus.focus = some m ∧ t.focus.broadcast = s.focus.broadcast ∧ t.glide = s.glide ∧ t.lock = s.lock ∧
      t.tables = s.tables ∧
      (s.focus.focus = some m → t.focus.previous = s.focus.previous) ∧
      (s.focus.focus ≠ some m → t.focus.previous = s.focus.focus ∧ announced .focus t ∧ framesAnew t ∧
        ∀ f : Computer, s.focus.focus = some f → s.focus.broadcast[f] = false → t.focus.beliefs[f] = ⟨[], []⟩) := by
  have idle : typeoutMark ((s.setConsole console).setMatcher matcher) = (s.setConsole console).setMatcher matcher :=
    typeoutMark_idle ht
  have told := h.told
  have quiet := h.quiet.trans (quiet_focusMark u)
  rw [idle] at told quiet
  have k := focusMark_taken (m := m) (s := u) (told.mode.trans hm) (by rw [told.typeout]; exact ht)
    (told.seatOwner.trans ho)
  refine ⟨_, h.exec, quiet.deskKeys.trans h.cleared.1, quiet.deskButtons.trans h.cleared.2, k.mode, k.focus,
    k.broadcast.trans told.broadcast, k.glide.trans (told.still ?_), quiet.lock, quiet.tables, fun hf => ?_,
    fun hf => ?_⟩
  · exact fun e => absurd (hm.symm.trans e) (by decide)
  · exact (k.stays (told.focused.trans hf)).trans told.previous
  · obtain ⟨hprevious, hannounced, hframes, hreleased⟩ := k.moves fun e => hf (told.focused.symm.trans e)
    refine ⟨hprevious.trans told.focused, hannounced, framesAnew_congr hframes rfl rfl rfl rfl, fun f hff hb => ?_⟩
    exact hreleased f (told.focused.trans hff) (by rw [told.broadcast]; exact hb)

/-- A type-out that waits for a release becomes ACTIVE at a marked report (R126). -/
theorem Marked.waiting {i : Instr} {s : State} {console : Console} {matcher : Matcher} {u : State} {c : ConsoleNo}
    {g : ConsolePort → ConsolePort} (h : Marked i s console matcher u c g) {code : Nat} (hm : s.focus.mode ≠ .held)
    (hs : s.typeout.state = .typing) (hw : s.typeout.sub = some .waitingRelease)
    (hc : s.typeout.text[s.typeout.index]? = some code) (ht : (translate s.tables code).key ≠ 0) :
    ∃ t, Machine.exec i s = .next t ∧ t.console.deskKeys = [] ∧ t.console.deskButtons = [] ∧
      t.typeout = { s.typeout with sub := some .active, pacing := some ⟨none, s.now⟩ } ∧
      t.focus.focus = s.focus.focus ∧ t.focus.mode = s.focus.mode ∧
      t.glide = { s.glide with lastAbs := t.glide.lastAbs } ∧
      ((∃ c r, i = .keyboardReport c r) → t.glide = s.glide) ∧ t.lock = s.lock := by
  have active := typeoutMark_active (s := (s.setConsole console).setMatcher matcher) hs hw hc ht
  have told := h.told
  have quiet := h.quiet
  have keys := h.keys
  rw [active] at told quiet keys
  have e : focusMark u = u := focusMark_of_not_held (by rw [told.mode]; exact hm)
  have hexec := h.exec
  rw [e] at hexec
  exact ⟨_, hexec, quiet.deskKeys.trans h.cleared.1, quiet.deskButtons.trans h.cleared.2, told.typeout,
    told.focused, told.mode, told.glide, keys, quiet.lock⟩

/-- Settles O22: the desk states by the changes of a report, the report split after its first change, and the mark. -/
theorem keyReportUpdatesDeskState : Obligations.KeyReportUpdatesDeskState := by
  refine ⟨fun c r s o n shown flight hp hr => ?_, fun c r r1 s o n m shown flight hp ho hr => ⟨fun hn => ?_, ?_⟩,
    fun c r r1 s o hp ho => ?_, fun i s hi => ?_⟩
  · have e := takeKeySet_effect (c := c) (s := s) (by rw [hp]; rfl) o n
    exact ⟨_, exec_keyboardReport hp hr, e.own, e.deskKeys, e.moved, fun d => ⟨e.buttons d, e.codes d⟩, e.deskButtons,
      e.channels, e.store, e.now⟩
  · rw [exec_keyboardReport hp hr, hn, takeKeySet_same hp]
  · exact keyReport_split c r r1 s o n m shown flight hp ho hr
  · obtain ⟨release, motion, unchanged, press⟩ := pointerReport_split c r r1 s o hp ho
    exact ⟨release, fun sub _ => motion sub, fun _ => unchanged, press⟩
  · have marked : ∃ console matcher u c g, Marked i s console matcher u c g := by
      rcases hi with ⟨c, r, k, n, rfl, h, hk, hb⟩ | ⟨c, r, b, n, rfl, h, hb, hk⟩
      · exact releaseAlone_marked h hk hb
      · exact buttonReleaseAlone_marked h hb hk
    obtain ⟨console, matcher, u, c, g, h⟩ := marked
    exact ⟨fun m hm ht ho => h.held hm ht ho, fun code hm hs hw hc ht => h.waiting hm hs hw hc ht⟩

end Sys2Proof.Machine
end

/-! # Focus, receivers and broadcast -/

section
/-! ## The lockout timer and the belief sets

`PortsSafe` says nothing of the lockout timer, and LOCKOUT_TIMER_EXPIRY locks the console whatever its lock state is. A
state with that timer running in UNLOCKED meets `PortsSafe`; that no run reaches it is `TablesSafe`, which the statement
does not assume. -/

namespace Sys2Proof.Machine

/-- UNLOCKED with the lockout timer running, the key 4 held at the console and computer 1 told of it. -/
def strayLockout : State :=
  { State.reset with
    pending := [.lockoutTimerExpiry]
    lock := ⟨.unlocked, 0, 0, some 0⟩
    console := { Console.powerOn with deskKeys := [4] }
    ports := (Vector.replicate 8 Port.powerOn).set 0 { Port.powerOn with link := .ready }
    focus := { FocusCtl.powerOn defaultTables with
      beliefs := (Vector.replicate 8 ⟨[], []⟩).set 0 ⟨[4], []⟩ } }

/-- A port without reports, key events and timers is legal with a belief set it has been told of. -/
theorem portSafe_idle {l : LinkState} {b : Belief} (h : (l = .ready) ∨ (l = .absent ∧ b = ⟨[], []⟩))
    (hk : b.keys.Pairwise (· < ·)) (hb : b.buttons.Pairwise (· < ·)) : PortSafe { Port.powerOn with link := l } b := by
  obtain rfl | ⟨rfl, rfl⟩ := h
  all_goals constructor <;> simp_all [Port.powerOn, unreleased, replayLegal, Port.queuesKeys]

theorem portsSafe_strayLockout : PortsSafe strayLockout where
  ports n := by
    by_cases h : n = 0
    · subst h
      exact portSafe_idle (l := .ready) (b := ⟨[4], []⟩) (.inl rfl) (by decide) (by decide)
    · have hport : strayLockout.ports[n] = { Port.powerOn with link := .absent } := by
        revert h; revert n; decide
      have hbelief : strayLockout.focus.beliefs[n] = ⟨[], []⟩ := by
        revert h; revert n; decide
      rw [hport, hbelief]
      exact portSafe_idle (.inr ⟨rfl, rfl⟩) .nil .nil
  mail := by constructor <;> simp [strayLockout, State.reset, State.powerOn, Typeout.powerOn]
  told :=
    { keys := by
        intro n k hk
        left
        revert k; revert n; decide
      buttons := by decide
      locked := fun h => absurd rfl h }

/-- Refutes O59: the expiry locks the console while computer 1 believes the key 4 held, which `ToldSafe.locked` forbids. -/
theorem not_stepKeepsPorts : ¬ Obligations.StepKeepsPorts := by
  unfold Obligations.StepKeepsPorts
  intro h
  obtain ⟨-, -, told⟩ := h strayLockout _ portsSafe_strayLockout rfl
  have empty := (told.locked (by decide)).2 0
  exact absurd empty (by decide)

end Sys2Proof.Machine
end


section
/-! ## What serving the computers leaves alone

The operations that tell computers of events, wake them, or type to them change belief sets, ports, the mailbox, the
summaries and the last absolute positions, and nothing else that the desk shows. -/

namespace Sys2Proof.Machine

/-- `t` is `s` but for what the computers believe and were last sent, their ports, the mailbox, the console's lamps, the
matcher, the lock, the management unit and the clock. -/
structure Served (s t : State) : Prop where
  focus : t.focus = { s.focus with beliefs := t.focus.beliefs }
  glide : t.glide = { s.glide with lastAbs := t.glide.lastAbs }
  screens : t.screens = s.screens
  alerts : t.alerts = s.alerts
  tables : t.tables = s.tables

theorem Served.refl (s : State) : Served s s := ⟨rfl, rfl, rfl, rfl, rfl⟩

theorem Served.trans {s t u : State} (h : Served s t) (k : Served t u) : Served s u :=
  ⟨by rw [k.focus, h.focus], by rw [k.glide, h.glide], k.screens.trans h.screens, k.alerts.trans h.alerts,
    k.tables.trans h.tables⟩

theorem Served.focused {s t : State} (h : Served s t) : t.focus.focus = s.focus.focus := by rw [h.focus]
theorem Served.previous {s t : State} (h : Served s t) : t.focus.previous = s.focus.previous := by rw [h.focus]
theorem Served.mode {s t : State} (h : Served s t) : t.focus.mode = s.focus.mode := by rw [h.focus]
theorem Served.broadcast {s t : State} (h : Served s t) : t.focus.broadcast = s.focus.broadcast := by rw [h.focus]
theorem Served.seat {s t : State} (h : Served s t) : t.glide.seat = s.glide.seat := by rw [h.glide]
theorem Served.px {s t : State} (h : Served s t) : t.glide.px = s.glide.px := by rw [h.glide]
theorem Served.py {s t : State} (h : Served s t) : t.glide.py = s.glide.py := by rw [h.glide]
theorem Served.remembered {s t : State} (h : Served s t) : t.glide.remembered = s.glide.remembered := by rw [h.glide]

theorem served_foldl {α : Type} {f : State → α → State} (hf : ∀ s a, Served s (f s a)) (l : List α) (s : State) :
    Served s (l.foldl f s) := by
  induction l generalizing s with
  | nil => exact .refl s
  | cons a l ih => exact (hf s a).trans (ih _)

/-! ### Shared operations -/

theorem served_modPort (s : State) (n f) : Served s (s.modPort n f) := ⟨rfl, rfl, rfl, rfl, rfl⟩
theorem served_setBelief (s : State) (n b) : Served s (s.setBelief n b) := ⟨rfl, rfl, rfl, rfl, rfl⟩
theorem served_setTypeout (s : State) (v) : Served s (s.setTypeout v) := ⟨rfl, rfl, rfl, rfl, rfl⟩
theorem served_setMatcher (s : State) (v) : Served s (s.setMatcher v) := ⟨rfl, rfl, rfl, rfl, rfl⟩
theorem served_setConsole (s : State) (v) : Served s (s.setConsole v) := ⟨rfl, rfl, rfl, rfl, rfl⟩
theorem served_setMgmt (s : State) (v) : Served s (s.setMgmt v) := ⟨rfl, rfl, rfl, rfl, rfl⟩
theorem served_setWakeAll (s : State) (v) : Served s (s.setWakeAll v) := ⟨rfl, rfl, rfl, rfl, rfl⟩
theorem served_setPorts (s : State) (v) : Served s (s.setPorts v) := ⟨rfl, rfl, rfl, rfl, rfl⟩
theorem served_raise (s : State) (e) : Served s (raise e s) := ⟨rfl, rfl, rfl, rfl, rfl⟩
theorem served_clearBelief (n) (s : State) : Served s (clearBelief n s) := ⟨rfl, rfl, rfl, rfl, rfl⟩

theorem served_releaseBelief (n) (s : State) : Served s (releaseBelief n s) :=
  (served_clearBelief n s).trans (served_modPort _ _ _)

theorem served_syncMirror (s : State) : Served s (syncMirror s) := by
  unfold syncMirror
  split
  · exact .refl s
  · exact served_setConsole s _

/-! ### Type-out -/

theorem served_releaseTyped (n c) (s : State) : Served s (releaseTyped n c s) := by
  unfold releaseTyped
  dsimp only
  split
  · exact .refl s
  · exact (served_setBelief s n _).trans (served_modPort _ _ _)

theorem served_releaseIfPressed (s : State) : Served s (releaseIfPressed s) := by
  unfold releaseIfPressed
  split
  · split
    · exact served_releaseTyped _ _ s
    · exact .refl s
  · exact .refl s

theorem served_endTypeout (e) (s : State) : Served s (endTypeout e s) := by
  unfold endTypeout
  split
  · exact ((served_releaseIfPressed s).trans (served_setTypeout _ _)).trans (served_raise _ _)
  · exact .refl s

theorem served_takeUp (s : State) : Served s (takeUp s) := by
  unfold takeUp
  dsimp only
  split
  · exact (served_setTypeout s _).trans (served_endTypeout _ _)
  · exact served_setTypeout s _

theorem served_enterActive (s : State) : Served s (enterActive s) :=
  (served_setTypeout s _).trans (served_takeUp _)

theorem served_enterWaitingRelease (s : State) : Served s (enterWaitingRelease s) := by
  unfold enterWaitingRelease
  dsimp only
  split
  · exact (served_setTypeout s _).trans (served_enterActive _)
  · exact served_setTypeout s _

theorem served_typeoutMark (s : State) : Served s (typeoutMark s) := by
  unfold typeoutMark
  split
  · exact served_enterActive s
  · exact .refl s

theorem served_markTypeout (m) (s : State) : Served s (markTypeout m s) := by
  unfold markTypeout
  split
  · exact served_typeoutMark s
  · exact .refl s

theorem served_typeoutWakeLost (n) (s : State) : Served s (typeoutWakeLost n s) := by
  unfold typeoutWakeLost
  split
  · exact served_endTypeout _ s
  · exact .refl s

theorem served_typeoutLeftReady (n) (s : State) : Served s (typeoutLeftReady n s) := by
  unfold typeoutLeftReady
  split
  · exact served_endTypeout _ s
  · exact .refl s

theorem served_typeoutLinkLost (n) (s : State) : Served s (typeoutLinkLost n s) := by
  unfold typeoutLinkLost
  split
  · exact served_endTypeout _ s
  · exact .refl s

theorem served_typeoutReady (n) (s : State) : Served s (typeoutReady n s) := by
  unfold typeoutReady
  split
  · exact served_enterWaitingRelease s
  · exact .refl s

theorem served_pressCharacter (n e) (s : State) : Served s (pressCharacter n e s) :=
  ((served_setBelief s n _).trans (served_modPort _ _ _)).trans (served_setTypeout _ _)

theorem served_pressNext (n) (s : State) : Served s (pressNext n s) := by
  unfold pressNext
  dsimp only
  split
  · split
    · exact (served_takeUp s).trans (served_pressCharacter _ _ _)
    · exact served_takeUp s
  · exact served_takeUp s

theorem served_releaseDue (n c next) (s : State) : Served s (releaseDue n c next s) :=
  ((served_setBelief s n _).trans ((served_modPort _ _ _).trans (served_setTypeout _ _))).trans (served_takeUp _)

/-! ### Wakes -/

theorem served_refuseWake (n) (s : State) : Served s (refuseWake n s) :=
  ((served_modPort s n _).trans ((served_clearBelief n _).trans (served_raise _ _))).trans (served_typeoutWakeLost n _)

theorem served_startWake (n) (s : State) : Served s (startWake n s) :=
  (served_modPort s n _).trans (served_raise _ _)

theorem served_wakeRequest (n) (s : State) : Served s (wakeRequest n s) := by
  unfold wakeRequest
  split
  · split
    · split
      · exact .refl s
      · split
        · exact served_modPort s n _
        · exact served_startWake n s
    · exact served_refuseWake n s
  · exact .refl s

theorem served_deferredWake (n) (s : State) : Served s (deferredWake n s) := by
  unfold deferredWake
  dsimp only
  split
  · exact (served_modPort s n _).trans (served_startWake n _)
  · exact (served_modPort s n _).trans (served_refuseWake n _)

theorem served_failWake (n) (s : State) : Served s (failWake n s) :=
  ((served_modPort s n _).trans ((served_clearBelief n _).trans ((served_raise _ _).trans (served_raise _ _)))).trans
    (served_typeoutWakeLost n _)

theorem served_issueWakes (l : List Computer) (s : State) : Served s (issueWakes l s) := by
  induction l generalizing s with
  | nil => exact served_setWakeAll s _
  | cons n l ih =>
    unfold issueWakes
    dsimp only
    split
    · exact (served_wakeRequest n s).trans (served_setWakeAll _ _)
    · split
      · exact (served_wakeRequest n s).trans (ih _)
      · exact (served_wakeRequest n s).trans (served_setWakeAll _ _)

theorem served_actWakeAll (s : State) : Served s (actWakeAll s) := by
  unfold actWakeAll
  split
  · exact .refl s
  · split
    · exact .refl s
    · exact served_issueWakes _ s

theorem served_actWake (n) (s : State) : Served s (actWake n s) := by
  unfold actWake
  split
  · split
    · exact .refl s
    · exact served_wakeRequest _ s
  · split
    · exact .refl s
    · exact served_wakeRequest _ s

theorem served_wakeOnFocus (n) (s : State) : Served s (wakeOnFocus n s) := by
  unfold wakeOnFocus
  split
  · exact .refl s
  · split
    · exact served_wakeRequest _ s
    · exact .refl s

theorem served_wakeOnGlide (n) (s : State) : Served s (wakeOnGlide n s) := by
  unfold wakeOnGlide
  split
  · exact served_wakeRequest n s
  · exact .refl s

theorem served_wakeOnInput (n) (s : State) : Served s (wakeOnInput n s) := by
  unfold wakeOnInput
  split
  · exact served_wakeRequest n s
  · exact .refl s

/-! ### Absolute reports -/

theorem served_handAbsolute (n pos wheel) (s : State) : Served s (handAbsolute n pos wheel s) := by
  unfold handAbsolute
  dsimp only
  split
  · exact ⟨rfl, rfl, rfl, rfl, rfl⟩
  · exact .refl s

theorem served_considerReport (wheel) (s : State) : Served s (considerReport wheel s) := by
  unfold considerReport
  split
  · exact .refl s
  · split
    · split
      · exact .refl s
      · exact served_handAbsolute _ _ _ s
    · split
      · exact served_handAbsolute _ _ _ s
      · exact .refl s

theorem served_considerPosition (s : State) : Served s (considerPosition s) := by
  unfold considerPosition
  split
  · exact served_considerReport 0 s
  · exact .refl s

/-! ### Receivers of key and button events -/

theorem served_releaseOldFocus (s : State) : Served s (releaseOldFocus s) := by
  unfold releaseOldFocus
  split
  · exact .refl s
  · split
    · exact .refl s
    · exact served_releaseBelief _ s

theorem served_deliverPress (n b k) (s : State) : Served s (deliverPress n b k s) := by
  unfold deliverPress
  split
  · exact .refl s
  · split
    · exact (served_setBelief s n _).trans (served_modPort _ _ _)
    · split
      · unfold queuePress
        dsimp only
        split
        · exact (served_setBelief s n _).trans (served_modPort _ _ _)
        · exact served_modPort s n _
      · exact .refl s

theorem served_pressForFocus (k) (s : State) : Served s (pressForFocus k s) := by
  unfold pressForFocus
  split
  · exact .refl s
  · exact (served_wakeOnInput _ s).trans (served_deliverPress _ _ _ _)

theorem served_pressForMember (k) (s : State) (n) : Served s (pressForMember k s n) := by
  unfold pressForMember
  split
  · exact served_deliverPress n _ k s
  · exact .refl s

theorem served_focusKeyPress (k) (s : State) : Served s (focusKeyPress k s) :=
  (served_pressForFocus k s).trans (served_foldl (served_pressForMember k) computers _)

theorem served_releaseAt (k) (s : State) (n) : Served s (releaseAt k s n) := by
  unfold releaseAt
  dsimp only
  split
  · exact (served_setBelief s n _).trans (served_modPort _ _ _)
  · exact .refl s

theorem served_tellButtons (n) (s : State) : Served s (tellButtons n s) := by
  unfold tellButtons
  split
  · split
    · exact served_handAbsolute _ _ _ s
    · exact served_modPort s n _
  · split
    · exact served_modPort s n _
    · exact .refl s

theorem served_deliverButton (n b) (s : State) : Served s (deliverButton n b s) := by
  unfold deliverButton
  dsimp only
  split
  · exact .refl s
  · split
    · exact (served_setBelief s n _).trans (served_tellButtons n _)
    · exact .refl s

theorem served_focusButtonPress (b) (s : State) : Served s (focusButtonPress b s) := by
  unfold focusButtonPress
  split
  · exact .refl s
  · exact (served_wakeOnInput _ s).trans (served_deliverButton _ b _)

theorem served_buttonReleaseAt (b) (s : State) (n) : Served s (buttonReleaseAt b s n) := by
  unfold buttonReleaseAt
  dsimp only
  split
  · exact (served_setBelief s n _).trans (served_tellButtons n _)
  · exact .refl s

theorem served_releaseAllBeliefs (s : State) : Served s (releaseAllBeliefs s) :=
  served_foldl (fun s n => served_releaseBelief n s) computers s

/-! ### Links -/

theorem served_doConfigure (n b) (s : State) : Served s (doConfigure n b s) := by
  unfold doConfigure
  split
  · exact .refl s
  · exact (served_modPort s n _).trans (served_raise _ _)
  all_goals exact served_modPort s n _

theorem served_doKeyboardPoll (n) (s : State) : Served s (doKeyboardPoll n s) := by
  unfold doKeyboardPoll
  split
  · exact served_modPort s n _
  · exact (served_modPort s n _).trans (served_raise _ _)
  · exact served_modPort s n _
  · exact served_modPort s n _
  · exact served_modPort s n _
  · exact .refl s

theorem served_doPointerPoll (n) (s : State) : Served s (doPointerPoll n s) := by
  unfold doPointerPoll
  split
  · exact served_modPort s n _
  · exact (served_modPort s n _).trans (served_raise _ _)
  · exact served_modPort s n _
  · exact served_modPort s n _
  · exact served_modPort s n _
  · exact .refl s

theorem served_doSuspend (n) (s : State) : Served s (doSuspend n s) := by
  unfold doSuspend
  split
  · exact (served_modPort s n _).trans ((served_clearBelief n _).trans
      ((served_typeoutLeftReady n _).trans (served_raise _ _)))
  · exact .refl s

theorem served_doResume (n) (s : State) : Served s (doResume n s) := by
  unfold doResume
  split
  · refine Served.trans ?_ ((served_raise _ _).trans (served_typeoutReady n _))
    split
    · exact (served_modPort s n _).trans (served_raise _ _)
    · exact served_modPort s n _
  · exact .refl s

/-! ### Actions, replies and records -/

theorem served_actTypeText (s : State) : Served s (actTypeText s) := by
  unfold actTypeText
  split
  · split
    · exact .refl s
    · dsimp only
      split
      · exact ((served_setTypeout s _).trans (served_raise _ _)).trans (served_enterWaitingRelease _)
      · exact ((served_setTypeout s _).trans (served_raise _ _)).trans (served_wakeRequest _ _)
      · exact ((served_setTypeout s _).trans (served_raise _ _)).trans (served_wakeRequest _ _)
      all_goals exact .refl s
  · exact .refl s

theorem served_actCommand (s : State) : Served s (actCommand s) := by
  unfold actCommand
  split
  · exact served_setMatcher s _
  · exact .refl s

theorem served_setSlot (p slot) (s : State) : Served s (setSlot p slot s) := served_modPort s p _

theorem served_putReply (p command tag st results) (s : State) : Served s (putReply p command tag st results s) :=
  served_modPort s p _

theorem served_answer (command r) (o : State × Option (Status × List Byte)) : Served o.1 (answer command r o) := by
  unfold answer
  split
  · exact .refl _
  · exact served_putReply _ _ _ _ _ _

theorem served_doReplyRead (p) (s : State) : Served s (doReplyRead p s) := by
  unfold doReplyRead
  split
  · exact served_modPort s p _
  · exact .refl s

theorem served_doNotificationTake (p) (s : State) : Served s (doNotificationTake p s) := by
  unfold doNotificationTake
  split
  · split
    · exact .refl s
    · exact served_modPort s p _
  · exact .refl s

/-- A request is refused and the requesting port alone changes, or its command's body runs. -/
theorem serve_served (command r formed a body) (s : State) : Served s (serve command r formed a body s) ∨
    serve command r formed a body s = answer command r (body (setSlot r.port .empty s)) := by
  unfold serve
  dsimp only
  split
  · split
    · exact .inl ((served_setSlot _ _ s).trans (served_putReply _ _ _ _ _ _))
    · split
      · exact .inl ((served_setSlot _ _ s).trans (served_putReply _ _ _ _ _ _))
      · exact .inr rfl
  · exact .inl (.refl s)

end Sys2Proof.Machine
end


section
/-! ## Parked computers hold nothing (R32, R135, R139)

A computer is engaged while it is the focus computer, a broadcast member or in the alert list. Every operation but a change
of the computer table engages no parked computer that was not engaged before. -/

namespace Sys2Proof.Machine

/-- Computer `n` is the focus computer, a broadcast member or in the alert list. -/
def Engaged (s : State) (n : Computer) : Prop :=
  s.focus.focus = some n ∨ s.focus.broadcast[n] = true ∨ ∃ e ∈ s.alerts.list, e.computer = n

/-- `t` has engaged no parked computer that `s` had not, and keeps the alert list and the rotation order legal. -/
structure ParkKept (s t : State) : Prop where
  parked : ∀ n : Computer, t.tables.computer[n].parked = s.tables.computer[n].parked
  engaged : ∀ n : Computer, s.tables.computer[n].parked = true → Engaged t n → Engaged s n
  single : (s.alerts.list.map AlertEntry.computer).Nodup → (t.alerts.list.map AlertEntry.computer).Nodup
  rotation : s.alerts.rotation.Perm computers → t.alerts.rotation.Perm computers

theorem ParkKept.refl (s : State) : ParkKept s s := ⟨fun _ => rfl, fun _ _ => id, id, id⟩

theorem ParkKept.trans {s t u : State} (h : ParkKept s t) (k : ParkKept t u) : ParkKept s u :=
  ⟨fun n => (k.parked n).trans (h.parked n), fun n hn e => h.engaged n hn (k.engaged n ((h.parked n).trans hn) e),
    k.single ∘ h.single, k.rotation ∘ h.rotation⟩

theorem parkKept_foldl {α : Type} {f : State → α → State} (hf : ∀ s a, ParkKept s (f s a)) (l : List α) (s : State) :
    ParkKept s (l.foldl f s) := by
  induction l generalizing s with
  | nil => exact .refl s
  | cons a l ih => exact (hf s a).trans (ih _)

/-- The law in terms of engaged computers. -/
theorem parkSafe_iff (s : State) : ParkSafe s ↔ (∀ n : Computer, Engaged s n → s.tables.computer[n].parked = false) ∧
    (s.alerts.list.map AlertEntry.computer).Nodup ∧ s.alerts.rotation.Perm computers := by
  constructor
  · intro h
    refine ⟨?_, h.single, h.rotation⟩
    rintro n (hf | hb | ⟨e, he, rfl⟩)
    · exact h.focus n hf
    · exact h.broadcast n hb
    · exact h.alerts e he
  · rintro ⟨h, single, rotation⟩
    exact ⟨fun n hf => h n (.inl hf), fun n hb => h n (.inr (.inl hb)), fun e he => h _ (.inr (.inr ⟨e, he, rfl⟩)), single,
      rotation⟩

theorem ParkKept.parkSafe {s t : State} (k : ParkKept s t) (h : ParkSafe s) : ParkSafe t := by
  obtain ⟨engaged, single, rotation⟩ := (parkSafe_iff s).1 h
  refine (parkSafe_iff t).2 ⟨fun n hn => ?_, k.single single, k.rotation rotation⟩
  rw [k.parked]
  refine Bool.eq_false_of_not_eq_true fun hp => ?_
  exact absurd ((engaged n (k.engaged n hp hn)).symm.trans hp) (by decide)

/-- What ParkKept needs when no computer becomes engaged. -/
theorem parkKept_of_eq {s t : State} (ht : t.tables.computer = s.tables.computer) (hf : t.focus.focus = s.focus.focus)
    (hb : t.focus.broadcast = s.focus.broadcast) (ha : t.alerts = s.alerts) : ParkKept s t :=
  ⟨fun n => by rw [ht], fun n _ => by unfold Engaged; rw [hf, hb, ha]; exact id, by rw [ha]; exact id,
    by rw [ha]; exact id⟩

theorem Served.parkKept {s t : State} (h : Served s t) : ParkKept s t :=
  parkKept_of_eq (by rw [h.tables]) h.focused h.broadcast h.alerts

/-- A computer may be given the focus: it is not parked, or engaged already. -/
def mayEngage (s : State) (n : Computer) : Prop :=
  s.tables.computer[n].parked = true → Engaged s n

theorem mayEngage.mono {s t : State} {n : Computer} (h : mayEngage s n) (ht : t.tables = s.tables)
    (k : Engaged s n → Engaged t n) : mayEngage t n := fun hp => k (h (by rwa [← ht]))

theorem liveOwner_unparked {s : State} {t : Tile} {n : Computer} (h : liveOwner s t = some n) :
    s.tables.computer[n].parked = false := by
  unfold liveOwner at h
  split at h
  · split at h
    · cases h
    · split at h
      · cases h
      · cases h
        next hp => simpa using hp
  · cases h

theorem seatOwner_unparked {s : State} {n : Computer} (h : seatOwner s = some n) :
    s.tables.computer[n].parked = false := by
  unfold seatOwner at h
  split at h
  · cases h
  · exact liveOwner_unparked h

theorem mayEngage_of_unparked {s : State} {n : Computer} (h : s.tables.computer[n].parked = false) : mayEngage s n :=
  fun hp => absurd (h.symm.trans hp) (by decide)

/-! ### Alerts -/

theorem parkKept_raise (e) (s : State) : ParkKept s (raise e s) := (served_raise s e).parkKept

theorem parkKept_recomputeFrames (s : State) : ParkKept s (recomputeFrames s) := parkKept_of_eq rfl rfl rfl rfl

theorem parkKept_setAlertList {l : List AlertEntry} {s : State}
    (hl : ∀ e ∈ l, mayEngage s e.computer)
    (hs : (s.alerts.list.map AlertEntry.computer).Nodup → (l.map AlertEntry.computer).Nodup) :
    ParkKept s (setAlertList l s) := by
  have tables : (setAlertList l s).tables = s.tables := (quiet_setAlertList l s).tables
  have a := setAlertList_sets l s
  refine ⟨fun n => by rw [tables], ?_, by rw [a.alerts]; exact hs, by rw [a.alerts]; exact id⟩
  rintro n hn (hf | hb | ⟨e, he, rfl⟩)
  · exact .inl (by rwa [a.focus] at hf)
  · exact .inr (.inl (by simpa only [a.focus] using hb))
  · rw [a.alerts] at he
    exact hl e he hn

/-- Entries that leave engage nobody. -/
theorem parkKept_setAlertList_sublist {l : List AlertEntry} {s : State} (h : l.Sublist s.alerts.list) :
    ParkKept s (setAlertList l s) :=
  parkKept_setAlertList (fun e he _ => .inr (.inr ⟨e, h.subset he, rfl⟩)) fun hs => hs.sublist (h.map _)

theorem parkKept_setSource (n src) (s : State) : ParkKept s (setSource n src s) :=
  ⟨fun _ => rfl, fun _ _ => id, id, id⟩

theorem parkKept_acknowledge (n) (s : State) : ParkKept s (acknowledge n s) :=
  parkKept_setAlertList_sublist List.filter_sublist

theorem parkKept_dropAlert (n) (s : State) : ParkKept s (dropAlert n s) :=
  parkKept_setAlertList_sublist List.filter_sublist

theorem parkKept_alertLinkLost (n) (s : State) : ParkKept s (alertLinkLost n s) :=
  (parkKept_setSource n _ s).trans (parkKept_setAlertList_sublist List.filter_sublist)

/-- An entry at the tail for an unparked computer without one (R133, R134, R136). -/
theorem nodup_entry {l : List AlertEntry} {e : AlertEntry} (he : hasEntry l e.computer = false)
    (hl : (l.map AlertEntry.computer).Nodup) : ((l ++ [e]).map AlertEntry.computer).Nodup := by
  rw [List.map_append, List.nodup_append]
  refine ⟨hl, List.nodup_singleton _, ?_⟩
  simp only [List.map_cons, List.map_nil, List.mem_singleton, List.mem_map]
  rintro a ⟨x, hx, rfl⟩ b rfl hxb
  have : hasEntry l e.computer = true := (hasEntry_iff l _).2 ⟨x, hx, hxb⟩
  rw [he] at this
  cases this

/-- The list after a rising: as it was, or with an entry at the tail for an unparked computer without one. -/
theorem riseList_cases (s : State) (n : Computer) : riseList s n = s.alerts.list ∨
    ∃ e : AlertEntry, riseList s n = s.alerts.list ++ [e] ∧ e.computer = n ∧ s.tables.computer[n].parked = false ∧
      hasEntry s.alerts.list n = false := by
  unfold riseList
  split
  · exact .inl rfl
  · next h =>
      simp only [Bool.or_eq_true, not_or, Bool.not_eq_true] at h
      exact .inr ⟨_, rfl, rfl, h.1, h.2⟩

/-- The computers of the list `l` may be engaged and none is there twice when that is so of the list of `s`. -/
structure LegalList (s : State) (l : List AlertEntry) : Prop where
  may : ∀ e ∈ l, mayEngage s e.computer
  single : (s.alerts.list.map AlertEntry.computer).Nodup → (l.map AlertEntry.computer).Nodup

theorem legalList_same (s : State) : LegalList s s.alerts.list :=
  ⟨fun e he _ => .inr (.inr ⟨e, he, rfl⟩), id⟩

theorem legalList_sublist {s : State} {l : List AlertEntry} (h : l.Sublist s.alerts.list) : LegalList s l :=
  ⟨fun e he _ => .inr (.inr ⟨e, h.subset he, rfl⟩), fun hs => hs.sublist (h.map _)⟩

theorem legalList_append {s : State} {e : AlertEntry} (hp : s.tables.computer[e.computer].parked = false)
    (he : hasEntry s.alerts.list e.computer = false) : LegalList s (s.alerts.list ++ [e]) := by
  refine ⟨fun x hx => ?_, nodup_entry he⟩
  rcases List.mem_append.1 hx with hx | hx
  · exact (legalList_same s).may x hx
  · rw [List.mem_singleton.1 hx]
    exact mayEngage_of_unparked hp

theorem legalList_riseList (s : State) (n) : LegalList s (riseList s n) := by
  obtain h | ⟨e, h, rfl, hp, he⟩ := riseList_cases s n
  · rw [h]
    exact legalList_same s
  · rw [h]
    exact legalList_append hp he

theorem legalList_fallList (s : State) (n) : LegalList s (fallList s n) := legalList_sublist List.filter_sublist

theorem legalList_freshList (s : State) (n) : LegalList s (freshList s n) := by
  unfold freshList
  split
  · exact legalList_riseList s n
  · exact legalList_fallList s n

/-- RAISE_ALERT adds an entry for an unparked computer without one, or changes the entry there is in place (R136). -/
theorem legalList_raiseList (s : State) (n) : LegalList s (raiseList s n) := by
  unfold raiseList
  split
  · exact legalList_same s
  · next hp =>
    split
    · have same : (s.alerts.list.map fun e => if e.computer = n ∧ e.kind = .level ∧ e.raisedBy = .indicator then
          (⟨n, .latched, .service⟩ : AlertEntry) else e).map AlertEntry.computer =
          s.alerts.list.map AlertEntry.computer := by
        rw [List.map_map]
        refine List.map_congr_left fun e _ => ?_
        simp only [Function.comp]
        split
        next h => exact h.1.symm
        next => rfl
      refine ⟨fun e he _ => ?_, by rw [same]; exact id⟩
      have mem : e.computer ∈ s.alerts.list.map AlertEntry.computer := by
        rw [← same]
        exact List.mem_map_of_mem he
      obtain ⟨x, hx, hxe⟩ := List.mem_map.1 mem
      exact .inr (.inr ⟨x, hx, hxe⟩)
    · next he => exact legalList_append (by simpa using hp) (by simpa using he)

theorem LegalList.parkKept {s : State} {l : List AlertEntry} (h : LegalList s l) : ParkKept s (setAlertList l s) :=
  parkKept_setAlertList h.may h.single

/-- A legal list stays so when the source records change. -/
theorem LegalList.setSource {s : State} {l : List AlertEntry} (h : LegalList s l) (n src) :
    LegalList (setSource n src s) l := ⟨h.may, h.single⟩

theorem parkKept_freshEvaluate (n) (s : State) : ParkKept s (freshEvaluate n s) :=
  (parkKept_setSource n _ s).trans ((legalList_freshList s n).setSource n _).parkKept

theorem parkKept_takeIndicatorReport (n) (s : State) : ParkKept s (takeIndicatorReport n s) := by
  unfold takeIndicatorReport
  dsimp only
  refine (parkKept_setSource n _ s).trans (LegalList.parkKept (LegalList.setSource ?_ n _))
  split
  · exact legalList_riseList s n
  · split
    · exact legalList_fallList s n
    · exact legalList_same s

theorem perm_rotated {l : List Computer} (h : l.Perm computers) (c : Computer) :
    (l.filter (fun n => decide (n ≠ c)) ++ [c]).Perm computers := by
  have turned : ∀ c : Computer, (computers.filter (fun n => decide (n ≠ c)) ++ [c]).Perm computers := by decide
  exact ((h.filter _).append_right [c]).trans (turned c)

theorem parkKept_rotateTo (c) (s : State) : ParkKept s (rotateTo c s) := by
  unfold rotateTo
  split
  · exact ⟨fun _ => rfl, fun _ _ => id, id, fun h => perm_rotated h c⟩
  · exact .refl s

theorem parkKept_freshQuiet (s : State) (n) : ParkKept s (freshQuiet s n) := by
  have legal := legalList_freshList s n
  refine ⟨fun _ => rfl, fun m hm => ?_, legal.single, id⟩
  rintro (hf | hb | ⟨e, he, rfl⟩)
  · exact .inl hf
  · exact .inr (.inl hb)
  · exact legal.may e he hm

theorem parkKept_resetAlerts (s : State) : ParkKept s (resetAlerts s) := by
  have cleared : ParkKept s (s.setAlerts { s.alerts with list := [], rotation := computers }) := by
    refine ⟨fun _ => rfl, fun n _ => ?_, fun _ => .nil, fun _ => .refl _⟩
    rintro (hf | hb | ⟨e, he, rfl⟩)
    · exact .inl hf
    · exact .inr (.inl hb)
    · cases he
  have k := cleared.trans (parkKept_foldl parkKept_freshQuiet computers _)
  unfold resetAlerts
  dsimp only
  split
  · exact k
  · exact k.trans (parkKept_raise _ _)

/-! ### The pointer -/

theorem parkKept_setMode (m) (s : State) : ParkKept s (setMode m s) := by
  cases m <;> exact parkKept_of_eq rfl rfl rfl rfl

theorem parkKept_setGlide (v) (s : State) : ParkKept s (s.setGlide v) := parkKept_of_eq rfl rfl rfl rfl

theorem parkKept_seatFor (n) (s : State) : ParkKept s (seatFor n s) := by
  unfold seatFor
  split
  · exact parkKept_setMode _ s
  · split
    · exact parkKept_setMode _ s
    · split
      · exact (parkKept_setGlide _ s).trans (parkKept_setMode _ _)
      · split
        · exact (parkKept_setGlide _ s).trans (parkKept_setMode _ _)
        · exact parkKept_setMode _ s

theorem parkKept_seatFirst (s : State) : ParkKept s (seatFirst s) := by
  unfold seatFirst
  split
  · exact parkKept_setGlide _ s
  · split
    · exact .refl s
    · exact parkKept_setGlide _ s

theorem parkKept_modeFromSeat (s : State) : ParkKept s (modeFromSeat s) := by
  unfold modeFromSeat
  split
  · exact parkKept_setMode _ s
  · split <;> exact parkKept_setMode _ s

theorem parkKept_rememberHere (s : State) : ParkKept s (rememberHere s) := by
  unfold rememberHere
  split
  · exact .refl s
  · split
    · exact parkKept_setGlide _ s
    · exact .refl s

theorem parkKept_rememberHanded (handed) (s : State) : ParkKept s (rememberHanded handed s) := by
  unfold rememberHanded
  split
  · exact parkKept_setGlide _ s
  · exact .refl s

/-! ### Focus changes -/

/-- What step 4 of a focus change engages is the new focus computer (R27). -/
theorem parkKept_setFocusTo {n : Option Computer} {s : State} (h : ∀ m, n = some m → mayEngage s m) :
    ParkKept s (setFocusTo n s) := by
  have focused : ParkKept s (s.setFocus { s.focus with previous := s.focus.focus, focus := n, rx := 0, ry := 0 }) := by
    refine ⟨fun _ => rfl, fun m hm => ?_, id, id⟩
    rintro (hf | hb | ha)
    · exact h m hf hm
    · exact .inr (.inl hb)
    · exact .inr (.inr ha)
  have k := focused.trans (served_syncMirror _).parkKept
  unfold setFocusTo
  dsimp only
  split
  · exact k
  · exact k.trans (parkKept_acknowledge _ _)

theorem parkKept_announceFocus (s : State) : ParkKept s (announceFocus s) :=
  (parkKept_raise _ s).trans (parkKept_recomputeFrames _)

/-- What the operations before step 4 of a focus change leave: nobody is engaged or disengaged. -/
theorem engaged_congr {s t : State} (hf : t.focus.focus = s.focus.focus) (hb : t.focus.broadcast = s.focus.broadcast)
    (ha : t.alerts = s.alerts) (n : Computer) : Engaged t n ↔ Engaged s n := by
  unfold Engaged
  rw [hf, hb, ha]

theorem Served.mayEngage {s t : State} (h : Served s t) {n : Computer} (k : mayEngage s n) : mayEngage t n :=
  k.mono h.tables (engaged_congr h.focused h.broadcast h.alerts n).2

theorem mayEngage_rememberHere {s : State} {n : Computer} (h : mayEngage s n) : mayEngage (rememberHere s) n := by
  unfold rememberHere
  split
  · exact h
  · split <;> exact h

theorem mayEngage_rememberHanded {s : State} {n : Computer} (handed) (h : mayEngage s n) :
    mayEngage (rememberHanded handed s) n := by
  unfold rememberHanded
  split <;> exact h

theorem parkKept_focusChange {n : Option Computer} {s : State} (h : ∀ m, n = some m → mayEngage s m) :
    ParkKept s (focusChange n s) := by
  unfold focusChange
  split
  · exact .refl s
  · have k := (served_endTypeout .cancelledFocus s).trans (served_releaseOldFocus _)
    refine k.parkKept.trans ((parkKept_rememberHere _).trans ?_)
    refine (parkKept_setFocusTo fun m hm => mayEngage_rememberHere (k.mayEngage (h m hm))).trans ?_
    exact (parkKept_seatFor n _).trans ((served_considerPosition _).parkKept.trans
      ((served_wakeOnFocus n _).parkKept.trans (parkKept_announceFocus _)))

theorem parkKept_focusChangePlaced {n : Computer} {s : State} (handed) (h : mayEngage s n) :
    ParkKept s (focusChangePlaced n handed s) := by
  unfold focusChangePlaced
  split
  · exact .refl s
  · have k := (served_endTypeout .cancelledFocus s).trans (served_releaseOldFocus _)
    refine k.parkKept.trans ((parkKept_rememberHanded handed _).trans ?_)
    refine (parkKept_setFocusTo fun m hm => ?_).trans
      ((served_wakeOnFocus (some n) _).parkKept.trans (parkKept_announceFocus _))
    cases hm
    exact mayEngage_rememberHanded handed (k.mayEngage h)

theorem parkKept_actOnReseat {o : ReseatOutcome} {s : State} (h : ∀ c, o = .moved c → mayEngage s c) :
    ParkKept s (actOnReseat o s) := by
  unfold actOnReseat
  split
  · exact .refl s
  · next c =>
    split
    · exact parkKept_setMode _ s
    · split
      · exact (parkKept_focusChangePlaced none (h c rfl)).trans (parkKept_setMode _ _)
      · exact parkKept_setMode _ s
  · exact parkKept_setMode _ s

/-- A re-seat moves the pointer to a live tile's computer only (R69). -/
theorem reseatPlace_moved {s : State} {c : Computer} (h : (reseatPlace s).2 = .moved c) :
    s.tables.computer[c].parked = false := by
  have stay : ∀ t n, stayTile s = some (t, n) → s.tables.computer[n].parked = false := by
    intro t n hs
    unfold stayTile at hs
    (repeat' split at hs) <;> cases hs
    next ho => exact liveOwner_unparked ho
  have new : ∀ t n, newTile s = some (t, n) → s.tables.computer[n].parked = false := by
    intro t n hs
    unfold newTile at hs
    dsimp only at hs
    split at hs
    next _ tn he =>
      (repeat' split at he) <;> cases he
      cases hs
      next ht =>
        have ho := List.find?_some ht
        exact liveOwner_unparked (by simpa using ho)
    next =>
      (repeat' split at hs) <;> cases hs
      next ho => exact liveOwner_unparked ho
  unfold reseatPlace at h
  split at h
  next t n hs =>
    dsimp only at h
    split at h
    · cases h
    · cases h
      exact stay t _ hs
  next =>
    split at h
    next t n hs =>
      cases h
      exact new t _ hs
    next => cases h

theorem reseatPlace_keeps (s : State) : (reseatPlace s).1 = s.setGlide (reseatPlace s).1.glide := by
  unfold reseatPlace
  split
  · rfl
  · split <;> rfl

theorem parkKept_reseat (s : State) : ParkKept s (reseat s) := by
  have placed : ParkKept s (reseatPlace s).1 := by
    rw [reseatPlace_keeps]
    exact parkKept_setGlide _ s
  refine placed.trans (ParkKept.trans (parkKept_actOnReseat fun c hc => mayEngage_of_unparked ?_)
    (served_considerPosition _).parkKept)
  rw [placed.parked]
  exact reseatPlace_moved hc

theorem parkKept_focusMark (s : State) : ParkKept s (focusMark s) := by
  unfold focusMark
  split
  · split
    · exact .refl s
    · next ho =>
      exact (parkKept_focusChangePlaced none (mayEngage_of_unparked (seatOwner_unparked ho))).trans (parkKept_setMode _ _)
  · exact .refl s

theorem parkKept_markAlone (m) (s : State) : ParkKept s (markAlone m s) := by
  unfold markAlone
  split
  · exact (served_typeoutMark s).parkKept.trans (parkKept_focusMark _)
  · exact .refl s

theorem parkKept_focusKeyRelease (k m) (s : State) : ParkKept s (focusKeyRelease k m s) := by
  have h := (served_foldl (served_releaseAt k) computers s).parkKept
  unfold focusKeyRelease
  dsimp only
  split
  · exact h.trans (parkKept_focusMark _)
  · exact h

theorem parkKept_focusButtonRelease (b m) (s : State) : ParkKept s (focusButtonRelease b m s) := by
  have h := (served_foldl (served_buttonReleaseAt b) computers s).parkKept
  unfold focusButtonRelease
  dsimp only
  split
  · exact h.trans (parkKept_focusMark _)
  · exact h

/-! ### Motion -/

theorem parkKept_clearRemainder (s : State) : ParkKept s (clearRemainder s) := parkKept_of_eq rfl rfl rfl rfl

theorem parkKept_forwardRelative (dx dy wheel) (s : State) : ParkKept s (forwardRelative dx dy wheel s) := by
  unfold forwardRelative
  split
  · exact parkKept_clearRemainder s
  · split
    · dsimp only
      split
      · exact parkKept_of_eq rfl rfl rfl rfl
      · exact parkKept_of_eq rfl rfl rfl rfl
    · exact parkKept_clearRemainder s

theorem parkKept_setAxis (a p) (s : State) : ParkKept s (setAxis a p s) := by
  cases a <;> exact parkKept_setGlide _ s

theorem parkKept_cross {n : Computer} {s : State} (a p t) (h : s.tables.computer[n].parked = false) :
    ParkKept s (cross a p t n s) := by
  unfold cross
  dsimp only
  have k := (parkKept_setAxis a p s).trans
    (parkKept_setGlide { (setAxis a p s).glide with seat := some ⟨t.screen, t.quad, n⟩ } _)
  split
  · exact k
  · have k2 := k.trans (served_wakeOnGlide n _).parkKept
    exact k2.trans (parkKept_focusChangePlaced _ (mayEngage_of_unparked (by rw [k2.parked]; exact h)))

theorem parkKept_moveAxis (a step) (s : State) : ParkKept s (moveAxis a step s) := by
  unfold moveAxis
  split
  · exact .refl s
  · dsimp only
    split
    · exact parkKept_setAxis _ _ s
    · split
      · exact parkKept_setAxis _ _ s
      · split
        · exact parkKept_setAxis _ _ s
        · next ho =>
          split
          · exact parkKept_cross _ _ _ (liveOwner_unparked ho)
          · exact parkKept_setAxis _ _ s

theorem parkKept_motionItem (dx dy wheel c) (s : State) : ParkKept s (motionItem dx dy wheel c s) := by
  unfold motionItem
  split
  · exact ((parkKept_moveAxis _ _ s).trans (parkKept_moveAxis _ _ _)).trans (served_considerReport _ _).parkKept
  all_goals exact parkKept_forwardRelative _ _ _ s

end Sys2Proof.Machine
end


section
/-! ## Parked computers hold nothing: the actions, the screens, the lock and the tables -/

namespace Sys2Proof.Machine

/-! ### What a focus change makes of the focus record -/

theorem setMode_focused (m) (s : State) : (setMode m s).focus.focus = s.focus.focus ∧
    (setMode m s).focus.previous = s.focus.previous ∧ (setMode m s).focus.broadcast = s.focus.broadcast ∧
    (setMode m s).focus.beliefs = s.focus.beliefs := by
  cases m <;> exact ⟨rfl, rfl, rfl, rfl⟩

theorem seatFor_focused (n) (s : State) : (seatFor n s).focus.focus = s.focus.focus ∧
    (seatFor n s).focus.previous = s.focus.previous ∧ (seatFor n s).focus.broadcast = s.focus.broadcast ∧
    (seatFor n s).focus.beliefs = s.focus.beliefs := by
  unfold seatFor
  split
  · exact setMode_focused _ s
  · split
    · exact setMode_focused _ s
    · split
      · exact setMode_focused _ _
      · split
        · exact setMode_focused _ _
        · exact setMode_focused _ s

theorem rememberHere_focus (s : State) : (rememberHere s).focus = s.focus := by
  unfold rememberHere
  split
  · rfl
  · split <;> rfl

/-- Step 4 of a focus change, to a computer or to none (R27). -/
theorem setFocusTo_focus (n : Option Computer) (s : State) :
    (setFocusTo n s).focus = { s.focus with previous := s.focus.focus, focus := n, rx := 0, ry := 0 } := by
  cases n with
  | none => exact (served_syncMirror _).focus.trans (by
      rw [(syncMirror_keeps _).2.2.2.1]
      rfl)
  | some n => exact (setFocusTo_sets n s).1

/-- The focus record after a focus change, the belief sets and the mode apart (R27). -/
theorem focusChange_focused {n : Option Computer} {s : State} (h : s.focus.focus ≠ n) :
    (focusChange n s).focus.focus = n ∧ (focusChange n s).focus.previous = s.focus.focus ∧
      (focusChange n s).focus.broadcast = s.focus.broadcast := by
  have k := (served_endTypeout .cancelledFocus s).trans (served_releaseOldFocus _)
  have e : focusChange n s = announceFocus (wakeOnFocus n (considerPosition (seatFor n (setFocusTo n
      (rememberHere (releaseOldFocus (endTypeout .cancelledFocus s))))))) := by
    unfold focusChange
    rw [if_neg h]
  have k2 := fun u => (served_considerPosition u).trans (served_wakeOnFocus n _)
  rw [e]
  simp only [announceFocus_focus, (k2 _).focused, (k2 _).previous, (k2 _).broadcast, seatFor_focused, setFocusTo_focus,
    rememberHere_focus, k.focused, k.broadcast, and_self]

/-! ### Focus actions, broadcast and park -/

theorem reachable_unparked {s : State} {l : List Computer} {m : Computer} (h : l.find? (reachable s) = some m) :
    s.tables.computer[m].parked = false := by
  have hr := List.find?_some h
  unfold reachable at hr
  simp only [Bool.and_eq_true, Bool.not_eq_true'] at hr
  exact hr.1

theorem parkKept_focusFound {found : Option Computer} {s : State}
    (h : ∀ m, found = some m → s.tables.computer[m].parked = false) : ParkKept s (focusFound found s) := by
  unfold focusFound
  split
  · exact .refl s
  · next m => exact parkKept_focusChange fun c hc => by cases hc; exact mayEngage_of_unparked (h m rfl)

/-- A focus change to a computer that is not parked, or a refusal. -/
theorem parkKept_focusUnlessParked (c : Computer) (s : State) :
    ParkKept s (if s.tables.computer[c].parked then s else focusChange (some c) s) := by
  split
  · exact .refl s
  · next hp =>
    exact parkKept_focusChange fun m hm => by
      cases hm
      exact mayEngage_of_unparked (Bool.eq_false_of_not_eq_true hp)

theorem parkKept_actFocus (n) (s : State) : ParkKept s (actFocus n s) := by
  unfold actFocus
  split
  · exact .refl s
  · exact parkKept_focusUnlessParked _ s

theorem parkKept_actFocusBack (s : State) : ParkKept s (actFocusBack s) := by
  unfold actFocusBack
  split
  · exact .refl s
  · exact parkKept_focusUnlessParked _ s

theorem parkKept_setBroadcast {n : Computer} {b : Bool} {s : State}
    (h : b = true → s.tables.computer[n].parked = false) : ParkKept s (setBroadcast n b s) := by
  refine ⟨fun _ => rfl, fun m hm => ?_, id, id⟩
  rintro (hf | hb | ha)
  · exact .inl hf
  · have hb : (s.focus.broadcast.set n b)[m] = true := hb
    by_cases e : n = m
    · subst e
      have hb : b = true := by simpa using hb
      exact absurd ((h hb).symm.trans hm) (by decide)
    · have e' : n.val ≠ m.val := fun h => e (Fin.ext h)
      exact .inr (.inl (by simpa [e'] using hb))
  · exact .inr (.inr ha)

theorem parkKept_removeBroadcast (n) (s : State) : ParkKept s (removeBroadcast n s) := by
  unfold removeBroadcast
  split
  · refine ParkKept.trans ?_ (parkKept_setBroadcast fun h => absurd h (by decide))
    split
    · exact .refl s
    · exact (served_releaseBelief n s).parkKept
  · exact .refl s

theorem parkKept_actBroadcastToggle (n) (s : State) : ParkKept s (actBroadcastToggle n s) := by
  unfold actBroadcastToggle
  split
  · exact .refl s
  · split
    · exact parkKept_removeBroadcast _ s
    · split
      · exact .refl s
      · next hp => exact parkKept_setBroadcast fun _ => Bool.eq_false_of_not_eq_true hp

theorem parkKept_leaveParked (n) (s : State) : ParkKept s (leaveParked n s) := by
  unfold leaveParked
  split
  · exact parkKept_focusChange fun m hm => mayEngage_of_unparked (reachable_unparked hm)
  · exact .refl s

theorem parkKept_parkSteps (n) (s : State) : ParkKept s (parkSteps n s) :=
  (parkKept_removeBroadcast n s).trans ((parkKept_leaveParked n _).trans (parkKept_dropAlert n _))

theorem setBroadcast_broadcast (n : Computer) (b : Bool) (s : State) (m : Computer) :
    (setBroadcast n b s).focus.broadcast[m] = if n = m then b else s.focus.broadcast[m] := by
  have e : (setBroadcast n b s).focus.broadcast = s.focus.broadcast.set n b := rfl
  rw [e]
  by_cases h : n = m
  · subst h
    simp
  · have h' : n.val ≠ m.val := fun e => h (Fin.ext e)
    simp [h, h']

/-- A removal from the broadcast set takes out `n` alone and leaves the focus where it is (R34). -/
theorem removeBroadcast_broadcast (n : Computer) (s : State) :
    (removeBroadcast n s).focus.focus = s.focus.focus ∧
      ∀ m : Computer, (removeBroadcast n s).focus.broadcast[m] = if n = m then false else s.focus.broadcast[m] := by
  unfold removeBroadcast
  split
  · have k : Served s (if s.focus.focus = some n then s else releaseBelief n s) := by
      split
      · exact .refl s
      · exact served_releaseBelief n s
    refine ⟨k.focused, fun m => ?_⟩
    rw [setBroadcast_broadcast, k.broadcast]
  · next h =>
    refine ⟨rfl, fun m => ?_⟩
    split
    · next e => rw [← e]; exact Bool.eq_false_of_not_eq_true h
    · rfl

/-- The focus leaves a parked computer (R32). -/
theorem leaveParked_focused {n : Computer} {s : State} (hp : s.tables.computer[n].parked = true) :
    (leaveParked n s).focus.focus ≠ some n ∧ (leaveParked n s).focus.broadcast = s.focus.broadcast := by
  unfold leaveParked
  split
  · next hf =>
    have hne : s.focus.focus ≠ (nextOrder s.focus.focus).find? (reachable s) := fun e =>
      absurd ((reachable_unparked (e.symm.trans hf)).symm.trans hp) (by decide)
    obtain ⟨focus, -, broadcast⟩ := focusChange_focused hne
    exact ⟨fun e => hne (hf.trans (e.symm.trans focus)), broadcast⟩
  · next hf => exact ⟨hf, rfl⟩

/-- A parked computer taken through steps 1 to 3 of R32 is engaged no more. -/
theorem not_engaged_parkSteps {n : Computer} {s : State} (hp : s.tables.computer[n].parked = true) :
    ¬ Engaged (parkSteps n s) n := by
  have hp1 : (removeBroadcast n s).tables.computer[n].parked = true := (parkKept_removeBroadcast n s).parked n ▸ hp
  obtain ⟨focus, broadcast⟩ := leaveParked_focused hp1
  have a := setAlertList_sets (dropEntries n (fun _ => true) (leaveParked n (removeBroadcast n s)).alerts.list)
    (leaveParked n (removeBroadcast n s))
  rintro (hf | hb | ⟨e, he, hn⟩)
  · exact focus (a.focus ▸ hf)
  · have hb : (leaveParked n (removeBroadcast n s)).focus.broadcast[n] = true := by rw [← a.focus]; exact hb
    rw [broadcast, (removeBroadcast_broadcast n s).2, if_pos rfl] at hb
    cases hb
  · have he : e ∈ dropEntries n (fun _ => true) (leaveParked n (removeBroadcast n s)).alerts.list := by
      have := a.alerts
      unfold parkSteps dropAlert at he
      rwa [this] at he
    unfold dropEntries at he
    simp [hn] at he

theorem parkKept_goToAlert {c : Computer} {s : State} (h : mayEngage s c) : ParkKept s (goToAlert c s) := by
  unfold goToAlert
  split
  · exact parkKept_acknowledge c s
  · exact parkKept_focusChange fun m hm => by cases hm; exact h

theorem bestPriority_mem {s : State} {l : List AlertEntry} {c : Computer} (h : bestPriority s l = some c) :
    ∃ e ∈ l, e.computer = c := by
  induction l generalizing c with
  | nil => cases h
  | cons e l ih =>
    unfold bestPriority at h
    split at h
    · cases h
      exact ⟨e, List.mem_cons_self, rfl⟩
    · next hb =>
      split at h
      · cases h
        exact ⟨e, List.mem_cons_self, rfl⟩
      · cases h
        obtain ⟨x, hx, hxc⟩ := ih hb
        exact ⟨x, List.mem_cons_of_mem _ hx, hxc⟩

/-- GO_ALERT chooses a computer of the alert list (R139). -/
theorem alertChoice_mem {s : State} {c : Computer} (h : alertChoice s = some c) : ∃ e ∈ s.alerts.list, e.computer = c := by
  unfold alertChoice at h
  split at h
  · obtain ⟨e, he, hc⟩ := Option.map_eq_some_iff.1 h
    exact ⟨e, List.mem_of_mem_head? he, hc⟩
  · exact bestPriority_mem h
  · exact (hasEntry_iff _ _).1 (List.find?_some h)

theorem parkKept_actGoAlert (s : State) : ParkKept s (actGoAlert s) := by
  unfold actGoAlert
  split
  · exact .refl s
  · next c hc =>
    refine (parkKept_rotateTo c s).trans (parkKept_goToAlert fun _ => ?_)
    obtain ⟨e, he, hec⟩ := alertChoice_mem hc
    refine .inr (.inr ⟨e, ?_, hec⟩)
    unfold rotateTo
    split <;> exact he

/-! ### Screens and peeks -/

theorem parkKept_modScreen (sc f) (s : State) : ParkKept s (s.modScreen sc f) := parkKept_of_eq rfl rfl rfl rfl

theorem parkKept_setScreens (v) (s : State) : ParkKept s (s.setScreens v) := parkKept_of_eq rfl rfl rfl rfl

theorem parkKept_assignScreen (sc a) (s : State) : ParkKept s (assignScreen sc a s) := by
  unfold assignScreen
  split
  · exact parkKept_modScreen sc _ s
  · exact (parkKept_modScreen sc _ s).trans (parkKept_reseat _)

theorem parkKept_setRequested (sc a) (s : State) : ParkKept s (setRequested sc a s) := by
  unfold setRequested
  split
  · exact parkKept_modScreen sc _ s
  · exact parkKept_assignScreen sc a s

theorem parkKept_closePeek (sc) (s : State) : ParkKept s (closePeek sc s) :=
  (parkKept_modScreen sc _ s).trans ((parkKept_recomputeFrames _).trans (parkKept_raise _ _))

theorem parkKept_endPeek (sc) (s : State) : ParkKept s (endPeek sc s) := by
  unfold endPeek
  split
  · exact .refl s
  · exact (parkKept_assignScreen sc _ s).trans (parkKept_closePeek sc _)

theorem parkKept_endPeekQuiet (s : State) (sc) : ParkKept s (endPeekQuiet s sc) := by
  unfold endPeekQuiet
  split
  · exact .refl s
  · refine ParkKept.trans ?_ (parkKept_closePeek sc _)
    split <;> exact parkKept_modScreen sc _ s

theorem parkKept_actPeek (sn c) (s : State) : ParkKept s (actPeek sn c s) := by
  unfold actPeek
  split
  · split
    · exact .refl s
    · split
      · exact parkKept_endPeek _ s
      · exact (parkKept_modScreen _ _ s).trans ((parkKept_assignScreen _ _ _).trans
          ((parkKept_recomputeFrames _).trans (parkKept_raise _ _)))
      · unfold retargetPeek
        dsimp only
        split
        · exact parkKept_modScreen _ _ s
        · exact (parkKept_modScreen _ _ s).trans (parkKept_assignScreen _ _ _)
  · exact .refl s

theorem parkKept_doDisplayDetach (sc) (s : State) : ParkKept s (doDisplayDetach sc s) := by
  have pending : ∀ u, ParkKept u (displayPending sc u) := fun u => by
    unfold displayPending
    split
    · exact .refl u
    · exact (parkKept_modScreen sc _ u).trans (parkKept_reseat _)
  unfold doDisplayDetach
  split
  · exact (parkKept_modScreen sc (Screen.unplug s.tables.layout[sc]) s).trans ((pending _).trans
      ((parkKept_modScreen sc _ _).trans ((parkKept_raise _ _).trans (parkKept_reseat _))))
  · exact .refl s

theorem parkKept_doDisplayAttach (sc p) (s : State) : ParkKept s (doDisplayAttach sc p s) :=
  (parkKept_doDisplayDetach sc s).trans ((parkKept_modScreen sc _ _).trans ((parkKept_raise _ _).trans (parkKept_reseat _)))

theorem parkKept_doFrameStart (sc) (s : State) : ParkKept s (doFrameStart sc s) := by
  have taken : ParkKept s (takePending sc s) := by
    unfold takePending
    split <;> exact parkKept_modScreen sc _ s
  have k : ParkKept s (composeScreen sc (takePending sc s)) := taken.trans (parkKept_of_eq rfl rfl rfl rfl)
  unfold doFrameStart
  split
  · dsimp only
    split
    · exact k.trans (parkKept_reseat _)
    · exact k
  · exact .refl s

/-- A change of other tables than the computer table engages nobody. -/
theorem parkKept_changeTables {tb : Tables} {s : State} (h : tb.computer = s.tables.computer) :
    ParkKept s (changeTables tb s) := parkKept_of_eq h rfl rfl rfl

theorem parkKept_actShow (sn c) (s : State) : ParkKept s (actShow sn c s) := by
  unfold actShow
  split
  · split
    · exact .refl s
    · refine ParkKept.trans ?_ (parkKept_setRequested _ _ _)
      exact parkKept_changeTables rfl
  · exact .refl s

theorem parkKept_actPreset (n) (s : State) : ParkKept s (actPreset n s) := by
  unfold actPreset
  split
  · exact .refl s
  · dsimp only
    split
    · exact .refl s
    · refine ParkKept.trans ?_ (parkKept_foldl (fun u sc => ?_) screenNos _)
      · exact parkKept_changeTables rfl
      · unfold presetScreen
        split
        · exact .refl u
        · exact parkKept_setRequested _ _ u

/-! ### The lock -/

theorem parkKept_setLockRecord (l) (s : State) : ParkKept s (setLockRecord l s) := parkKept_of_eq rfl rfl rfl rfl

theorem parkKept_actLock (s : State) : ParkKept s (actLock s) := by
  unfold actLock
  split
  · have locked := (parkKept_setLockRecord ⟨.locked, 0, 0, none⟩ s).trans (served_endTypeout .cancelledLock _).parkKept
    have peeks : ∀ u, ParkKept u (endAllPeeks (clearMatcher u)) := fun u => (served_setMatcher u _).parkKept.trans
      (parkKept_foldl (fun v sc => parkKept_endPeek sc v) screenNos _)
    exact (locked.trans (peeks _)).trans ((served_releaseAllBeliefs _).parkKept.trans
      ((parkKept_clearRemainder _).trans (parkKept_raise _ _)))
  · exact .refl s

theorem parkKept_unlockConsole (s : State) : ParkKept s (unlockConsole s) :=
  (parkKept_setLockRecord _ s).trans (parkKept_raise _ _)

theorem parkKept_actUnlock (s : State) : ParkKept s (actUnlock s) := by
  unfold actUnlock
  split
  · exact .refl s
  all_goals exact parkKept_unlockConsole s

theorem parkKept_failAttempt (p) (s : State) : ParkKept s (failAttempt p s) := by
  unfold failAttempt
  dsimp only
  split <;> exact (parkKept_setLockRecord _ s).trans (parkKept_raise _ _)

theorem parkKept_lockedPress (k) (s : State) : ParkKept s (lockedPress k s) := by
  unfold lockedPress
  split
  · exact .refl s
  · unfold comparePress
    split
    · split
      · exact parkKept_of_eq rfl rfl rfl rfl
      · exact parkKept_unlockConsole s
    · split
      · exact .refl s
      · exact parkKept_failAttempt _ s

/-! ### The park: a change of the computer table and its consequences (R32, R33, R166) -/

/-- No parked computer is engaged but those that `p` holds of, and alert list and rotation order are legal. -/
structure ParkSafeBut (p : Computer → Prop) (s : State) : Prop where
  engaged : ∀ n : Computer, s.tables.computer[n].parked = true → Engaged s n → p n
  single : (s.alerts.list.map AlertEntry.computer).Nodup
  rotation : s.alerts.rotation.Perm computers

theorem parkSafe_iff_but (s : State) : ParkSafe s ↔ ParkSafeBut (fun _ => False) s := by
  rw [parkSafe_iff]
  constructor
  · rintro ⟨h, single, rotation⟩
    exact ⟨fun n hp hn => absurd ((h n hn).symm.trans hp) (by decide), single, rotation⟩
  · rintro ⟨h, single, rotation⟩
    exact ⟨fun n hn => Bool.eq_false_of_not_eq_true fun hp => h n hp hn, single, rotation⟩

theorem ParkSafeBut.mono {p q : Computer → Prop} {s : State} (h : ParkSafeBut p s) (hq : ∀ n, p n → q n) :
    ParkSafeBut q s := ⟨fun n hp hn => hq n (h.engaged n hp hn), h.single, h.rotation⟩

theorem ParkSafeBut.step {p : Computer → Prop} {s t : State} (h : ParkSafeBut p s) (k : ParkKept s t) : ParkSafeBut p t :=
  ⟨fun n hp hn => have hp := (k.parked n).symm.trans hp
    h.engaged n hp (k.engaged n hp hn), k.single h.single, k.rotation h.rotation⟩

/-- After a change of the computer table the computers that became parked may still be engaged. -/
theorem parkSafeBut_changeTables {tb : Tables} {s : State} (h : ParkSafe s) :
    ParkSafeBut (fun n => s.tables.computer[n].parked = false ∧ tb.computer[n].parked = true) (changeTables tb s) :=
  ⟨fun n hp hn => ⟨((parkSafe_iff s).1 h).1 n hn, hp⟩, h.single, h.rotation⟩

theorem parkSafeBut_parkSteps {p : Computer → Prop} {n : Computer} {s : State} (h : ParkSafeBut p s)
    (hp : s.tables.computer[n].parked = true) : ParkSafeBut (fun m => p m ∧ m ≠ n) (parkSteps n s) := by
  have k := h.step (parkKept_parkSteps n s)
  exact ⟨fun m hm he => ⟨k.engaged m hm he, fun e => not_engaged_parkSteps hp (e ▸ he)⟩, k.single, k.rotation⟩

/-- The tables with the parked field of computer `c` turned (R32, R33). -/
def parkTurned (c : Computer) (tb : Tables) : Tables :=
  { tb with computer := tb.computer.set c { tb.computer[c] with parked := !tb.computer[c].parked } }

theorem parkTurned_parked (c : Computer) (tb : Tables) (m : Computer) :
    (parkTurned c tb).computer[m].parked = if c = m then !tb.computer[m].parked else tb.computer[m].parked := by
  by_cases e : c = m
  · subst e
    simp [parkTurned]
  · have e' : c.val ≠ m.val := fun h => e (Fin.ext h)
    simp [parkTurned, e, e']

/-- PARK_TOGGLE by its two cases (R32, R33). -/
theorem actParkToggle_eq {n : Nat} {c : Computer} (h : ofNum 8 n = some c) (s : State) :
    actParkToggle n s = if s.tables.computer[c].parked then
      recomputeFrames (freshEvaluate c (reseat (changeTables (parkTurned c s.tables) s)))
    else recomputeFrames (reseat (parkSteps c (changeTables (parkTurned c s.tables) s))) := by
  unfold actParkToggle
  rw [h]
  rfl

theorem parkSafe_actParkToggle (n : Nat) {s : State} (h : ParkSafe s) : ParkSafe (actParkToggle n s) := by
  cases hn : ofNum 8 n with
  | none =>
    unfold actParkToggle
    rw [hn]
    exact h
  | some c =>
    rw [actParkToggle_eq hn]
    have but := parkSafeBut_changeTables (tb := parkTurned c s.tables) h
    have only : ∀ m : Computer, (s.tables.computer[m].parked = false ∧ (parkTurned c s.tables).computer[m].parked = true) →
        m = c ∧ s.tables.computer[c].parked = false := by
      rintro m ⟨h1, h2⟩
      rw [parkTurned_parked] at h2
      split at h2
      · next e => exact ⟨e.symm, e ▸ h1⟩
      · exact absurd (h1.symm.trans h2) (by decide)
    split
    · next hc =>
      have none := but.mono (q := fun _ => False) fun m hm => absurd ((only m hm).2.symm.trans hc) (by decide)
      exact (parkSafe_iff_but _).2 (none.step ((parkKept_reseat _).trans
        ((parkKept_freshEvaluate c _).trans (parkKept_recomputeFrames _))))
    · next hc =>
      have parked : (changeTables (parkTurned c s.tables) s).tables.computer[c].parked = true := by
        refine (parkTurned_parked c s.tables c).trans ?_
        rw [if_pos rfl, Bool.eq_false_of_not_eq_true hc]
        rfl
      have none := (parkSafeBut_parkSteps but parked).mono (q := fun _ => False) fun m hm => hm.2 (only m hm.1).1
      exact (parkSafe_iff_but _).2 (none.step ((parkKept_reseat _).trans (parkKept_recomputeFrames _)))

/-- The consequences of a computer-table write for the computers of `l`: those of them that became parked are engaged no
more (R166). -/
theorem parkSafeBut_afterParked {old : Tables} {p : Computer → Prop} (l : List Computer) {s : State}
    (h : ParkSafeBut (fun n => old.computer[n].parked = false ∧ s.tables.computer[n].parked = true ∧ p n) s) :
    ParkSafeBut (fun n => old.computer[n].parked = false ∧ s.tables.computer[n].parked = true ∧ p n ∧ n ∉ l)
      (l.foldl (afterParked old) s) ∧ (l.foldl (afterParked old) s).tables = s.tables := by
  induction l generalizing s p with
  | nil => exact ⟨h.mono fun n hn => ⟨hn.1, hn.2.1, hn.2.2, List.not_mem_nil⟩, rfl⟩
  | cons a l ih =>
    have one : ParkSafeBut (fun n => old.computer[n].parked = false ∧ s.tables.computer[n].parked = true ∧ (p n ∧ n ≠ a))
        (afterParked old s a) ∧ (afterParked old s a).tables = s.tables := by
      unfold afterParked
      split
      next hc =>
        split
        next hp =>
          refine ⟨(parkSafeBut_parkSteps h hp).mono ?_, (quiet_parkSteps a s).tables⟩
          rintro n ⟨⟨h1, h2, h3⟩, h4⟩
          exact ⟨h1, h2, h3, h4⟩
        next hp =>
          refine ⟨(h.step (parkKept_freshEvaluate a s)).mono ?_, (quiet_freshEvaluate a s).tables⟩
          rintro n ⟨h1, h2, h3⟩
          exact ⟨h1, h2, h3, fun e => hp (e ▸ h2)⟩
      next hc =>
        refine ⟨h.mono ?_, rfl⟩
        rintro n ⟨h1, h2, h3⟩
        refine ⟨h1, h2, h3, fun e => hc ?_⟩
        subst e
        unfold parkedChanged
        rw [h1, h2]
        rfl
    obtain ⟨one, tables⟩ := one
    obtain ⟨rest, kept⟩ := ih (s := afterParked old s a) (p := fun n => p n ∧ n ≠ a) (by rw [tables]; exact one)
    refine ⟨rest.mono ?_, kept.trans tables⟩
    rintro n ⟨h1, h2, ⟨h3, h4⟩, h5⟩
    rw [tables] at h2
    exact ⟨h1, h2, h3, by simpa using ⟨h4, h5⟩⟩

theorem parkKept_afterSource (old) (s : State) (n) : ParkKept s (afterSource old s n) := by
  unfold afterSource
  split
  · exact parkKept_freshEvaluate n s
  · exact .refl s

/-- A write of the computer table and its consequences (R166). -/
theorem parkSafe_afterComputer {tb : Tables} {s : State} (h : ParkSafe s) :
    ParkSafe (afterComputer s.tables (changeTables tb s)) := by
  obtain ⟨but, -⟩ := parkSafeBut_afterParked (p := fun _ => True) computers
    ((parkSafeBut_changeTables (tb := tb) h).mono fun n hn => ⟨hn.1, hn.2, trivial⟩)
  have all : ∀ n : Computer, n ∈ computers := by decide
  have none := but.mono (q := fun _ => False) fun n hn => hn.2.2.2 (all n)
  have reseated : ∀ (b : Bool) (u : State), ParkKept u (if b then reseat u else u) := fun b u => by
    split
    · exact parkKept_reseat u
    · exact .refl u
  have framed : ∀ (b : Bool) (u : State), ParkKept u (if b then recomputeFrames u else u) := fun b u => by
    split
    · exact parkKept_recomputeFrames u
    · exact .refl u
  exact (parkSafe_iff_but _).2 (none.step ((reseated _ _).trans
    ((parkKept_foldl (parkKept_afterSource _) computers _).trans (framed _ _))))

end Sys2Proof.Machine
end


section
/-! ## From the blocks to every step

A law that every block keeps is kept by every command: the console hands on to the lock unit, the matcher and the focus
controller, and a request runs a body. The laws about parked computers and about the pointer both go this way. -/

namespace Sys2Proof.Machine

/-- The law `P` is kept by what the blocks do on their own. -/
structure KeptByBlocks (P : State → Prop) : Prop where
  served : ∀ {s t}, Served s t → P s → P t
  elapse : ∀ d {s}, P s → P (s.elapse d)
  setLock : ∀ l {s}, P s → P (s.setLock l)
  syncBlanked : ∀ {s}, P s → P (syncBlanked s)
  setChannel : ∀ c r {s}, P s → P (setChannel c r s)
  takeIndicatorReport : ∀ n {s}, P s → P (takeIndicatorReport n s)
  alertLinkLost : ∀ n {s}, P s → P (alertLinkLost n s)
  raiseAlert : ∀ n {s}, P s → P (setAlertList (raiseList s n) s)
  dropAlert : ∀ n {s}, P s → P (dropAlert n s)
  focusMark : ∀ {s}, P s → P (focusMark s)
  motionItem : ∀ dx dy wheel c {s}, P s → P (motionItem dx dy wheel c s)
  runAction : ∀ a x y {s}, P s → P (runAction a x y s)
  displayDetach : ∀ sc {s}, P s → P (doDisplayDetach sc s)
  displayAttach : ∀ sc p {s}, P s → P (doDisplayAttach sc p s)
  frameStart : ∀ sc {s}, P s → P (doFrameStart sc s)
  endPeek : ∀ sc {s}, P s → P (endPeek sc s)
  writeTable : ∀ r w {s}, P s → P (writeTable r w s).1
  deskReset : ∀ {s}, P s → P (deskReset s)

theorem foldl_keeps {P : State → Prop} {α : Type} {f : State → α → State} (hf : ∀ s a, P s → P (f s a)) (l : List α)
    {s : State} (h : P s) : P (l.foldl f s) := by
  induction l generalizing s with
  | nil => exact h
  | cons a l ih => exact ih (hf s a h)

theorem actionBody_keeps {P : State → Prop} {run : Nat → Nat → State → State} (hr : ∀ x y u, P u → P (run x y u)) (r)
    {s : State} (h : P s) : P (actionBody run r s).1 := by
  unfold actionBody
  split
  · exact hr _ _ s h
  · exact h

namespace KeptByBlocks

variable {P : State → Prop} (k : KeptByBlocks P) {s : State}
include k

/-! ### The lock unit and the matcher -/

theorem setMatcher (m) (h : P s) : P (s.setMatcher m) := k.served (served_setMatcher s m) h

theorem setConsole (v) (h : P s) : P (s.setConsole v) := k.served (served_setConsole s v) h

theorem modConsolePort (c f) (h : P s) : P (modConsolePort c f s) := k.setConsole _ h

theorem raise (e) (h : P s) : P (raise e s) := k.served (served_raise s e) h

theorem setLockRecord (l) (h : P s) : P (setLockRecord l s) := k.syncBlanked (k.setLock l h)

theorem unlockConsole (h : P s) : P (unlockConsole s) := k.raise _ (k.setLockRecord _ h)

theorem actUnlock (h : P s) : P (actUnlock s) := by
  unfold Machine.actUnlock
  split
  · exact h
  all_goals exact k.unlockConsole h

theorem lockedPress (i) (h : P s) : P (lockedPress i s) := by
  unfold Machine.lockedPress
  split
  · exact h
  · unfold comparePress
    split
    · split
      · exact k.setLock _ h
      · exact k.unlockConsole h
    · split
      · exact h
      · unfold failAttempt
        dsimp only
        split <;> exact k.raise _ (k.setLockRecord _ h)

theorem runEntry (e) (h : P s) : P (runEntry e s) := by
  unfold Machine.runEntry
  split
  · exact h
  · exact k.runAction _ _ _ h

theorem lockKeyPress (i) (h : P s) : P (lockKeyPress i s) := by
  unfold Machine.lockKeyPress
  split
  · unfold matcherPress
    split
    · exact k.runEntry _ (k.setMatcher _ h)
    · split
      · exact k.runEntry _ (k.setMatcher _ h)
      · split
        · exact k.runEntry _ (k.setMatcher _ h)
        · exact k.served ((served_endTypeout _ _).trans (served_focusKeyPress i _)) (k.setMatcher _ h)
  · exact k.lockedPress i h
  · exact h

theorem markAlone (m) (h : P s) : P (markAlone m s) := by
  unfold Machine.markAlone
  split
  · exact k.focusMark (k.served (served_typeoutMark s) h)
  · exact h

theorem focusKeyRelease (i m) (h : P s) : P (focusKeyRelease i m s) := by
  have h1 := k.served (served_foldl (served_releaseAt i) computers s) h
  unfold Machine.focusKeyRelease
  dsimp only
  split
  · exact k.focusMark h1
  · exact h1

theorem focusButtonRelease (b m) (h : P s) : P (focusButtonRelease b m s) := by
  have h1 := k.served (served_foldl (served_buttonReleaseAt b) computers s) h
  unfold Machine.focusButtonRelease
  dsimp only
  split
  · exact k.focusMark h1
  · exact h1

theorem lockKeyRelease (i m) (h : P s) : P (lockKeyRelease i m s) := by
  unfold Machine.lockKeyRelease
  split
  · exact k.focusKeyRelease i m (k.served (served_markTypeout m _) (k.setMatcher _ h))
  all_goals exact k.markAlone m h

theorem lockButtonPress (b) (h : P s) : P (lockButtonPress b s) := by
  unfold Machine.lockButtonPress
  split
  · exact k.served (served_focusButtonPress b s) h
  all_goals exact h

theorem lockButtonRelease (b m) (h : P s) : P (lockButtonRelease b m s) := by
  unfold Machine.lockButtonRelease
  split
  · exact k.focusButtonRelease b m (k.served (served_markTypeout m s) h)
  all_goals exact k.markAlone m h

/-! ### The console devices -/

theorem deviceRelease (c) (s : State) (i) (h : P s) : P (deviceRelease c s i) := by
  unfold Machine.deviceRelease
  split
  · exact h
  · exact k.lockKeyRelease i _ (k.setConsole _ h)

theorem devicePress (s : State) (i) (h : P s) : P (devicePress s i) := by
  unfold Machine.devicePress
  split
  · exact h
  · exact k.lockKeyPress i (k.setConsole _ h)

theorem deviceButtonRelease (c) (s : State) (b) (h : P s) : P (deviceButtonRelease c s b) := by
  unfold Machine.deviceButtonRelease
  split
  · exact h
  · exact k.lockButtonRelease b _ (k.setConsole _ h)

theorem deviceButtonPress (s : State) (b) (h : P s) : P (deviceButtonPress s b) := by
  unfold Machine.deviceButtonPress
  split
  · exact h
  · exact k.lockButtonPress b (k.setConsole _ h)

theorem takeKeySet (c o n) (h : P s) : P (takeKeySet c o n s) :=
  k.modConsolePort _ _ (foldl_keeps k.devicePress _ (foldl_keeps (k.deviceRelease c) _ h))

theorem reportMotion (dx dy wheel c) (h : P s) : P (reportMotion dx dy wheel c s) := by
  unfold Machine.reportMotion lockMotion
  split
  · exact h
  · split
    · exact k.motionItem _ _ _ _ h
    all_goals exact h

theorem takeButtons (c o n dx dy wheel) (h : P s) : P (takeButtons c o n dx dy wheel s) :=
  k.modConsolePort _ _ (foldl_keeps k.deviceButtonPress _
    (k.reportMotion dx dy wheel c (foldl_keeps (k.deviceButtonRelease c) _ h)))

theorem doConsoleDetach (c) (h : P s) : P (doConsoleDetach c s) := by
  unfold Machine.doConsoleDetach
  split
  · exact h
  · exact k.modConsolePort _ _ (k.takeKeySet c _ _ h)
  · exact k.modConsolePort _ _ (k.takeButtons c _ _ _ _ _ h)
  · exact k.modConsolePort _ _ h

theorem doConsoleAttach (c d) (h : P s) : P (doConsoleAttach c d s) := by
  have h1 := k.modConsolePort c (fun _ => classify d) (k.doConsoleDetach c h)
  unfold Machine.doConsoleAttach
  dsimp only
  split
  · exact k.setConsole _ h1
  all_goals exact h1

theorem doKeyboardReport (c r) (h : P s) : P (doKeyboardReport c r s) := by
  unfold Machine.doKeyboardReport
  split
  · exact k.takeKeySet c _ _ h
  · exact h

theorem doPointerReport (c r) (h : P s) : P (doPointerReport c r s) := by
  unfold Machine.doPointerReport
  split
  · exact k.takeButtons _ _ _ _ _ _ h
  all_goals exact h

theorem doIndicatorOutputEnd (c how a) (h : P s) : P (doIndicatorOutputEnd c how a s) := by
  unfold Machine.doIndicatorOutputEnd
  split
  · unfold endOutput
    split
    · exact k.setConsole _ (k.modConsolePort _ _ h)
    all_goals exact k.modConsolePort _ _ h
  · exact h

/-! ### Links -/

theorem modPort (n f) (h : P s) : P (s.modPort n f) := k.served (served_modPort s n f) h

theorem loseLink (n l) (h : P s) : P (loseLink n l s) := by
  have woken : ∀ (b : Bool) {u : State}, P u → P (if b then Machine.raise .wake u else u) := fun b u hu => by
    split
    · exact k.raise _ hu
    · exact hu
  unfold Machine.loseLink
  split
  · exact h
  · exact k.served ((served_syncMirror _).trans ((served_typeoutLinkLost n _).trans (served_raise _ _)))
      (k.alertLinkLost n (k.served (served_clearBelief n _) (woken _ (k.modPort n _ h))))

theorem doIndicatorReport (n b) (h : P s) : P (doIndicatorReport n b s) := by
  unfold Machine.doIndicatorReport
  split
  · exact k.served (served_syncMirror _) (k.takeIndicatorReport n (k.modPort n _ h))
  · exact h

/-! ### Requests -/

theorem serve {command r formed a body} (hb : ∀ u, P u → P (body u).1) (h : P s) :
    P (serve command r formed a body s) := by
  obtain e | e := serve_served command r formed a body s
  · exact k.served e h
  · rw [e]
    exact k.served (served_answer _ _ _) (hb _ (k.served (served_setSlot _ _ s) h))

/-- An action row, from a hotkey or from a request (R105, R109). -/
theorem callAction (a : Action) (c) (h : P s) : P (callAction c (Machine.runAction a) s) := by
  unfold Machine.callAction
  split
  · exact k.runAction a _ _ h
  · exact k.serve (fun u => actionBody_keeps (fun x y u => k.runAction a x y) _) h

theorem callTypeText (c) (h : P s) : P (callTypeText c s) := by
  unfold Machine.callTypeText
  split
  · exact k.runAction .typeText 0 0 h
  · refine k.serve (fun u hu => ?_) h
    unfold typeTextBody
    split
    · exact actionBody_keeps (fun x y u => k.runAction .typeText x y) _ hu
    · exact hu

theorem writeBody (r) (h : P s) : P (writeBody r s).1 := by
  unfold Machine.writeBody
  split
  · exact h
  · exact k.writeTable r _ h

end KeptByBlocks

/-! ### Bodies that only serve -/

theorem served_depositBody (r) (s : State) : Served s (depositBody r s).1 := by
  unfold depositBody
  dsimp only
  split
  · exact .refl s
  · split
    · exact (served_setTypeout s _).trans (served_raise _ _)
    · exact .refl s

theorem served_clearBody (s : State) : Served s (clearBody s).1 := by
  unfold clearBody
  split
  · exact .refl s
  · exact (served_setTypeout s _).trans (served_raise _ _)

theorem served_eventsBody (r) (s : State) : Served s (eventsBody r s).1 := by
  unfold eventsBody
  split
  · exact .refl s
  · dsimp only
    split
    · exact (served_setMgmt s _).trans (served_modPort _ _ _)
    · exact ((served_setMgmt s _).trans (served_modPort _ _ _)).trans ((served_setMgmt _ _).trans (served_modPort _ _ _))

theorem served_freezeBody (r) (s : State) : Served s (freezeBody r s).1 := by
  unfold freezeBody
  split
  · exact .refl s
  · exact served_setMgmt s _

theorem served_setStore (v) (s : State) : Served s (s.setStore v) := ⟨rfl, rfl, rfl, rfl, rfl⟩

theorem served_saveBody (r) (s : State) : Served s (saveBody r s).1 := by
  unfold saveBody
  split
  · exact .refl s
  · exact (served_setMgmt s _).trans ((served_setStore _ _).trans (served_setSlot _ _ _))

theorem served_doSaveCompletion (b) (s : State) : Served s (doSaveCompletion b s) := by
  have reply : ∀ p st u, Served u (replySave p st u) := fun p st u => by
    unfold replySave
    split
    · exact served_putReply _ _ _ _ _ u
    all_goals exact .refl u
  unfold doSaveCompletion
  split
  · exact .refl s
  · split <;> exact (served_setMgmt s _).trans ((served_setStore _ _).trans (reply _ _ _))

theorem readBody_state (r) (s : State) : (readBody r s).1 = s := by
  unfold readBody
  split <;> rfl

/-! ### Timers: the clock moves on, and what is left is served -/

/-- `t` is `s` once some time has passed and the computers have been served. -/
def ServedLater (s t : State) : Prop :=
  ∃ d, Served (s.elapse d) t

theorem servedLater_doDoubleTapExpiry (s : State) : s = doDoubleTapExpiry s ∨ ServedLater s (doDoubleTapExpiry s) := by
  unfold doDoubleTapExpiry
  split
  · exact .inl rfl
  · exact .inr ⟨_, served_setMatcher _ _⟩

theorem servedLater_doCommandExpiry (s : State) : s = doCommandExpiry s ∨ ServedLater s (doCommandExpiry s) := by
  unfold doCommandExpiry
  split
  · exact .inl rfl
  · exact .inr ⟨_, served_setMatcher _ _⟩

theorem servedLater_doTypeOutPress (s : State) : s = doTypeOutPress s ∨ ServedLater s (doTypeOutPress s) := by
  unfold doTypeOutPress
  split
  · split
    · exact .inr ⟨_, served_pressNext _ _⟩
    · exact .inl rfl
  · exact .inl rfl

theorem servedLater_doTypeOutReleaseDue (s : State) : s = doTypeOutReleaseDue s ∨ ServedLater s (doTypeOutReleaseDue s) := by
  unfold doTypeOutReleaseDue
  split
  · exact .inr ⟨_, served_releaseDue _ _ _ _⟩
  · exact .inl rfl

theorem servedLater_doStallExpiry (n) (s : State) : s = doStallExpiry n s ∨ ServedLater s (doStallExpiry n s) := by
  unfold doStallExpiry
  split
  · exact .inl rfl
  · exact .inr ⟨_, (served_modPort _ n _).trans ((served_clearBelief n _).trans
      ((served_typeoutLeftReady n _).trans (served_raise _ _)))⟩

theorem servedLater_doSettleExpiry (n) (s : State) : s = doSettleExpiry n s ∨ ServedLater s (doSettleExpiry n s) := by
  unfold doSettleExpiry
  split
  · exact .inl rfl
  · dsimp only
    split
    · exact .inr ⟨_, (served_modPort _ n _).trans (served_deferredWake n _)⟩
    · exact .inr ⟨_, served_modPort _ n _⟩

theorem servedLater_doSignallingEnd (n) (s : State) : s = doSignallingEnd n s ∨ ServedLater s (doSignallingEnd n s) := by
  unfold doSignallingEnd
  split
  · exact .inr ⟨_, served_modPort _ n _⟩
  · exact .inl rfl

theorem servedLater_doWakeWindowExpiry (n) (s : State) :
    s = doWakeWindowExpiry n s ∨ ServedLater s (doWakeWindowExpiry n s) := by
  unfold doWakeWindowExpiry
  split
  · dsimp only
    split
    · exact .inr ⟨_, served_failWake n _⟩
    · exact .inr ⟨_, served_modPort _ n _⟩
  · exact .inl rfl

theorem servedLater_doStaggerExpiry (s : State) : s = doStaggerExpiry s ∨ ServedLater s (doStaggerExpiry s) := by
  unfold doStaggerExpiry
  split
  · exact .inl rfl
  · exact .inr ⟨_, served_issueWakes _ _⟩

namespace KeptByBlocks

variable {P : State → Prop} (k : KeptByBlocks P) {s : State}
include k

theorem later {t : State} (h : P s) (ht : s = t ∨ ServedLater s t) : P t := by
  obtain rfl | ⟨d, hd⟩ := ht
  · exact h
  · exact k.served hd (k.elapse d h)

/-- A law that the blocks keep is kept by every command, a power-on reset apart. -/
theorem exec (i : Instr) {t : State} (h : P s) (hp : ∀ b, i = .powerOnReset b → P (doPowerOn b s))
    (ht : exec i s = .next t) : P t := by
  have body {command r formed a f} (hb : ∀ u, P u → P (f u).1) : P (Machine.serve command r formed a f s) :=
    k.serve hb h
  have bodyServed {command r formed a f} (hb : ∀ u, Served u (f u).1) : P (Machine.serve command r formed a f s) :=
    k.serve (fun u => k.served (hb u)) h
  cases i with
  | powerOnReset b => cases ht; exact hp b rfl
  | consoleAttach c d => cases ht; exact k.doConsoleAttach c d h
  | consoleDetach c => cases ht; exact k.doConsoleDetach c h
  | keyboardReport c r => cases ht; exact k.doKeyboardReport c r h
  | pointerReport c r => cases ht; exact k.doPointerReport c r h
  | indicatorOutputEnd c how a => cases ht; exact k.doIndicatorOutputEnd c how a h
  | doubleTapWindowExpiry => cases ht; exact k.later h (servedLater_doDoubleTapExpiry s)
  | commandTimerExpiry => cases ht; exact k.later h (servedLater_doCommandExpiry s)
  | lockoutTimerExpiry =>
    cases ht
    unfold doLockoutExpiry
    split
    · exact h
    · exact k.raise _ (k.setLockRecord _ (k.elapse _ h))
  | noAction a => cases ht; exact k.callAction .nothing a h
  | focus a => cases ht; exact k.callAction .focus a h
  | focusNext a => cases ht; exact k.callAction .focusNext a h
  | focusPrev a => cases ht; exact k.callAction .focusPrev a h
  | focusBack a => cases ht; exact k.callAction .focusBack a h
  | broadcastToggle a => cases ht; exact k.callAction .broadcastToggle a h
  | broadcastClear a => cases ht; exact k.callAction .broadcastClear a h
  | showChannel a => cases ht; exact k.callAction .showChannel a h
  | peek a => cases ht; exact k.callAction .peek a h
  | preset a => cases ht; exact k.callAction .preset a h
  | parkToggle a => cases ht; exact k.callAction .parkToggle a h
  | wake a => cases ht; exact k.callAction .wake a h
  | wakeAll a => cases ht; exact k.callAction .wakeAll a h
  | lock a => cases ht; exact k.callAction .lock a h
  | typeText a => cases ht; exact k.callTypeText a h
  | goAlert a => cases ht; exact k.callAction .goAlert a h
  | command a => cases ht; exact k.callAction .command a h
  | unlock r => cases ht; exact body fun u => actionBody_keeps (P := P) (fun _ _ _ => k.actUnlock) r
  | channelActivity c => cases ht; exact k.setChannel c _ h
  | channelFrame c t => cases ht; exact k.setChannel c _ h
  | channelLoss c => cases ht; exact k.setChannel c _ h
  | displayAttach sc p => cases ht; exact k.displayAttach sc p h
  | displayDetach sc => cases ht; exact k.displayDetach sc h
  | frameStart sc => cases ht; exact k.frameStart sc h
  | peekExpiry sc =>
    cases ht
    unfold doPeekExpiry
    split
    · exact h
    · exact k.endPeek sc (k.elapse _ h)
  | typeOutPress => cases ht; exact k.later h (servedLater_doTypeOutPress s)
  | typeOutReleaseDue => cases ht; exact k.later h (servedLater_doTypeOutReleaseDue s)
  | computerAttach n =>
    cases ht
    exact k.served ((served_clearBelief n _).trans (served_raise _ _)) (k.modPort n _ (k.loseLink n _ h))
  | configure n b => cases ht; exact k.served (served_doConfigure n b s) h
  | computerBusReset n => cases ht; exact k.loseLink n _ h
  | computerDetach n => cases ht; exact k.loseLink n _ h
  | indicatorReport n b => cases ht; exact k.doIndicatorReport n b h
  | keyboardPoll n => cases ht; exact k.served (served_doKeyboardPoll n s) h
  | pointerPoll n => cases ht; exact k.served (served_doPointerPoll n s) h
  | stallTimerExpiry n => cases ht; exact k.later h (servedLater_doStallExpiry n s)
  | suspend n => cases ht; exact k.served (served_doSuspend n s) h
  | settleTimerExpiry n => cases ht; exact k.later h (servedLater_doSettleExpiry n s)
  | signallingEnd n => cases ht; exact k.later h (servedLater_doSignallingEnd n s)
  | wakeWindowExpiry n => cases ht; exact k.later h (servedLater_doWakeWindowExpiry n s)
  | resume n => cases ht; exact k.served (served_doResume n s) h
  | staggerTimerExpiry => cases ht; exact k.later h (servedLater_doStaggerExpiry s)
  | status r => cases ht; exact body fun _ => id
  | tableRead r => cases ht; exact body fun u hu => by rwa [readBody_state]
  | tableWrite r => cases ht; exact body fun u => k.writeBody r
  | depositText r => cases ht; exact bodyServed (served_depositBody r)
  | clearText r => cases ht; exact bodyServed served_clearBody
  | raiseAlert r => cases ht; exact body fun u => k.raiseAlert r.port
  | withdrawAlert r => cases ht; exact body fun u => k.dropAlert r.port
  | events r => cases ht; exact bodyServed (served_eventsBody r)
  | freeze r => cases ht; exact bodyServed (served_freezeBody r)
  | save r => cases ht; exact bodyServed (served_saveBody r)
  | saveCompletion b => cases ht; exact k.served (served_doSaveCompletion b s) h
  | deskReset r => cases ht; exact body fun u => k.deskReset
  | replyRead p => cases ht; exact k.served (served_doReplyRead p s) h
  | notificationTake p => cases ht; exact k.served (served_doNotificationTake p s) h
  | unknownCommandRequest r code => cases ht; exact body fun _ => id

/-- A law that the blocks keep and that the queue of commands does not enter is kept by every step. -/
theorem step {t : State} (hq : ∀ v, P s → P (s.setPending v)) (h : P s)
    (hp : ∀ b rest, s.pending = .powerOnReset b :: rest → P (doPowerOn b (s.setPending rest)))
    (ht : step s = .next t) : P t := by
  unfold Machine.step at ht
  split at ht
  next =>
    cases ht
    exact k.elapse 1 h
  next c rest he => exact k.exec c (hq rest h) (fun b hb => hp b rest (hb ▸ he)) ht

end KeptByBlocks

end Sys2Proof.Machine
end


section
/-! ## Parked computers hold nothing: every step -/

namespace Sys2Proof.Machine

variable {s : State}

theorem parkSafe_runAction (a : Action) (x y : Nat) (h : ParkSafe s) : ParkSafe (runAction a x y s) := by
  cases a with
  | nothing => exact h
  | focus => exact (parkKept_actFocus x s).parkSafe h
  | focusNext => exact (parkKept_focusFound fun _ => reachable_unparked).parkSafe h
  | focusPrev => exact (parkKept_focusFound fun _ => reachable_unparked).parkSafe h
  | focusBack => exact (parkKept_actFocusBack s).parkSafe h
  | broadcastToggle => exact (parkKept_actBroadcastToggle x s).parkSafe h
  | broadcastClear => exact (parkKept_foldl (fun u n => parkKept_removeBroadcast n u) computers s).parkSafe h
  | showChannel => exact (parkKept_actShow x y s).parkSafe h
  | peek => exact (parkKept_actPeek x y s).parkSafe h
  | preset => exact (parkKept_actPreset x s).parkSafe h
  | parkToggle => exact parkSafe_actParkToggle x h
  | wake => exact (served_actWake x s).parkKept.parkSafe h
  | wakeAll => exact (served_actWakeAll s).parkKept.parkSafe h
  | lock => exact (parkKept_actLock s).parkSafe h
  | typeText => exact (served_actTypeText s).parkKept.parkSafe h
  | goAlert => exact (parkKept_actGoAlert s).parkSafe h
  | command => exact (served_actCommand s).parkKept.parkSafe h

/-! ### Channels, tables and the desk reset -/

theorem parkKept_elapse (d) (s : State) : ParkKept s (s.elapse d) := parkKept_of_eq rfl rfl rfl rfl

theorem parkKept_setChannel (c r) (s : State) : ParkKept s (setChannel c r s) := by
  unfold setChannel
  dsimp only
  split <;> exact parkKept_of_eq rfl rfl rfl rfl

/-- What a write of table entries makes of the tables, by its table (R165): the written table alone is replaced, the computer
table by one with a manager and the layout table by a valid one. -/
inductive WrittenTables (w : WriteArgs) (s : State) : Tables → Prop
  | computer (v) (hw : w.table = .computer) (hv : writeEntries parseComputer s.tables.computer w = some v)
      (hm : hasManager v = true) : WrittenTables w s { s.tables with computer := v }
  | options (o) (hw : w.table = .options) : WrittenTables w s { s.tables with options := o }
  | layout (v) (hw : w.table = .layout) (hv : writeEntries parseLayout s.tables.layout w = some v)
      (hl : layoutValid v = true) : WrittenTables w s { s.tables with layout := v }
  | assignment (v) (hw : w.table = .assignment) : WrittenTables w s { s.tables with assignment := v }
  | preset (v) (hw : w.table = .preset) : WrittenTables w s { s.tables with preset := v }
  | channel (v) (hw : w.table = .channel) : WrittenTables w s { s.tables with channel := v }
  | pointer (v) (hw : w.table = .pointer) : WrittenTables w s { s.tables with pointer := v }
  | hotkey (v) (hw : w.table = .hotkey) : WrittenTables w s { s.tables with hotkey := v }
  | translation (v) (hw : w.table = .translation) : WrittenTables w s { s.tables with translation := v }
  | unlock (u) (hw : w.table = .unlock) : WrittenTables w s { s.tables with unlock := u }

theorem resultingTables_written {w : WriteArgs} {s : State} {tb : Tables} {b : Bool}
    (h : resultingTables w s = some (tb, b)) : WrittenTables w s tb := by
  unfold resultingTables at h
  dsimp only at h
  split at h
  next hw =>
    (repeat' split at h) <;> cases h
    next v hv hm => exact .computer v hw hv hm
  next hw =>
    (repeat' split at h) <;> cases h
    exact .options _ hw
  next hw =>
    (repeat' split at h) <;> cases h
    next v hv hl => exact .layout v hw hv hl
  next hw =>
    obtain ⟨v, -, e⟩ := Option.map_eq_some_iff.1 h
    cases e
    exact .assignment v hw
  next hw =>
    obtain ⟨v, -, e⟩ := Option.map_eq_some_iff.1 h
    cases e
    exact .preset v hw
  next hw =>
    obtain ⟨v, -, e⟩ := Option.map_eq_some_iff.1 h
    cases e
    exact .channel v hw
  next hw =>
    obtain ⟨v, -, e⟩ := Option.map_eq_some_iff.1 h
    cases e
    exact .pointer v hw
  next hw =>
    obtain ⟨v, -, e⟩ := Option.map_eq_some_iff.1 h
    cases e
    exact .hotkey v hw
  next hw =>
    obtain ⟨v, -, e⟩ := Option.map_eq_some_iff.1 h
    cases e
    exact .translation v hw
  next hw =>
    (repeat' split at h) <;> cases h <;> exact .unlock _ hw

/-- A write of another table changes no entry of the computer table (R166). -/
theorem WrittenTables.computer_kept {w : WriteArgs} {s : State} {tb : Tables} (h : WrittenTables w s tb)
    (hw : w.table ≠ .computer) : tb.computer = s.tables.computer := by
  cases h with
  | computer _ hc => exact absurd hc hw
  | _ => rfl

theorem parkKept_afterWrite {w : WriteArgs} (hw : w.table ≠ .computer) (old) (s : State) :
    ParkKept s (afterWrite w old s) := by
  unfold afterWrite
  split
  next hc => exact absurd hc hw
  · split
    · exact .refl s
    · exact parkKept_recomputeFrames s
  · exact (parkKept_setScreens _ s).trans (parkKept_reseat _)
  · exact parkKept_foldl (fun u sc => parkKept_setRequested sc _ u) _ s
  · unfold afterChannel
    split
    · exact (parkKept_recomputeFrames s).trans (parkKept_reseat _)
    · exact .refl s
  · exact (served_setMatcher s _).parkKept
  · unfold afterUnlock
    split
    · exact parkKept_of_eq rfl rfl rfl rfl
    · exact .refl s
  all_goals exact .refl s

theorem parkSafe_writeTable (r w) (h : ParkSafe s) : ParkSafe (writeTable r w s).1 := by
  have written : ∀ tb b, resultingTables w s = some (tb, b) → ParkSafe (afterWrite w s.tables (changeTables tb s)) := by
    intro tb b hb
    by_cases hw : w.table = .computer
    · have e : afterWrite w s.tables (changeTables tb s) = afterComputer s.tables (changeTables tb s) := by
        unfold afterWrite
        rw [hw]
      rw [e]
      exact parkSafe_afterComputer h
    · exact ((parkKept_changeTables ((resultingTables_written hb).computer_kept hw)).trans (parkKept_afterWrite hw _ _)).parkSafe h
  unfold writeTable
  split
  · exact h
  · split
    · exact h
    · split
      · exact h
      · split
        · exact h
        · split
          · exact h
          · next tb b hb => exact written tb b hb

/-- The focus controller at a desk reset engages the initial focus computer, which is not parked (R42). -/
theorem parkKept_focusAtDeskReset (s : State) : ParkKept s (focusAtDeskReset s) := by
  have k := (served_releaseAllBeliefs s).parkKept
  have initial : ParkKept (releaseAllBeliefs s) ((releaseAllBeliefs s).setFocus { (releaseAllBeliefs s).focus with
      broadcast := Vector.replicate 8 false
      focus := initialFocus (releaseAllBeliefs s).tables
      previous := none
      rx := 0
      ry := 0 }) := by
    refine ⟨fun _ => rfl, fun n hn => ?_, id, id⟩
    rintro (hf | hb | ha)
    · exact absurd (((initialFocus_eq_some_iff _ n).1 hf).2.symm.trans hn) (by decide)
    · have hb : (Vector.replicate 8 false)[n] = true := hb
      simp at hb
    · exact .inr (.inr ha)
  exact k.trans (initial.trans ((served_syncMirror _).parkKept.trans ((parkKept_setGlide _ _).trans
    ((parkKept_seatFirst _).trans ((parkKept_modeFromSeat _).trans
      ((served_considerPosition _).parkKept.trans (parkKept_raise _ _)))))))

theorem parkKept_deskReset (s : State) : ParkKept s (deskReset s) := by
  have peeks : ∀ u, ParkKept u (screenNos.foldl endPeekQuiet (clearMatcher u)) := fun u =>
    (served_setMatcher u _).parkKept.trans (parkKept_foldl parkKept_endPeekQuiet screenNos _)
  have reseats : ∀ (l : List ScreenNo) u, ParkKept u (l.foldl (fun s _ => reseat s) u) := fun l u =>
    parkKept_foldl (fun v _ => parkKept_reseat v) l u
  exact (served_endTypeout _ s).parkKept.trans ((peeks _).trans ((parkKept_focusAtDeskReset _).trans
    ((reseats _ _).trans ((parkKept_resetAlerts _).trans (((served_setPorts _ _).trans
      (served_setWakeAll _ _)).parkKept.trans (parkKept_recomputeFrames _))))))

theorem parkSafe_powerOn (tb src store pending) : ParkSafe (State.powerOn tb src store pending) where
  focus n h := ((initialFocus_eq_some_iff tb n).1 h).2
  broadcast n h := by
    have h : (Vector.replicate 8 false)[n] = true := h
    simp at h
  alerts e he := by cases he
  single := .nil
  rotation := .refl _

/-! ### Every step -/

theorem parkSafe_keptByBlocks : KeptByBlocks ParkSafe where
  served h := h.parkKept.parkSafe
  elapse d s := (parkKept_elapse d s).parkSafe
  setLock l s := (parkKept_of_eq rfl rfl rfl rfl : ParkKept s (s.setLock l)).parkSafe
  syncBlanked {s} := (parkKept_of_eq rfl rfl rfl rfl : ParkKept s (syncBlanked s)).parkSafe
  setChannel c r s := (parkKept_setChannel c r s).parkSafe
  takeIndicatorReport n s := (parkKept_takeIndicatorReport n s).parkSafe
  alertLinkLost n s := (parkKept_alertLinkLost n s).parkSafe
  raiseAlert n s := (legalList_raiseList s n).parkKept.parkSafe
  dropAlert n s := (parkKept_dropAlert n s).parkSafe
  focusMark {s} := (parkKept_focusMark s).parkSafe
  motionItem dx dy wheel c s := (parkKept_motionItem dx dy wheel c s).parkSafe
  runAction a x y _ := parkSafe_runAction a x y
  displayDetach sc s := (parkKept_doDisplayDetach sc s).parkSafe
  displayAttach sc p s := (parkKept_doDisplayAttach sc p s).parkSafe
  frameStart sc s := (parkKept_doFrameStart sc s).parkSafe
  endPeek sc s := (parkKept_endPeek sc s).parkSafe
  writeTable r w _ := parkSafe_writeTable r w
  deskReset {s} := (parkKept_deskReset s).parkSafe

/-- Settles O57, by the relation `ParkKept` between the states before and after each operation but a change of the computer
table, whose consequences take the parked computers out one by one. -/
theorem stepKeepsParked : Obligations.StepKeepsParked := by
  unfold Obligations.StepKeepsParked
  intro s t h ht
  refine parkSafe_keptByBlocks.step (fun v => ?_) h (fun b rest _ => ?_) ht
  · exact (parkKept_of_eq rfl rfl rfl rfl : ParkKept s (s.setPending v)).parkSafe
  · obtain ⟨tb, src, e⟩ := doPowerOn_eq b (s.setPending rest)
    rw [e]
    exact parkSafe_powerOn _ _ _ _

end Sys2Proof.Machine
end


section
/-! ## The desk pointer lies in a live tile (R35, R44): the tiles -/

namespace Sys2Proof.Machine

/-! ### The tiles of a desk whose screens lie on it -/

/-- Every enabled screen has tiles of some size and lies on the desk (R45, R46). -/
def DeskOk (tb : Tables) : Prop :=
  ∀ sc : ScreenNo, tb.layout[sc].enabled = true → 2 ≤ tb.layout[sc].w ∧ 2 ≤ tb.layout[sc].h ∧
    tb.layout[sc].x + tb.layout[sc].w ≤ 32768 ∧ tb.layout[sc].y + tb.layout[sc].h ≤ 32768

theorem layoutValid_onDesk {v : Vector LayoutEntry 8} (h : layoutValid v = true) (sc : ScreenNo)
    (he : v[sc].enabled = true) : v[sc].x + v[sc].w ≤ 32768 ∧ v[sc].y + v[sc].h ≤ 32768 := by
  unfold layoutValid at h
  rw [Bool.and_eq_true, List.all_eq_true] at h
  have hd := h.1 v[sc] (by simp)
  unfold onDesk at hd
  rw [he] at hd
  simpa using hd

theorem deskOk_of_layout {tb : Tables} (hv : layoutValid tb.layout = true)
    (hs : ∀ sc : ScreenNo, 320 ≤ tb.layout[sc].w ∧ 320 ≤ tb.layout[sc].h) : DeskOk tb := by
  intro sc he
  obtain ⟨hx, hy⟩ := layoutValid_onDesk hv sc he
  obtain ⟨hw, hh⟩ := hs sc
  exact ⟨by omega, by omega, hx, hy⟩

theorem Tables.Ok.deskOk {tb : Tables} (h : tb.Ok) : DeskOk tb :=
  deskOk_of_layout h.desk fun sc => by
    obtain ⟨-, -, hw, hh, -⟩ := h.layout sc
    exact ⟨hw.1, hh.1⟩

/-- The tiles of a screen lie on it, in scan order, and no two have one quadrant. -/
theorem screenTiles_mem {s : State} (ok : DeskOk s.tables) {sc : ScreenNo} {t : Tile} (h : t ∈ screenTiles s sc) :
    t.screen = sc ∧ 1 ≤ t.w ∧ 1 ≤ t.h ∧ t.x + t.w ≤ 32768 ∧ t.y + t.h ≤ 32768 ∧
      (screenTiles s sc).find? (fun u => decide (u.quad = t.quad)) = some t := by
  unfold screenTiles tilesOf at h ⊢
  by_cases he : s.tables.layout[sc].enabled = true
  · obtain ⟨hw, hh, hx, hy⟩ := ok sc he
    rw [if_pos he] at h ⊢
    split at h
    · simp only [List.mem_singleton] at h
      subst h
      exact ⟨rfl, by dsimp only; omega, by dsimp only; omega, hx, hy, by simp⟩
    · simp only [List.mem_cons, List.not_mem_nil, or_false] at h
      rcases h with rfl | rfl | rfl | rfl
      all_goals exact ⟨rfl, by dsimp only; omega, by dsimp only; omega, by dsimp only; omega, by dsimp only; omega,
        by simp⟩
  · rw [if_neg he] at h
    cases h

theorem allTiles_mem {s : State} {t : Tile} (ok : DeskOk s.tables) (h : t ∈ allTiles s) :
    t ∈ screenTiles s t.screen := by
  obtain ⟨sc, -, ht⟩ := List.mem_flatMap.1 h
  rwa [(screenTiles_mem ok ht).1]

theorem screenTiles_sub {s : State} {sc : ScreenNo} {t : Tile} (h : t ∈ screenTiles s sc) : t ∈ allTiles s :=
  List.mem_flatMap.2 ⟨sc, (by decide : ∀ sc : ScreenNo, sc ∈ screenNos) sc, h⟩

/-- The tile under a seated pointer is a tile of the desk, the one the seat names. -/
theorem seatTile_mem {s : State} {t : Tile} (ok : DeskOk s.tables) (h : seatTile s = some t) :
    ∃ seat, s.glide.seat = some seat ∧ t ∈ screenTiles s seat.screen ∧ seat.screen = t.screen ∧ seat.quad = t.quad := by
  unfold seatTile at h
  split at h
  · cases h
  · next seat hs =>
    have hm := List.mem_of_find?_eq_some h
    have hq := List.find?_some h
    exact ⟨seat, hs, hm, (screenTiles_mem ok hm).1.symm, by simpa using Eq.symm (of_decide_eq_true hq)⟩

theorem firstLive_eq_none_iff (s : State) : firstLive s = none ↔ ∀ t ∈ allTiles s, liveOwner s t = none := by
  unfold firstLive
  rw [List.find?_eq_none]
  simp

theorem firstLive_some {s : State} {t : Tile} (h : firstLive s = some t) :
    t ∈ allTiles s ∧ ∃ n, liveOwner s t = some n :=
  ⟨List.mem_of_find?_eq_some h, Option.isSome_iff_exists.1 (List.find?_some (p := fun t => (liveOwner s t).isSome) h)⟩

theorem firstLiveOf_some {s : State} {t : Tile} {n : Computer} (h : firstLiveOf s n = some t) :
    t ∈ allTiles s ∧ liveOwner s t = some n :=
  ⟨List.mem_of_find?_eq_some h, of_decide_eq_true (List.find?_some (p := fun t => decide (liveOwner s t = some n)) h)⟩

theorem locate_some {s : State} {x y : Nat} {t : Tile} (h : locate s x y = some t) :
    t ∈ allTiles s ∧ t.contains x y = true :=
  ⟨List.mem_of_find?_eq_some h, List.find?_some (p := fun u : Tile => u.contains x y) h⟩

theorem contains_iff (t : Tile) (x y : Nat) :
    t.contains x y = true ↔ t.x ≤ x ∧ x ≤ t.x + t.w - 1 ∧ t.y ≤ y ∧ y ≤ t.y + t.h - 1 := by
  simp [Tile.contains, and_assoc]

/-- The centre of a tile lies in it and on the desk (R48). -/
theorem contains_centre {t : Tile} (hw : 1 ≤ t.w) (hh : 1 ≤ t.h) (hx : t.x + t.w ≤ 32768) (hy : t.y + t.h ≤ 32768) :
    t.contains (t.centre.1 / 16) (t.centre.2 / 16) = true ∧ t.centre.1 ≤ 524287 ∧ t.centre.2 ≤ 524287 := by
  rw [contains_iff]
  unfold Tile.centre
  dsimp only
  omega

/-- A pointer in a tile on the desk is on the desk. -/
theorem position_of_contains {t : Tile} {px py : Nat} (hw : 1 ≤ t.w) (hh : 1 ≤ t.h) (hx : t.x + t.w ≤ 32768)
    (hy : t.y + t.h ≤ 32768) (h : t.contains (px / 16) (py / 16) = true) : px ≤ 524287 ∧ py ≤ 524287 := by
  rw [contains_iff] at h
  omega

/-- The tile's owner by the channel table, when the tile is live. -/
theorem tileOwner_of_live {s : State} {t : Tile} {n : Computer} (h : liveOwner s t = some n) :
    tileOwner s.tables t = some n := by
  unfold liveOwner at h
  split at h
  · split at h
    · cases h
    · next ho =>
      split at h
      · cases h
      · cases h
        exact ho
  · cases h

/-! ### What the tiles and the seat depend on -/

/-- The tiles of `t`, which of them are live, and the pointer and its seat are those of `s`. -/
structure DeskStill (s t : State) : Prop where
  layout : t.tables.layout = s.tables.layout
  owner : ∀ c : Channel, t.tables.channel[c].owner = s.tables.channel[c].owner
  parked : ∀ n : Computer, t.tables.computer[n].parked = s.tables.computer[n].parked
  attached : ∀ sc : ScreenNo, t.screens[sc].attached = s.screens[sc].attached
  displayed : ∀ sc : ScreenNo, t.screens[sc].displayed = s.screens[sc].displayed
  px : t.glide.px = s.glide.px
  py : t.glide.py = s.glide.py
  seat : t.glide.seat = s.glide.seat

theorem DeskStill.refl (s : State) : DeskStill s s := ⟨rfl, fun _ => rfl, fun _ => rfl, fun _ => rfl, fun _ => rfl, rfl, rfl, rfl⟩

theorem DeskStill.trans {s t u : State} (h : DeskStill s t) (k : DeskStill t u) : DeskStill s u :=
  ⟨k.layout.trans h.layout, fun c => (k.owner c).trans (h.owner c), fun n => (k.parked n).trans (h.parked n),
    fun sc => (k.attached sc).trans (h.attached sc), fun sc => (k.displayed sc).trans (h.displayed sc), k.px.trans h.px,
    k.py.trans h.py, k.seat.trans h.seat⟩

/-- A change of neither tables nor screens nor pointer. -/
theorem deskStill_of_eq {s t : State} (ht : t.tables = s.tables) (hs : t.screens = s.screens) (hg : t.glide = s.glide) :
    DeskStill s t :=
  ⟨by rw [ht], fun c => by rw [ht], fun n => by rw [ht], fun sc => by rw [hs], fun sc => by rw [hs], by rw [hg], by rw [hg],
    by rw [hg]⟩

theorem Served.deskStill {s t : State} (h : Served s t) : DeskStill s t :=
  ⟨by rw [h.tables], fun c => by rw [h.tables], fun n => by rw [h.tables], fun sc => by rw [h.screens], fun sc => by rw [h.screens],
    h.px, h.py, h.seat⟩

/-- A change of screens that leaves what they display. -/
theorem deskStill_of_screensKept {s t : State} (ht : t.tables = s.tables) (hs : screensKept s t) (hg : t.glide = s.glide) :
    DeskStill s t :=
  ⟨by rw [ht], fun c => by rw [ht], fun n => by rw [ht], fun sc => (hs sc).1, fun sc => (hs sc).2.2.2.1, by rw [hg], by rw [hg],
    by rw [hg]⟩

theorem deskStill_recomputeFrames (s : State) : DeskStill s (recomputeFrames s) :=
  deskStill_of_screensKept rfl (screensKept_recomputeFrames s) rfl

theorem deskStill_setAlertList (l) (s : State) : DeskStill s (setAlertList l s) :=
  deskStill_of_screensKept (quiet_setAlertList l s).tables (setAlertList_sets l s).screens (setAlertList_sets l s).glide

theorem deskStill_syncBlanked (s : State) : DeskStill s (syncBlanked s) := by
  refine ⟨rfl, fun _ => rfl, fun _ => rfl, fun sc => ?_, fun sc => ?_, rfl, rfl, rfl⟩
  all_goals
    simp only [syncBlanked, State.setScreens_screens, Fin.getElem_fin, Vector.getElem_ofFn]
    split <;> rfl

theorem elapse_screen (d : Nat) (r : Screen) : (r.elapse d).attached = r.attached ∧ (r.elapse d).displayed = r.displayed := by
  unfold Screen.elapse
  split <;> exact ⟨rfl, rfl⟩

theorem deskStill_elapse (d) (s : State) : DeskStill s (s.elapse d) := by
  refine ⟨rfl, fun _ => rfl, fun _ => rfl, fun sc => ?_, fun sc => ?_, rfl, rfl, rfl⟩
  all_goals simp [State.elapse, elapse_screen]

/-- A change of a screen record that leaves its display and what it shows. -/
theorem deskStill_modScreen {sc : ScreenNo} {f : Screen → Screen} {s : State}
    (ha : ∀ r, (f r).attached = r.attached := by exact fun _ => rfl)
    (hd : ∀ r, (f r).displayed = r.displayed := by exact fun _ => rfl) : DeskStill s (s.modScreen sc f) := by
  refine ⟨rfl, fun _ => rfl, fun _ => rfl, fun i => ?_, fun i => ?_, rfl, rfl, rfl⟩
  all_goals
    rw [Fin.getElem_fin, State.modScreen_screens]
    split
    · simp [ha, hd]
    · rfl

theorem DeskStill.deskOk {s t : State} (h : DeskStill s t) (ok : DeskOk s.tables) : DeskOk t.tables := by
  unfold DeskOk
  rw [h.layout]
  exact ok

theorem DeskStill.screenTiles {s t : State} (h : DeskStill s t) (sc) : screenTiles t sc = screenTiles s sc := by
  unfold Machine.screenTiles
  rw [h.layout, h.displayed]

theorem DeskStill.allTiles {s t : State} (h : DeskStill s t) : allTiles t = allTiles s := by
  unfold Machine.allTiles
  rw [show Machine.screenTiles t = Machine.screenTiles s from funext h.screenTiles]

theorem DeskStill.liveOwner {s t : State} (h : DeskStill s t) (tile) : liveOwner t tile = liveOwner s tile := by
  unfold Machine.liveOwner tileOwner
  rw [h.attached]
  simp only [h.owner, h.parked]

theorem DeskStill.seatTile {s t : State} (h : DeskStill s t) : seatTile t = seatTile s := by
  unfold Machine.seatTile
  rw [h.seat]
  simp only [h.screenTiles]

theorem DeskStill.seatOwner {s t : State} (h : DeskStill s t) : seatOwner t = seatOwner s := by
  unfold Machine.seatOwner
  simp only [h.seatTile, h.liveOwner]

theorem DeskStill.firstLive {s t : State} (h : DeskStill s t) : firstLive t = firstLive s := by
  unfold Machine.firstLive
  simp only [h.allTiles, h.liveOwner]

theorem DeskStill.firstLiveOf {s t : State} (h : DeskStill s t) (n) : firstLiveOf t n = firstLiveOf s n := by
  unfold Machine.firstLiveOf
  simp only [h.allTiles, h.liveOwner]

theorem DeskStill.locate {s t : State} (h : DeskStill s t) (x y) : locate t x y = locate s x y := by
  unfold Machine.locate
  rw [h.allTiles]

/-! ### The law, with and without the tiles live -/

/-- The pointer's record: on the desk, and seated for the owner of a live tile it lies on. When `live` holds a seated pointer
lies in a live tile of its tile computer, and an unseated one finds none. -/
structure PointerOk (live : Prop) (s : State) : Prop where
  desk : DeskOk s.tables
  position : s.glide.px ≤ 524287 ∧ s.glide.py ≤ 524287
  owner : ∀ seat n, s.glide.seat = some seat → seatOwner s = some n → seat.computer = n
  seated : live → ∀ seat, s.glide.seat = some seat → ∃ t, seatTile s = some t ∧ liveOwner s t = some seat.computer ∧
    t.contains (s.glide.px / 16) (s.glide.py / 16) = true
  unseated : live → s.glide.seat = none → firstLive s = none

/-- In GLIDE the tile computer is the focus computer (R35). -/
def GlideOk (s : State) : Prop :=
  s.focus.mode = .glide → ∃ seat, s.glide.seat = some seat ∧ s.focus.focus = some seat.computer

/-- The law of the pointer, up to the live tiles when `live` does not hold. -/
structure PointerLaw (live : Prop) (s : State) : Prop extends PointerOk live s where
  glide : GlideOk s
  detached : live → s.glide.seat = none → s.focus.mode = .detached

theorem pointerLaw_iff (s : State) : PointerLaw True s ↔ DeskOk s.tables ∧ PointerSafe s := by
  constructor
  · intro h
    exact ⟨h.desk, h.seated trivial, fun hn => ⟨h.unseated trivial hn, h.detached trivial hn⟩, h.glide, h.position⟩
  · rintro ⟨desk, seated, unseated, glide, position⟩
    refine ⟨⟨desk, position, fun seat n hs hn => ?_, fun _ => seated, fun _ hn => (unseated hn).1⟩, glide,
      fun _ hn => (unseated hn).2⟩
    obtain ⟨t, ht, ho, -⟩ := seated seat hs
    unfold seatOwner at hn
    rw [ht] at hn
    exact Option.some.inj (ho.symm.trans hn)

theorem PointerOk.still {live : Prop} {s t : State} (h : PointerOk live s) (k : DeskStill s t) : PointerOk live t where
  desk := k.deskOk h.desk
  position := by rw [k.px, k.py]; exact h.position
  owner := by rw [k.seat, k.seatOwner]; exact h.owner
  seated := by
    rw [k.seat, k.seatTile, k.px, k.py]
    simp only [k.liveOwner]
    exact h.seated
  unseated := by rw [k.seat, k.firstLive]; exact h.unseated

theorem PointerLaw.still {live : Prop} {s t : State} (h : PointerLaw live s) (k : DeskStill s t)
    (hf : t.focus.focus = s.focus.focus) (hm : t.focus.mode = s.focus.mode) : PointerLaw live t where
  toPointerOk := h.toPointerOk.still k
  glide := by unfold GlideOk; rw [k.seat, hf, hm]; exact h.glide
  detached := by rw [k.seat, hm]; exact h.detached

theorem PointerLaw.served {live : Prop} {s t : State} (h : PointerLaw live s) (k : Served s t) : PointerLaw live t :=
  h.still k.deskStill k.focused k.mode

/-- The pointer lies in the live tile `t` of computer `n`, seated there. -/
structure SeatedOn (t : Tile) (n : Computer) (s : State) : Prop where
  desk : DeskOk s.tables
  tile : t ∈ allTiles s
  live : liveOwner s t = some n
  seat : s.glide.seat = some ⟨t.screen, t.quad, n⟩
  inside : t.contains (s.glide.px / 16) (s.glide.py / 16) = true

theorem SeatedOn.seatTile {t : Tile} {n : Computer} {s : State} (h : SeatedOn t n s) : seatTile s = some t := by
  unfold Machine.seatTile
  rw [h.seat]
  exact (screenTiles_mem h.desk (allTiles_mem h.desk h.tile)).2.2.2.2.2

theorem SeatedOn.seatOwner {t : Tile} {n : Computer} {s : State} (h : SeatedOn t n s) : seatOwner s = some n := by
  unfold Machine.seatOwner
  rw [h.seatTile]
  exact h.live

theorem SeatedOn.pointerOk {t : Tile} {n : Computer} {s : State} (h : SeatedOn t n s) (live : Prop) :
    PointerOk live s := by
  obtain ⟨-, hw, hh, hx, hy, -⟩ := screenTiles_mem h.desk (allTiles_mem h.desk h.tile)
  refine ⟨h.desk, position_of_contains hw hh hx hy h.inside, fun seat m hs hm => ?_, fun _ seat hs => ?_, fun _ hs => ?_⟩
  · rw [h.seat] at hs
    cases hs
    exact Option.some.inj (h.seatOwner.symm.trans hm)
  · rw [h.seat] at hs
    cases hs
    exact ⟨t, h.seatTile, h.live, h.inside⟩
  · rw [h.seat] at hs
    cases hs

theorem SeatedOn.still {t : Tile} {n : Computer} {s u : State} (h : SeatedOn t n s) (k : DeskStill s u) :
    SeatedOn t n u :=
  ⟨k.deskOk h.desk, k.allTiles ▸ h.tile, (k.liveOwner t).trans h.live, k.seat.trans h.seat, by
    rw [k.px, k.py]; exact h.inside⟩

/-- Seated on a live tile of the focus computer the law holds in every mode. -/
theorem SeatedOn.law {t : Tile} {n : Computer} {s : State} (h : SeatedOn t n s) (live : Prop)
    (hf : s.focus.mode = .glide → s.focus.focus = some n) : PointerLaw live s :=
  ⟨h.pointerOk live, fun hm => ⟨_, h.seat, hf hm⟩, fun _ hs => by rw [h.seat] at hs; cases hs⟩

/-- A pointer that the law covers and that lies on a live tile is seated there. -/
theorem PointerOk.seatedOn {live : Prop} {s : State} {t : Tile} (h : PointerOk live s) (hl : live)
    (ht : Machine.seatTile s = some t) : ∃ n, SeatedOn t n s := by
  obtain ⟨seat, hs, hm, hscreen, hquad⟩ := seatTile_mem h.desk ht
  obtain ⟨t', ht', ho, hc⟩ := h.seated hl seat hs
  obtain rfl := Option.some.inj (ht.symm.trans ht')
  exact ⟨seat.computer, h.desk, screenTiles_sub hm, ho, by rw [hs, ← hscreen, ← hquad], hc⟩

end Sys2Proof.Machine
end


section
/-! ## The desk pointer lies in a live tile: seating, focus changes and re-seats -/

namespace Sys2Proof.Machine

/-! ### Steps that move no pointer -/

theorem deskStill_setMode (m) (s : State) : DeskStill s (setMode m s) := by
  cases m <;> exact deskStill_of_eq rfl rfl rfl

theorem setMode_mode (m) (s : State) : (setMode m s).focus.mode = m := by
  cases m <;> rfl

theorem deskStill_rememberHere (s : State) : DeskStill s (rememberHere s) := by
  unfold rememberHere
  split
  · exact .refl s
  · split
    · exact ⟨rfl, fun _ => rfl, fun _ => rfl, fun _ => rfl, fun _ => rfl, rfl, rfl, rfl⟩
    · exact .refl s

theorem deskStill_rememberHanded (handed) (s : State) : DeskStill s (rememberHanded handed s) := by
  unfold rememberHanded
  split
  · exact ⟨rfl, fun _ => rfl, fun _ => rfl, fun _ => rfl, fun _ => rfl, rfl, rfl, rfl⟩
  · exact .refl s

theorem rememberHanded_focus (handed) (s : State) : (rememberHanded handed s).focus = s.focus := by
  unfold rememberHanded
  split <;> rfl

theorem deskStill_setFocusTo (n) (s : State) : DeskStill s (setFocusTo n s) := by
  have focused : DeskStill s (s.setFocus { s.focus with previous := s.focus.focus, focus := n, rx := 0, ry := 0 }) :=
    deskStill_of_eq rfl rfl rfl
  have k := focused.trans (served_syncMirror _).deskStill
  unfold setFocusTo
  dsimp only
  split
  · exact k
  · exact k.trans (deskStill_setAlertList _ _)

theorem deskStill_announceFocus (s : State) : DeskStill s (announceFocus s) :=
  (served_raise s _).deskStill.trans (deskStill_recomputeFrames _)

/-- A focus change with the pointer placed moves no pointer and makes `n` the focus computer (R28, R37). -/
theorem focusChangePlaced_still (n : Computer) (handed) (s : State) :
    DeskStill s (focusChangePlaced n handed s) ∧ (focusChangePlaced n handed s).focus.focus = some n ∧
      (focusChangePlaced n handed s).focus.mode = s.focus.mode := by
  unfold focusChangePlaced
  split
  · next h => exact ⟨.refl s, h, rfl⟩
  · have k := (served_endTypeout .cancelledFocus s).trans (served_releaseOldFocus _)
    refine ⟨k.deskStill.trans ((deskStill_rememberHanded handed _).trans ((deskStill_setFocusTo _ _).trans
      ((served_wakeOnFocus _ _).deskStill.trans (deskStill_announceFocus _)))), ?_, ?_⟩
    · rw [announceFocus_focus, (served_wakeOnFocus _ _).focused, setFocusTo_focus]
    · rw [announceFocus_focus, (served_wakeOnFocus _ _).mode, setFocusTo_focus]
      dsimp only
      rw [rememberHanded_focus, k.mode]

/-! ### Seating -/

/-- Placed on a live tile, at a point that lies in it. -/
theorem seatedOn_placeAt {s : State} {t : Tile} {n : Computer} {pos : Nat × Nat} (ok : DeskOk s.tables)
    (ht : t ∈ allTiles s) (hn : liveOwner s t = some n) (hp : t.contains (pos.1 / 16) (pos.2 / 16) = true) :
    SeatedOn t n (placeAt pos t n s) :=
  ⟨ok, ht, hn, rfl, hp⟩

theorem seatedOn_centre {s : State} {t : Tile} {n : Computer} (ok : DeskOk s.tables) (ht : t ∈ allTiles s)
    (hn : liveOwner s t = some n) : SeatedOn t n (placeAt t.centre t n s) := by
  obtain ⟨-, hw, hh, hx, hy, -⟩ := screenTiles_mem ok (allTiles_mem ok ht)
  exact seatedOn_placeAt ok ht hn (contains_centre hw hh hx hy).1

/-- A remembered position lies in a live tile of its computer (R66). -/
theorem rememberedTile_some {s : State} {n : Computer} {pos : Nat × Nat} {t : Tile}
    (h : rememberedTile s n = some (pos, t)) :
    t ∈ allTiles s ∧ liveOwner s t = some n ∧ t.contains (pos.1 / 16) (pos.2 / 16) = true := by
  unfold rememberedTile at h
  (repeat' split at h) <;> cases h
  next ho hl => exact ⟨(locate_some hl).1, ho, (locate_some hl).2⟩

theorem setMode_law {live : Prop} {m : PointerMode} {s : State} (h : PointerOk live s)
    (hg : m = .glide → ∃ seat, s.glide.seat = some seat ∧ s.focus.focus = some seat.computer)
    (hd : live → s.glide.seat = none → m = .detached) : PointerLaw live (setMode m s) where
  toPointerOk := h.still (deskStill_setMode m s)
  glide := by
    unfold GlideOk
    rw [setMode_mode, (deskStill_setMode m s).seat, (setMode_focused m s).1]
    exact hg
  detached := by
    rw [setMode_mode, (deskStill_setMode m s).seat]
    exact hd

theorem SeatedOn.setMode {t : Tile} {n : Computer} {s : State} (h : SeatedOn t n s) (live : Prop) {m : PointerMode}
    (hf : m = .glide → s.focus.focus = some n) : PointerLaw live (setMode m s) :=
  (h.still (deskStill_setMode m s)).law live fun hm => by
    rw [setMode_mode] at hm
    rw [(setMode_focused m s).1, hf hm]

/-- Seated for the focus computer `n` the law holds, whatever the mode was before (R66). -/
theorem pointerLaw_seatFor {live : Prop} {n : Option Computer} {s : State} (h : PointerOk live s)
    (hf : s.focus.focus = n) : PointerLaw live (seatFor n s) := by
  unfold seatFor
  split
  · exact setMode_law h (by simp) (fun _ _ => rfl)
  · next n =>
    split
    next ho =>
      have seated : ∃ seat, s.glide.seat = some seat := by
        unfold seatOwner at ho
        split at ho
        · cases ho
        · next t ht =>
          obtain ⟨seat, hs, -⟩ := seatTile_mem h.desk ht
          exact ⟨seat, hs⟩
      obtain ⟨seat, hs⟩ := seated
      exact setMode_law h (fun _ => ⟨seat, hs, by rw [hf, h.owner seat n hs ho]⟩) (fun _ hn => by rw [hs] at hn; cases hn)
    next ho =>
      split
      · next pos t hr =>
        obtain ⟨ht, hn, hp⟩ := rememberedTile_some hr
        exact (seatedOn_placeAt h.desk ht hn hp).setMode live fun _ => hf
      · split
        · next t ht =>
          exact (seatedOn_centre h.desk (firstLiveOf_some ht).1 (firstLiveOf_some ht).2).setMode live fun _ => hf
        · exact setMode_law h (by simp) (fun _ _ => rfl)

/-! ### Focus changes -/

theorem pointerLaw_focusChange {live : Prop} (n) {s : State} (h : PointerLaw live s) : PointerLaw live (focusChange n s) := by
  unfold focusChange
  split
  · exact h
  · have k := ((served_endTypeout .cancelledFocus s).trans (served_releaseOldFocus _)).deskStill.trans
      ((deskStill_rememberHere _).trans (deskStill_setFocusTo n _))
    have seated := pointerLaw_seatFor (h.toPointerOk.still k) (by rw [setFocusTo_focus])
    exact ((seated.served (served_considerPosition _)).served (served_wakeOnFocus n _)).still
      (deskStill_announceFocus _) rfl rfl

theorem pointerLaw_focusChangePlaced {t : Tile} {n : Computer} {s : State} (handed) (h : SeatedOn t n s) :
    PointerLaw True (focusChangePlaced n handed s) := by
  obtain ⟨still, focus, -⟩ := focusChangePlaced_still n handed s
  exact (h.still still).law True fun _ => focus

theorem PointerLaw.setMode_glide {t : Tile} {n : Computer} {s : State} (h : SeatedOn t n s) (handed) :
    PointerLaw True (setMode .glide (focusChangePlaced n handed s)) := by
  obtain ⟨still, focus, -⟩ := focusChangePlaced_still n handed s
  exact (h.still still).setMode True fun _ => focus

/-! ### Re-seats (R37, R69) -/

/-- What a re-seat needs of the pointer: the rest it makes good. -/
structure PointerReady (s : State) : Prop where
  desk : DeskOk s.tables
  position : s.glide.px ≤ 524287 ∧ s.glide.py ≤ 524287
  glide : GlideOk s

theorem PointerLaw.ready {live : Prop} {s : State} (h : PointerLaw live s) : PointerReady s := ⟨h.desk, h.position, h.glide⟩

theorem stayTile_some {s : State} {t : Tile} {n : Computer} (h : stayTile s = some (t, n)) :
    t ∈ allTiles s ∧ liveOwner s t = some n ∧ t.contains (s.glide.px / 16) (s.glide.py / 16) = true := by
  unfold stayTile at h
  (repeat' split at h) <;> cases h
  have hl : locate s (s.glide.px / 16) (s.glide.py / 16) = some t := ‹_›
  exact ⟨(locate_some hl).1, ‹_›, (locate_some hl).2⟩

theorem newTile_some {s : State} {t : Tile} {n : Computer} (h : newTile s = some (t, n)) :
    t ∈ allTiles s ∧ liveOwner s t = some n := by
  unfold newTile at h
  dsimp only at h
  split at h
  next tn he =>
    (repeat' split at he) <;> cases he
    cases h
    exact firstLiveOf_some ‹_›
  next =>
    (repeat' split at h) <;> cases h
    have hl : firstLive s = some t := ‹_›
    exact ⟨(firstLive_some hl).1, ‹_›⟩

/-- Without a tile to go to there is no live tile (R69). -/
theorem newTile_none {s : State} (h : newTile s = none) : firstLive s = none := by
  unfold newTile at h
  dsimp only at h
  split at h
  · cases h
  · cases hl : firstLive s with
    | none => rfl
    | some t =>
      obtain ⟨-, n, hn⟩ := firstLive_some hl
      rw [hl] at h
      dsimp only at h
      rw [hn] at h
      cases h

theorem pointerLaw_moved {t : Tile} {n : Computer} {s : State} (h : SeatedOn t n s) :
    PointerLaw True (actOnReseat (.moved n) s) := by
  unfold actOnReseat
  dsimp only
  split
  next hf => exact h.setMode True fun _ => hf
  next =>
    split
    · exact PointerLaw.setMode_glide h none
    · exact h.setMode True (by simp)

/-- A re-seat makes the law hold (R37, R69). -/
theorem pointerLaw_reseat {s : State} (h : PointerReady s) : PointerLaw True (reseat s) := by
  refine PointerLaw.served ?_ (served_considerPosition _)
  unfold reseatPlace
  split
  next t n hs =>
    obtain ⟨ht, hn, hp⟩ := stayTile_some hs
    have seated : SeatedOn t n (s.setGlide { s.glide with seat := some ⟨t.screen, t.quad, n⟩ }) := ⟨h.desk, ht, hn, rfl, hp⟩
    dsimp only
    split
    next same =>
      refine seated.law True fun hm => ?_
      obtain ⟨seat, hseat, hf⟩ := h.glide hm
      rw [same] at hseat
      cases hseat
      exact hf
    next => exact pointerLaw_moved seated
  next =>
    split
    next t n hs =>
      obtain ⟨ht, hn⟩ := newTile_some hs
      exact pointerLaw_moved (seatedOn_centre h.desk ht hn)
    next hs =>
      have ok : PointerOk True (s.setGlide { s.glide with seat := none }) :=
        ⟨h.desk, h.position, fun _ _ he => (by cases he), fun _ _ he => (by cases he), fun _ _ => newTile_none hs⟩
      exact setMode_law ok (by simp) fun _ _ => rfl

/-- The re-seat of a state that differs from a ready one in its screens alone. -/
theorem pointerReady_of_eq {s t : State} (h : PointerReady s) (ht : t.tables.layout = s.tables.layout)
    (hf : t.focus = s.focus) (hg : t.glide = s.glide) : PointerReady t :=
  ⟨by unfold DeskOk; rw [ht]; exact h.desk, by rw [hg]; exact h.position, by unfold GlideOk; rw [hf, hg]; exact h.glide⟩

theorem pointerLaw_focusMark {s : State} (h : PointerLaw True s) : PointerLaw True (focusMark s) := by
  unfold focusMark
  split
  · split
    · exact h
    · next c ho =>
      have tile : ∃ t, seatTile s = some t ∧ liveOwner s t = some c := by
        unfold seatOwner at ho
        split at ho
        · cases ho
        · next t ht => exact ⟨t, ht, ho⟩
      obtain ⟨t, ht, hc⟩ := tile
      obtain ⟨n, seated⟩ := h.toPointerOk.seatedOn trivial ht
      obtain rfl := Option.some.inj (seated.live.symm.trans hc)
      exact PointerLaw.setMode_glide seated none
  · exact h

/-! ### Motion -/

theorem deskMax_eq : Config.deskMax = 524287 := rfl

/-- The edge of a tile lies in it (R53). -/
theorem contains_edge {t : Tile} (hw : 1 ≤ t.w) (hh : 1 ≤ t.h) (a : Axis) (step : Int) {px py : Nat}
    (h : t.contains (px / 16) (py / 16) = true) :
    (a = .x → t.contains (tileEdge a step t / 16) (py / 16) = true) ∧
      (a = .y → t.contains (px / 16) (tileEdge a step t / 16) = true) := by
  rw [contains_iff] at h
  constructor
  all_goals
    rintro rfl
    rw [contains_iff]
    unfold tileEdge
    dsimp only
    split <;> omega

theorem setAxis_deskOk (a p) (s : State) : (setAxis a p s).tables = s.tables ∧ (setAxis a p s).screens = s.screens ∧
    (setAxis a p s).focus = s.focus ∧ (setAxis a p s).glide.seat = s.glide.seat := by
  cases a <;> exact ⟨rfl, rfl, rfl, rfl⟩

/-- The tiles and which of them are live do not depend on where the pointer is. -/
theorem setAxis_tiles (a p) (s : State) : allTiles (setAxis a p s) = allTiles s ∧
    ∀ t, liveOwner (setAxis a p s) t = liveOwner s t := by
  cases a <;> exact ⟨rfl, fun _ => rfl⟩

theorem setAxis_point (a : Axis) (p : Nat) (s : State) :
    (setAxis a p s).glide.px / 16 = (axisPoint a p s).1 ∧ (setAxis a p s).glide.py / 16 = (axisPoint a p s).2 := by
  cases a <;> exact ⟨rfl, rfl⟩

/-- Seated on a live tile the pointer stays so when it moves to a point of it. -/
theorem SeatedOn.setAxis {t : Tile} {n : Computer} {s : State} (h : SeatedOn t n s) (a : Axis) (p : Nat)
    (hp : t.contains (axisPoint a p s).1 (axisPoint a p s).2 = true) : SeatedOn t n (setAxis a p s) := by
  obtain ⟨tables, -, -, seat⟩ := setAxis_deskOk a p s
  obtain ⟨tiles, live⟩ := setAxis_tiles a p s
  obtain ⟨hx, hy⟩ := setAxis_point a p s
  exact ⟨tables ▸ h.desk, tiles ▸ h.tile, (live t).trans h.live, seat.trans h.seat, by rw [hx, hy]; exact hp⟩

theorem pointerLaw_cross {s : State} {t : Tile} {n : Computer} (a p) (h : PointerLaw True s) (ht : t ∈ allTiles s)
    (hn : liveOwner s t = some n) (hp : t.contains (axisPoint a p s).1 (axisPoint a p s).2 = true) :
    PointerLaw True (cross a p t n s) := by
  obtain ⟨tables, -, focus, -⟩ := setAxis_deskOk a p s
  obtain ⟨tiles, live⟩ := setAxis_tiles a p s
  obtain ⟨hx, hy⟩ := setAxis_point a p s
  have seated : SeatedOn t n ((setAxis a p s).setGlide
      { (setAxis a p s).glide with seat := some ⟨t.screen, t.quad, n⟩ }) :=
    ⟨tables ▸ h.desk, tiles ▸ ht, (live t).trans hn, rfl, by
      show t.contains ((setAxis a p s).glide.px / 16) ((setAxis a p s).glide.py / 16) = true
      rw [hx, hy]
      exact hp⟩
  unfold cross
  dsimp only
  split
  next hf => exact seated.law True fun _ => (congrArg FocusCtl.focus focus).trans hf
  next => exact pointerLaw_focusChangePlaced _ (seated.still (served_wakeOnGlide n _).deskStill)

theorem pointerLaw_moveAxis (a step) {s : State} (h : PointerLaw True s) : PointerLaw True (moveAxis a step s) := by
  unfold moveAxis
  split
  · exact h
  · next t ht =>
    obtain ⟨n, seated⟩ := h.toPointerOk.seatedOn trivial ht
    obtain ⟨-, hw, hh, -, -, -⟩ := screenTiles_mem h.desk (allTiles_mem h.desk seated.tile)
    have glide : s.focus.mode = .glide → s.focus.focus = some n := fun hm => by
      obtain ⟨seat, hs, hf⟩ := h.glide hm
      rw [seated.seat] at hs
      cases hs
      exact hf
    have stays : ∀ p, t.contains (axisPoint a p s).1 (axisPoint a p s).2 = true → PointerLaw True (setAxis a p s) :=
      fun p hp => (seated.setAxis a p hp).law True fun hm => by
        obtain ⟨-, -, focus, -⟩ := setAxis_deskOk a p s
        rw [focus] at hm ⊢
        exact glide hm
    have edge : PointerLaw True (setAxis a (tileEdge a step t) s) := by
      obtain ⟨hx, hy⟩ := contains_edge hw hh a step seated.inside
      refine stays _ ?_
      cases a with
      | x => exact hx rfl
      | y => exact hy rfl
    dsimp only
    split
    next hp => exact stays _ hp
    next =>
      split
      next => exact edge
      next t1 hl =>
        split
        next => exact edge
        next m hm =>
          split
          · exact pointerLaw_cross a _ h (locate_some hl).1 hm (locate_some hl).2
          · exact edge

theorem forwardRelative_still (dx dy wheel) (s : State) : DeskStill s (forwardRelative dx dy wheel s) ∧
    (forwardRelative dx dy wheel s).focus.focus = s.focus.focus ∧
    (forwardRelative dx dy wheel s).focus.mode = s.focus.mode := by
  have e : ∀ u : State, u.tables = s.tables → u.screens = s.screens → u.glide = s.glide → DeskStill s u := fun u =>
    deskStill_of_eq
  unfold forwardRelative
  split
  · exact ⟨e _ rfl rfl rfl, rfl, rfl⟩
  · split
    · dsimp only
      split <;> exact ⟨e _ rfl rfl rfl, rfl, rfl⟩
    · exact ⟨e _ rfl rfl rfl, rfl, rfl⟩

theorem pointerLaw_motionItem (dx dy wheel c) {s : State} (h : PointerLaw True s) :
    PointerLaw True (motionItem dx dy wheel c s) := by
  unfold motionItem
  split
  · exact (pointerLaw_moveAxis _ _ (pointerLaw_moveAxis _ _ h)).served (served_considerReport _ _)
  all_goals
    obtain ⟨still, focus, mode⟩ := forwardRelative_still dx dy wheel s
    exact h.still still focus mode

end Sys2Proof.Machine
end


section
/-! ## The desk pointer lies in a live tile: every step -/

namespace Sys2Proof.Machine

/-! ### Displays and assignments -/

theorem pointerReady_reseat {s : State} (h : PointerReady s) : PointerReady (reseat s) := (pointerLaw_reseat h).ready

theorem pointerReady_modScreen {sc f} {s : State} (h : PointerReady s) : PointerReady (s.modScreen sc f) :=
  pointerReady_of_eq h rfl rfl rfl

theorem pointerReady_raise (e) {s : State} (h : PointerReady s) : PointerReady (raise e s) :=
  pointerReady_of_eq h rfl rfl rfl

theorem pointerLaw_assignScreen (sc a) {s : State} (h : PointerLaw True s) : PointerLaw True (assignScreen sc a s) := by
  unfold assignScreen
  split
  · exact h.still deskStill_modScreen rfl rfl
  · exact pointerLaw_reseat (pointerReady_modScreen h.ready)

theorem pointerLaw_setRequested (sc a) {s : State} (h : PointerLaw True s) : PointerLaw True (setRequested sc a s) := by
  unfold setRequested
  split
  · exact h.still deskStill_modScreen rfl rfl
  · exact pointerLaw_assignScreen sc a h

theorem pointerLaw_recomputeFrames {s : State} (h : PointerLaw True s) : PointerLaw True (recomputeFrames s) :=
  h.still (deskStill_recomputeFrames s) rfl rfl

theorem pointerLaw_closePeek (sc) {s : State} (h : PointerLaw True s) : PointerLaw True (closePeek sc s) := by
  have removed : PointerLaw True (s.modScreen sc fun r => { r with peek := none }) := h.still deskStill_modScreen rfl rfl
  exact (pointerLaw_recomputeFrames removed).served (served_raise _ _)

theorem pointerLaw_endPeek (sc) {s : State} (h : PointerLaw True s) : PointerLaw True (endPeek sc s) := by
  unfold endPeek
  split
  · exact h
  · exact pointerLaw_closePeek sc (pointerLaw_assignScreen sc _ h)

theorem pointerLaw_actPeek (sn c) {s : State} (h : PointerLaw True s) : PointerLaw True (actPeek sn c s) := by
  unfold actPeek
  split
  · split
    · exact h
    · split
      · exact pointerLaw_endPeek _ h
      · refine PointerLaw.served (pointerLaw_recomputeFrames (pointerLaw_assignScreen _ _ ?_)) (served_raise _ _)
        exact h.still deskStill_modScreen rfl rfl
      · unfold retargetPeek
        dsimp only
        split
        · exact h.still deskStill_modScreen rfl rfl
        · exact pointerLaw_assignScreen _ _ (h.still deskStill_modScreen rfl rfl)
  · exact h

theorem pointerLaw_doDisplayDetach (sc) {s : State} (h : PointerLaw True s) : PointerLaw True (doDisplayDetach sc s) := by
  have pending : ∀ {u}, PointerReady u → PointerReady (displayPending sc u) := fun hu => by
    unfold displayPending
    split
    · exact hu
    · exact pointerReady_reseat (pointerReady_modScreen hu)
  unfold doDisplayDetach
  split
  · exact pointerLaw_reseat (pointerReady_raise _ (pointerReady_modScreen (pending (pointerReady_modScreen h.ready))))
  · exact h

theorem pointerLaw_doDisplayAttach (sc p) {s : State} (h : PointerLaw True s) :
    PointerLaw True (doDisplayAttach sc p s) :=
  pointerLaw_reseat (pointerReady_raise _ (pointerReady_modScreen (pointerLaw_doDisplayDetach sc h).ready))

theorem pointerLaw_doFrameStart (sc) {s : State} (h : PointerLaw True s) : PointerLaw True (doFrameStart sc s) := by
  have composed : ∀ u, DeskStill u (composeScreen sc u) := fun u => by
    unfold composeScreen
    exact DeskStill.trans deskStill_modScreen deskStill_modScreen
  unfold doFrameStart
  split
  · dsimp only
    cases hp : s.screens[sc].pendingAssignment with
    | some a =>
      have taken : PointerReady (takePending sc s) := by
        unfold takePending
        rw [hp]
        exact pointerReady_modScreen h.ready
      exact pointerLaw_reseat (pointerReady_of_eq taken (composed _).layout rfl rfl)
    | none =>
      have taken : takePending sc s = s.modScreen sc fun r =>
          { r with frames := r.pendingFrames.getD r.frames, pendingFrames := none } := by
        unfold takePending
        rw [hp]
      rw [taken]
      exact h.still (DeskStill.trans deskStill_modScreen (composed _)) rfl rfl
  · exact h

/-! ### Tables -/

/-- A change of the tables that leaves layout, owners and parked fields. -/
theorem deskStill_changeTables {tb : Tables} {s : State} (hl : tb.layout = s.tables.layout)
    (ho : ∀ c : Channel, tb.channel[c].owner = s.tables.channel[c].owner)
    (hp : ∀ n : Computer, tb.computer[n].parked = s.tables.computer[n].parked) : DeskStill s (changeTables tb s) :=
  ⟨hl, ho, hp, fun _ => rfl, fun _ => rfl, rfl, rfl, rfl⟩

theorem pointerLaw_changeTables {tb : Tables} {s : State} (h : PointerLaw True s) (hl : tb.layout = s.tables.layout)
    (ho : ∀ c : Channel, tb.channel[c].owner = s.tables.channel[c].owner)
    (hp : ∀ n : Computer, tb.computer[n].parked = s.tables.computer[n].parked) : PointerLaw True (changeTables tb s) :=
  h.still (deskStill_changeTables hl ho hp) rfl rfl

/-- Parked fields change which tiles are live, and no tile's owner. -/
theorem pointerLaw_parkedChanged {tb : Tables} {s : State} (h : PointerLaw True s) (hl : tb.layout = s.tables.layout)
    (hc : tb.channel = s.tables.channel) : PointerLaw False (changeTables tb s) where
  desk := by
    have e : (changeTables tb s).tables.layout = s.tables.layout := hl
    unfold DeskOk
    rw [e]
    exact h.desk
  position := h.position
  owner seat n hs hn := by
    have tile : seatTile (changeTables tb s) = seatTile s := by
      unfold seatTile screenTiles
      have e : (changeTables tb s).tables.layout = s.tables.layout := hl
      rw [e]
      rfl
    obtain ⟨t, ht, ho, -⟩ := h.seated trivial seat hs
    unfold seatOwner at hn
    rw [tile, ht] at hn
    have owner := tileOwner_of_live hn
    have same : tileOwner (changeTables tb s).tables t = tileOwner s.tables t := by
      unfold tileOwner
      have e : (changeTables tb s).tables.channel = s.tables.channel := hc
      rw [e]
    rw [same, tileOwner_of_live ho] at owner
    exact Option.some.inj owner
  seated := False.elim
  unseated := False.elim
  glide := h.glide
  detached := False.elim

theorem pointerLaw_setAlertList {live : Prop} (l) {s : State} (h : PointerLaw live s) :
    PointerLaw live (setAlertList l s) :=
  h.still (deskStill_setAlertList l s) (by rw [(setAlertList_sets l s).focus]) (by rw [(setAlertList_sets l s).focus])

theorem pointerLaw_setAlerts {live : Prop} (v) {s : State} (h : PointerLaw live s) : PointerLaw live (s.setAlerts v) :=
  h.still (deskStill_of_eq rfl rfl rfl) rfl rfl

theorem pointerLaw_freshEvaluate {live : Prop} (n) {s : State} (h : PointerLaw live s) :
    PointerLaw live (freshEvaluate n s) := pointerLaw_setAlertList _ (pointerLaw_setAlerts _ h)

theorem pointerLaw_setBroadcast {live : Prop} (n b) {s : State} (h : PointerLaw live s) :
    PointerLaw live (setBroadcast n b s) := h.still (deskStill_of_eq rfl rfl rfl) rfl rfl

theorem pointerLaw_removeBroadcast {live : Prop} (n) {s : State} (h : PointerLaw live s) :
    PointerLaw live (removeBroadcast n s) := by
  unfold removeBroadcast
  split
  · refine pointerLaw_setBroadcast n false ?_
    split
    · exact h
    · exact h.served (served_releaseBelief n s)
  · exact h

theorem pointerLaw_parkSteps {live : Prop} (n) {s : State} (h : PointerLaw live s) : PointerLaw live (parkSteps n s) := by
  refine pointerLaw_setAlertList _ ?_
  unfold leaveParked
  split
  · exact pointerLaw_focusChange _ (pointerLaw_removeBroadcast n h)
  · exact pointerLaw_removeBroadcast n h

theorem pointerLaw_actParkToggle (n) {s : State} (h : PointerLaw True s) : PointerLaw True (actParkToggle n s) := by
  cases hn : ofNum 8 n with
  | none =>
    unfold actParkToggle
    rw [hn]
    exact h
  | some c =>
    have turned := pointerLaw_parkedChanged (tb := parkTurned c s.tables) h rfl rfl
    rw [actParkToggle_eq hn]
    split
    · exact pointerLaw_recomputeFrames (pointerLaw_freshEvaluate c (pointerLaw_reseat turned.ready))
    · exact pointerLaw_recomputeFrames (pointerLaw_reseat (pointerLaw_parkSteps c turned).ready)

theorem pointerLaw_afterParked {live : Prop} (old) (s : State) (n) (h : PointerLaw live s) :
    PointerLaw live (afterParked old s n) := by
  unfold afterParked
  split
  · split
    · exact pointerLaw_parkSteps n h
    · exact pointerLaw_freshEvaluate n h
  · exact h

theorem pointerLaw_afterSource {live : Prop} (old) (s : State) (n) (h : PointerLaw live s) :
    PointerLaw live (afterSource old s n) := by
  unfold afterSource
  split
  · exact pointerLaw_freshEvaluate n h
  · exact h

theorem pointerLaw_afterComputer {tb : Tables} {s : State} (h : PointerLaw True s) (hl : tb.layout = s.tables.layout)
    (hc : tb.channel = s.tables.channel) : PointerLaw True (afterComputer s.tables (changeTables tb s)) := by
  unfold afterComputer
  dsimp only
  by_cases hany : computers.any (parkedChanged s.tables (changeTables tb s).tables) = true
  · rw [if_pos hany, if_pos hany]
    have parked := foldl_keeps (P := PointerLaw False) (pointerLaw_afterParked s.tables) computers
      (pointerLaw_parkedChanged h hl hc)
    exact pointerLaw_recomputeFrames (foldl_keeps (P := PointerLaw True) (pointerLaw_afterSource s.tables) computers
      (pointerLaw_reseat parked.ready))
  · rw [if_neg hany, if_neg hany]
    refine foldl_keeps (P := PointerLaw True) (pointerLaw_afterSource s.tables) computers
      (foldl_keeps (P := PointerLaw True) (pointerLaw_afterParked s.tables) computers
        (pointerLaw_changeTables h hl (fun c => by rw [hc]) fun n => ?_))
    have same := List.any_eq_false.1 (Bool.eq_false_of_not_eq_true hany) n
      ((by decide : ∀ n : Computer, n ∈ computers) n)
    have same : (s.tables.computer[n].parked != tb.computer[n].parked) = false := Bool.eq_false_of_not_eq_true same
    exact (by simpa using same : s.tables.computer[n].parked = tb.computer[n].parked).symm

/-- The entries of a written table are old ones and written ones. -/
theorem setEntries_cases {α : Type} {n : Nat} (l : List α) (v : Vector α n) (i : Nat) (j : Fin n) :
    (setEntries v i l)[j] = v[j] ∨ (setEntries v i l)[j] ∈ l := by
  induction l generalizing v i with
  | nil => exact .inl rfl
  | cons a l ih =>
    obtain h | h := ih (v.setIfInBounds i a) (i + 1)
    · by_cases hij : i = j.val
      · refine .inr ?_
        have e : (setEntries v i (a :: l))[j] = (v.setIfInBounds i a)[j] := h
        rw [e]
        simp [hij]
      · refine .inl (h.trans ?_)
        simp [hij]
    · exact .inr (List.mem_cons_of_mem _ h)

theorem parseAll_mem {α : Type} {parse : List Byte → Option α} {es : List (List Byte)} {l : List α}
    (h : parseAll parse es = some l) : ∀ a ∈ l, ∃ e, parse e = some a := by
  induction es generalizing l with
  | nil =>
    cases h
    intro a ha
    cases ha
  | cons e es ih =>
    unfold parseAll at h
    split at h
    next a as ha has =>
      cases h
      intro b hb
      rcases List.mem_cons.1 hb with rfl | hb
      · exact ⟨e, ha⟩
      · exact ih has b hb
    next => cases h

theorem writeEntries_cases {α : Type} {n : Nat} {parse : List Byte → Option α} {v w : Vector α n} {args : WriteArgs}
    (h : writeEntries parse v args = some w) (j : Fin n) : w[j] = v[j] ∨ ∃ e, parse e = some w[j] := by
  unfold writeEntries at h
  split at h
  · cases h
  · next l hl =>
    cases h
    obtain h | h := setEntries_cases l v (args.first - 1) j
    · exact .inl h
    · exact .inr (parseAll_mem hl _ h)

theorem inRange_some {lo hi n m : Nat} (h : inRange lo hi n = some m) : lo ≤ m ∧ m ≤ hi := by
  unfold inRange at h
  split at h
  · cases h
    assumption
  · cases h

theorem parseLayout_size {l : List Byte} {e : LayoutEntry} (h : parseLayout l = some e) : 320 ≤ e.w ∧ 320 ≤ e.h := by
  unfold parseLayout at h
  split at h
  · simp only [Option.bind_eq_bind, Option.bind_eq_some_iff, Option.ite_none_right_eq_some, Option.some.injEq] at h
    obtain ⟨-, -, -, -, -, -, w, hw, h, hh, -, -, -, -, -, -, -, rfl⟩ := h
    exact ⟨(inRange_some hw).1, (inRange_some hh).1⟩
  · cases h

theorem deskOk_written {v : Vector LayoutEntry 8} {w : WriteArgs} {tb tb' : Tables} (ok : DeskOk tb)
    (hv : writeEntries parseLayout tb.layout w = some v) (hl : layoutValid v = true) (he : tb'.layout = v) : DeskOk tb' := by
  intro sc hen
  rw [he] at hen ⊢
  obtain ⟨hx, hy⟩ := layoutValid_onDesk hl sc hen
  obtain h | ⟨l, h⟩ := writeEntries_cases hv sc
  · rw [h] at hen ⊢
    obtain ⟨hw, hh, hx, hy⟩ := ok sc hen
    exact ⟨hw, hh, hx, hy⟩
  · obtain ⟨hw, hh⟩ := parseLayout_size h
    exact ⟨by omega, by omega, hx, hy⟩

/-- The consequences of a write of another table than the computer, layout and channel tables (R166). -/
theorem pointerLaw_afterWrite {w : WriteArgs} (hc : w.table ≠ .computer) (hl : w.table ≠ .layout) (hh : w.table ≠ .channel)
    (old) {s : State} (h : PointerLaw True s) : PointerLaw True (afterWrite w old s) := by
  unfold afterWrite
  split
  next hw => exact absurd hw hc
  next =>
    split
    · exact h
    · exact pointerLaw_recomputeFrames h
  next hw => exact absurd hw hl
  next => exact foldl_keeps (P := PointerLaw True) (fun u sc => pointerLaw_setRequested sc _) _ h
  next hw => exact absurd hw hh
  next => exact h.served (served_setMatcher _ _)
  next =>
    unfold afterUnlock
    split
    · exact h.still (deskStill_of_eq rfl rfl rfl) rfl rfl
    · exact h
  all_goals exact h

/-- A write of the channel table: with an owner changed the pointer is re-seated (R72, R166). -/
theorem pointerLaw_afterChannel {s : State} {tb : Tables} (h : PointerLaw True s) (hl : tb.layout = s.tables.layout)
    (hp : tb.computer = s.tables.computer) : PointerLaw True (afterChannel s.tables (changeTables tb s)) := by
  have ready : PointerReady (changeTables tb s) := pointerReady_of_eq h.ready hl rfl rfl
  unfold afterChannel
  split
  · exact pointerLaw_reseat (pointerReady_of_eq ready rfl rfl rfl)
  · next same =>
    refine pointerLaw_changeTables h hl (fun c => ?_) fun n => by rw [hp]
    have hc := List.any_eq_false.1 (Bool.eq_false_of_not_eq_true same) c
      ((by decide : ∀ c : Channel, c ∈ channelNos) c)
    have hc : ¬ (s.tables.channel[c].owner ≠ tb.channel[c].owner) := fun hne => hc (decide_eq_true hne)
    exact (of_not_not hc).symm

theorem pointerLaw_written {w : WriteArgs} {s : State} {tb : Tables} (h : PointerLaw True s) (ht : WrittenTables w s tb) :
    PointerLaw True (afterWrite w s.tables (changeTables tb s)) := by
  have other : w.table ≠ .computer → w.table ≠ .layout → w.table ≠ .channel → tb.layout = s.tables.layout →
      tb.channel = s.tables.channel → tb.computer = s.tables.computer →
      PointerLaw True (afterWrite w s.tables (changeTables tb s)) := fun hc hl hh el ec ep =>
    pointerLaw_afterWrite hc hl hh _ (pointerLaw_changeTables h el (fun c => by rw [ec]) fun n => by rw [ep])
  cases ht with
  | computer v hw hv hm =>
    unfold afterWrite
    rw [hw]
    exact pointerLaw_afterComputer h rfl rfl
  | layout v hw hv hl =>
    unfold afterWrite
    rw [hw]
    exact pointerLaw_reseat ⟨deskOk_written h.desk hv hl rfl, h.position, h.glide⟩
  | channel v hw =>
    unfold afterWrite
    rw [hw]
    exact pointerLaw_afterChannel h rfl rfl
  | _ _ hw => exact other (by rw [hw]; decide) (by rw [hw]; decide) (by rw [hw]; decide) rfl rfl rfl

theorem pointerLaw_writeTable (r w) {s : State} (h : PointerLaw True s) : PointerLaw True (writeTable r w s).1 := by
  unfold writeTable
  split
  · exact h
  · split
    · exact h
    · split
      · exact h
      · split
        · exact h
        · split
          · exact h
          · next tb b hb => exact pointerLaw_written h (resultingTables_written hb)

/-! ### Desk reset -/

/-- The pointer seated anew at the first live tile, with the mode as at power-on (R18, R67). -/
theorem pointerLaw_seatFirst {s : State} (desk : DeskOk s.tables)
    (position : s.glide.px ≤ 524287 ∧ s.glide.py ≤ 524287) : PointerLaw True (modeFromSeat (seatFirst s)) := by
  have mode : ∀ {t n u}, SeatedOn t n u → PointerLaw True (modeFromSeat u) := fun {t n u} seated => by
    unfold modeFromSeat
    rw [seated.seatOwner]
    dsimp only
    split
    next hf => exact seated.setMode True fun _ => hf
    next => exact seated.setMode True (by simp)
  unfold seatFirst
  split
  next hn =>
    have ok : PointerOk True (s.setGlide { s.glide with seat := none }) :=
      ⟨desk, position, fun _ _ he => (by cases he), fun _ _ he => (by cases he), fun _ _ => hn⟩
    have none : seatOwner (s.setGlide { s.glide with seat := none }) = none := rfl
    unfold modeFromSeat
    rw [none]
    exact setMode_law ok (by simp) fun _ _ => rfl
  next t ht =>
    obtain ⟨hm, n, hn⟩ := firstLive_some ht
    rw [hn]
    exact mode (seatedOn_centre desk hm hn)

/-- A focus record put in place moves no pointer. -/
theorem deskStill_focused (s : State) (v) : DeskStill s (syncMirror (s.setFocus v)) :=
  (deskStill_of_eq rfl rfl rfl : DeskStill s (s.setFocus v)).trans (served_syncMirror _).deskStill

/-- The state of a desk reset before the pointer is seated (R42). -/
def deskUnseated (s : State) : State :=
  let s1 := releaseAllBeliefs s
  let s2 := syncMirror (s1.setFocus { s1.focus with
    broadcast := Vector.replicate 8 false
    focus := initialFocus s1.tables
    previous := none
    rx := 0
    ry := 0 })
  s2.setGlide { s2.glide with remembered := Vector.replicate 8 none }

theorem focusAtDeskReset_eq (s : State) :
    focusAtDeskReset s = raise .focus (considerPosition (modeFromSeat (seatFirst (deskUnseated s)))) := rfl

theorem deskStill_deskUnseated (s : State) : DeskStill s (deskUnseated s) := by
  have forgotten : ∀ u : State, DeskStill u (u.setGlide { u.glide with remembered := Vector.replicate 8 none }) := fun u =>
    ⟨rfl, fun _ => rfl, fun _ => rfl, fun _ => rfl, fun _ => rfl, rfl, rfl, rfl⟩
  exact (served_releaseAllBeliefs s).deskStill.trans ((deskStill_focused _ _).trans (forgotten _))

theorem pointerLaw_focusAtDeskReset {s : State} (desk : DeskOk s.tables)
    (position : s.glide.px ≤ 524287 ∧ s.glide.py ≤ 524287) : PointerLaw True (focusAtDeskReset s) := by
  have still := deskStill_deskUnseated s
  have seated := pointerLaw_seatFirst (still.deskOk desk) (by rw [still.px, still.py]; exact position)
  rw [focusAtDeskReset_eq]
  exact (seated.served (served_considerPosition _)).served (served_raise _ _)

theorem closePeek_pointer (sc) (s : State) : (closePeek sc s).glide = s.glide ∧ (closePeek sc s).tables = s.tables :=
  ⟨rfl, rfl⟩

/-- The end of a peek at a desk reset moves no pointer (R92). -/
theorem endPeekQuiet_pointer (s : State) (sc) : (endPeekQuiet s sc).glide = s.glide ∧
    (endPeekQuiet s sc).tables = s.tables := by
  unfold endPeekQuiet
  split
  · exact ⟨rfl, rfl⟩
  next p _ =>
    obtain ⟨glide, tables⟩ := closePeek_pointer sc
      (if s.screens[sc].attached then s.modScreen sc (fun r => { r with pendingAssignment := some p.base })
       else putDisplayed sc p.base s)
    rw [glide, tables]
    split <;> exact ⟨rfl, rfl⟩

/-- The desk, and the pointer on it: what stays while a desk reset ends the peeks. -/
def OnDesk (s : State) : Prop :=
  DeskOk s.tables ∧ s.glide.px ≤ 524287 ∧ s.glide.py ≤ 524287

theorem onDesk_endPeekQuiet (s : State) (sc) (h : OnDesk s) : OnDesk (endPeekQuiet s sc) := by
  obtain ⟨glide, tables⟩ := endPeekQuiet_pointer s sc
  unfold OnDesk
  rw [glide, tables]
  exact h

theorem pointerLaw_resetAlerts {s : State} (h : PointerLaw True s) : PointerLaw True (resetAlerts s) := by
  have k := foldl_keeps (P := PointerLaw True) (f := freshQuiet)
    (fun v n hv => pointerLaw_setAlerts _ (pointerLaw_setAlerts _ hv)) computers
    (pointerLaw_setAlerts { s.alerts with list := [], rotation := computers } h)
  unfold resetAlerts
  dsimp only
  split
  · exact k
  · exact k.served (served_raise _ _)

theorem onDesk_endPeeks (l : List ScreenNo) {s : State} (h : OnDesk s) : OnDesk (l.foldl endPeekQuiet s) :=
  foldl_keeps (P := OnDesk) (f := endPeekQuiet) onDesk_endPeekQuiet l h

theorem pointerLaw_reseats (l : List ScreenNo) {s : State} (h : PointerLaw True s) :
    PointerLaw True (l.foldl (fun u _ => reseat u) s) :=
  foldl_keeps (P := PointerLaw True) (f := fun u _ => reseat u) (fun _ _ hu => pointerLaw_reseat hu.ready) l h

theorem pointerLaw_deskReset {s : State} (h : PointerLaw True s) : PointerLaw True (deskReset s) := by
  have cleared : PointerLaw True (clearMatcher (endTypeout .cancelledFocus s)) :=
    h.served ((served_endTypeout .cancelledFocus s).trans (served_setMatcher _ ⟨false, none, none⟩))
  have onDesk := onDesk_endPeeks screenNos (s := clearMatcher (endTypeout .cancelledFocus s))
    ⟨cleared.desk, cleared.position⟩
  have alerts := pointerLaw_resetAlerts
    (pointerLaw_reseats (quietScreens s) (pointerLaw_focusAtDeskReset onDesk.1 onDesk.2))
  unfold deskReset
  exact pointerLaw_recomputeFrames ((alerts.served (served_setPorts _ _)).served (served_setWakeAll _ _))

/-! ### Every step -/

theorem pointerLaw_focusFound (found) {s : State} (h : PointerLaw True s) : PointerLaw True (focusFound found s) := by
  unfold focusFound
  split
  · exact h
  · exact pointerLaw_focusChange _ h

theorem pointerLaw_focusUnlessParked (c : Computer) {s : State} (h : PointerLaw True s) :
    PointerLaw True (if s.tables.computer[c].parked then s else focusChange (some c) s) := by
  split
  · exact h
  · exact pointerLaw_focusChange _ h

theorem pointerLaw_rotateTo (c) {s : State} (h : PointerLaw True s) : PointerLaw True (rotateTo c s) := by
  unfold rotateTo
  split
  · exact pointerLaw_setAlerts _ h
  · exact h

theorem pointerLaw_setLockRecord (l) {s : State} (h : PointerLaw True s) : PointerLaw True (setLockRecord l s) :=
  h.still ((deskStill_of_eq rfl rfl rfl : DeskStill s (s.setLock l)).trans (deskStill_syncBlanked _)) rfl rfl

theorem pointerLaw_endAllPeeks {s : State} (h : PointerLaw True s) : PointerLaw True (endAllPeeks s) :=
  foldl_keeps (P := PointerLaw True) (fun _ sc hu => pointerLaw_endPeek sc hu) screenNos h

theorem pointerLaw_clearRemainder {s : State} (h : PointerLaw True s) : PointerLaw True (clearRemainder s) :=
  h.still (deskStill_of_eq rfl rfl rfl) rfl rfl

theorem pointerLaw_focusAtLock {s : State} (h : PointerLaw True s) : PointerLaw True (focusAtLock s) := by
  unfold focusAtLock
  exact pointerLaw_clearRemainder (h.served (served_releaseAllBeliefs s))

theorem pointerLaw_clearMatcher {s : State} (h : PointerLaw True s) : PointerLaw True (clearMatcher s) :=
  h.served (served_setMatcher s ⟨false, none, none⟩)

theorem pointerLaw_lockConsole {s : State} (h : PointerLaw True s) : PointerLaw True (lockConsole s) := by
  have cancelled := (pointerLaw_setLockRecord ⟨.locked, 0, 0, none⟩ h).served (served_endTypeout .cancelledLock _)
  unfold lockConsole
  exact (pointerLaw_focusAtLock (pointerLaw_endAllPeeks (pointerLaw_clearMatcher cancelled))).served (served_raise _ _)

theorem pointerLaw_actBroadcastClear {s : State} (h : PointerLaw True s) : PointerLaw True (actBroadcastClear s) := by
  unfold actBroadcastClear
  exact foldl_keeps (P := PointerLaw True) (fun _ n hu => pointerLaw_removeBroadcast n hu) computers h

theorem pointerLaw_presetScreen (old p) (s : State) (sc) (h : PointerLaw True s) :
    PointerLaw True (presetScreen old p s sc) := by
  unfold presetScreen
  split
  · exact h
  · exact pointerLaw_setRequested _ _ h

theorem pointerLaw_actPreset (n) {s : State} (h : PointerLaw True s) : PointerLaw True (actPreset n s) := by
  unfold actPreset
  dsimp only
  split
  · exact h
  next p _ =>
    split
    · exact h
    · have changed : PointerLaw True (changeTables { s.tables with
          assignment := Vector.ofFn (presetEntry s.tables p) } s) :=
        pointerLaw_changeTables h rfl (fun _ => rfl) fun _ => rfl
      exact foldl_keeps (P := PointerLaw True) (pointerLaw_presetScreen s.tables p) screenNos changed

theorem pointerLaw_runAction (a : Action) (x y : Nat) {s : State} (h : PointerLaw True s) :
    PointerLaw True (runAction a x y s) := by
  cases a with
  | nothing => exact h
  | focus =>
    unfold runAction actFocus
    dsimp only
    split
    · exact h
    · exact pointerLaw_focusUnlessParked _ h
  | focusNext => exact pointerLaw_focusFound _ h
  | focusPrev => exact pointerLaw_focusFound _ h
  | focusBack =>
    unfold runAction actFocusBack
    dsimp only
    split
    · exact h
    · exact pointerLaw_focusUnlessParked _ h
  | broadcastToggle =>
    unfold runAction actBroadcastToggle
    dsimp only
    split
    · exact h
    · split
      · exact pointerLaw_removeBroadcast _ h
      · split
        · exact h
        · exact pointerLaw_setBroadcast _ _ h
  | broadcastClear => exact pointerLaw_actBroadcastClear h
  | showChannel =>
    unfold runAction actShow
    dsimp only
    split
    · split
      · exact h
      · refine pointerLaw_setRequested _ _ ?_
        exact pointerLaw_changeTables h rfl (fun _ => rfl) fun _ => rfl
    · exact h
  | peek => exact pointerLaw_actPeek x y h
  | preset => exact pointerLaw_actPreset x h
  | parkToggle => exact pointerLaw_actParkToggle x h
  | wake => exact h.served (served_actWake x s)
  | wakeAll => exact h.served (served_actWakeAll s)
  | lock =>
    unfold runAction actLock
    dsimp only
    split
    · exact pointerLaw_lockConsole h
    · exact h
  | typeText => exact h.served (served_actTypeText s)
  | goAlert =>
    unfold runAction actGoAlert
    dsimp only
    split
    · exact h
    · unfold goToAlert
      split
      · exact pointerLaw_setAlertList _ (pointerLaw_rotateTo _ h)
      · exact pointerLaw_focusChange _ (pointerLaw_rotateTo _ h)
  | command => exact h.served (served_actCommand s)

theorem pointerLaw_keptByBlocks : KeptByBlocks (PointerLaw True) where
  served k h := h.served k
  elapse d _ h := h.still (deskStill_elapse d _) rfl rfl
  setLock _ _ h := h.still (deskStill_of_eq rfl rfl rfl) rfl rfl
  syncBlanked h := h.still (deskStill_syncBlanked _) rfl rfl
  setChannel c r s h := by
    unfold setChannel
    dsimp only
    split <;> exact h.still (deskStill_of_eq rfl rfl rfl) rfl rfl
  takeIndicatorReport _ _ h := pointerLaw_setAlertList _ (pointerLaw_setAlerts _ h)
  alertLinkLost _ _ h := pointerLaw_setAlertList _ (pointerLaw_setAlerts _ h)
  raiseAlert _ _ h := pointerLaw_setAlertList _ h
  dropAlert _ _ h := pointerLaw_setAlertList _ h
  focusMark := pointerLaw_focusMark
  motionItem dx dy wheel c _ := pointerLaw_motionItem dx dy wheel c
  runAction a x y _ := pointerLaw_runAction a x y
  displayDetach sc _ := pointerLaw_doDisplayDetach sc
  displayAttach sc p _ := pointerLaw_doDisplayAttach sc p
  frameStart sc _ := pointerLaw_doFrameStart sc
  endPeek sc _ := pointerLaw_endPeek sc
  writeTable r w _ := pointerLaw_writeTable r w
  deskReset := pointerLaw_deskReset

/-- At power-on no display is attached, so no tile is live and the pointer is unseated (R67). -/
theorem pointerSafe_powerOn (tb src store pending) : PointerSafe (State.powerOn tb src store pending) where
  seated seat h := by cases h
  unseated _ := by
    refine ⟨(firstLive_eq_none_iff _).2 fun t _ => ?_, rfl⟩
    unfold liveOwner
    refine if_neg ?_
    simp [State.powerOn, Screen.powerOn]
  glide h := by cases h
  position := ⟨Nat.zero_le _, Nat.zero_le _⟩

/-- Settles O60, by a law that a re-seat makes good and every other operation keeps; between a change of the parked fields
and the re-seat it holds up to which tiles are live. -/
theorem stepKeepsPointer : Obligations.StepKeepsPointer := by
  unfold Obligations.StepKeepsPointer
  intro s t tables safe ht
  unfold step at ht
  split at ht
  next =>
    cases ht
    have law := (pointerLaw_iff s).2 ⟨tables.live.deskOk, safe⟩
    exact ((pointerLaw_iff _).1 (pointerLaw_keptByBlocks.elapse 1 law)).2
  next c rest _ =>
    have law : PointerLaw True (s.setPending rest) :=
      ((pointerLaw_iff s).2 ⟨tables.live.deskOk, safe⟩).still (deskStill_of_eq rfl rfl rfl) rfl rfl
    by_cases hp : ∃ b, c = .powerOnReset b
    · obtain ⟨b, rfl⟩ := hp
      cases ht
      obtain ⟨tb, src, e⟩ := doPowerOn_eq b (s.setPending rest)
      rw [e]
      exact pointerSafe_powerOn _ _ _ _
    · exact ((pointerLaw_iff _).1 (pointerLaw_keptByBlocks.exec c law (fun b hb => absurd ⟨b, hb⟩ hp) ht)).2

end Sys2Proof.Machine
end


section
/-! ## FOCUS_NEXT, FOCUS_PREV and FOCUS_BACK -/

namespace Sys2Proof.Machine

/-- In a list that ascends by a rank, the search finds the member of least rank that the test accepts. -/
theorem find?_leastRank {α : Type} {rank : α → Nat} {p : α → Bool} {l : List α} {a : α}
    (sorted : l.Pairwise fun x y => rank x < rank y) (ha : a ∈ l) (hp : p a = true)
    (least : ∀ x ∈ l, p x = true → rank a ≤ rank x) : l.find? p = some a := by
  induction l with
  | nil => cases ha
  | cons b l ih =>
    obtain ⟨below, sorted⟩ := List.pairwise_cons.1 sorted
    rcases List.mem_cons.1 ha with rfl | ha
    · exact List.find?_cons_of_pos hp
    · have hb : ¬ p b = true := fun hb =>
        absurd (least b (List.mem_cons_self ..) hb) (Nat.not_le.2 (below a ha))
      rw [List.find?_cons_of_neg hb]
      exact ih sorted ha fun x hx => least x (List.mem_cons_of_mem _ hx)

theorem after_ascends : ∀ f : Computer, (after f).Pairwise fun x y => ahead f x < ahead f y := by decide

theorem after_reverse_ascends : ∀ f : Computer, (after f).reverse.Pairwise fun x y => ahead x f < ahead y f := by decide

theorem mem_after_iff : ∀ f m : Computer, m ∈ after f ↔ m ≠ f := by decide

theorem mem_computers : ∀ m : Computer, m ∈ computers := by decide

theorem computers_ascend : computers.Pairwise fun x y => x.val < y.val := by decide

theorem computers_reverse_ascend : computers.reverse.Pairwise fun x y => 8 - x.val < 8 - y.val := by decide

theorem reachable_iff (s : State) (n : Computer) : reachable s n = true ↔ eligible s n := by
  simp [reachable, eligible]

theorem nextOrder_from {s : State} {f n : Computer} (hf : s.focus.focus = some f) (hn : n ≠ f) (he : eligible s n)
    (least : ∀ m : Computer, m ≠ f → eligible s m → ahead f n ≤ ahead f m) :
    (nextOrder s.focus.focus).find? (reachable s) = some n := by
  rw [hf]
  exact find?_leastRank (after_ascends f) ((mem_after_iff f n).2 hn) ((reachable_iff s n).2 he)
    fun m hm hr => least m ((mem_after_iff f m).1 hm) ((reachable_iff s m).1 hr)

theorem prevOrder_from {s : State} {f n : Computer} (hf : s.focus.focus = some f) (hn : n ≠ f) (he : eligible s n)
    (least : ∀ m : Computer, m ≠ f → eligible s m → ahead n f ≤ ahead m f) :
    (prevOrder s.focus.focus).find? (reachable s) = some n := by
  rw [hf]
  exact find?_leastRank (rank := fun m => ahead m f) (after_reverse_ascends f)
    (List.mem_reverse.2 ((mem_after_iff f n).2 hn)) ((reachable_iff s n).2 he)
    fun m hm hr => least m ((mem_after_iff f m).1 (List.mem_reverse.1 hm)) ((reachable_iff s m).1 hr)

theorem nextOrder_unfocused {s : State} {n : Computer} (hf : s.focus.focus = none) (he : eligible s n)
    (least : ∀ m : Computer, eligible s m → n ≤ m) : (nextOrder s.focus.focus).find? (reachable s) = some n := by
  rw [hf]
  exact find?_leastRank (rank := fun m : Computer => m.val) computers_ascend (mem_computers n) ((reachable_iff s n).2 he)
    fun m _ hr => least m ((reachable_iff s m).1 hr)

theorem prevOrder_unfocused {s : State} {n : Computer} (hf : s.focus.focus = none) (he : eligible s n)
    (most : ∀ m : Computer, eligible s m → m ≤ n) : (prevOrder s.focus.focus).find? (reachable s) = some n := by
  rw [hf]
  exact find?_leastRank (rank := fun m : Computer => 8 - m.val) computers_reverse_ascend
    (List.mem_reverse.2 (mem_computers n)) ((reachable_iff s n).2 he)
    fun m _ hr => Nat.sub_le_sub_left (most m ((reachable_iff s m).1 hr)) 8

theorem mem_nextOrder {f : Option Computer} {m : Computer} (h : m ∈ nextOrder f) : f ≠ some m := by
  cases f with
  | none => exact (Option.some_ne_none m).symm
  | some f =>
    rintro ⟨⟩
    exact (mem_after_iff m m).1 h rfl

theorem mem_prevOrder {f : Option Computer} {m : Computer} (h : m ∈ prevOrder f) : f ≠ some m := by
  cases f with
  | none => exact (Option.some_ne_none m).symm
  | some f =>
    rintro ⟨⟩
    exact (mem_after_iff m m).1 (List.mem_reverse.1 h) rfl

theorem ofNum_num (n : Computer) : ofNum 8 (num n) = some n := by
  have := n.isLt
  simp [ofNum, num]

/-- FOCUS n for a computer that is not parked is a focus change. -/
theorem actFocus_unparked {n : Computer} {s : State} (hp : s.tables.computer[n].parked = false) :
    actFocus (num n) s = focusChange (some n) s := by
  unfold actFocus
  rw [ofNum_num]
  exact if_neg (by simpa using hp)

theorem focusFound_some {n : Computer} {found : Option Computer} (h : found = some n) (s : State) :
    focusFound found s = focusChange (some n) s := by
  rw [h]
  rfl

theorem actFocusBack_some {n : Computer} {s : State} (h : s.focus.previous = some n) :
    actFocusBack s = actFocus (num n) s := by
  unfold actFocusBack actFocus
  rw [h, ofNum_num]

theorem byte_num (n : Computer) : (byte (num n)).toNat = num n :=
  byte_toNat (by have := n.isLt; unfold num; omega)

theorem exec_focus (a b : Byte) (s : State) : exec (.focus (.hotkey a b)) s = .next (actFocus a.toNat s) := rfl

theorem exec_focusNext (a b : Byte) (s : State) : exec (.focusNext (.hotkey a b)) s = .next (actFocusNext s) := rfl

theorem exec_focusPrev (a b : Byte) (s : State) : exec (.focusPrev (.hotkey a b)) s = .next (actFocusPrev s) := rfl

theorem exec_focusBack (a b : Byte) (s : State) : exec (.focusBack (.hotkey a b)) s = .next (actFocusBack s) := rfl

theorem exec_focus_num {n : Computer} {s : State} (he : eligible s n) (b : Byte) :
    exec (.focus (.hotkey (byte (num n)) b)) s = .next (focusChange (some n) s) := by
  rw [exec_focus, byte_num, actFocus_unparked he.1]

/-- Settles O34, by the search orders, which ascend by the places between the computers. -/
theorem focusStepsInPortOrder : Obligations.FocusStepsInPortOrder := by
  unfold Obligations.FocusStepsInPortOrder
  intro a b s
  have next : ∀ n : Computer, eligible s n → (nextOrder s.focus.focus).find? (reachable s) = some n →
      ∃ t, exec (.focus (.hotkey (byte (num n)) 0)) s = .next t ∧ exec (.focusNext (.hotkey a b)) s = .next t :=
    fun n he hn => ⟨_, exec_focus_num he 0, by rw [exec_focusNext, actFocusNext, focusFound_some hn]⟩
  have prev : ∀ n : Computer, eligible s n → (prevOrder s.focus.focus).find? (reachable s) = some n →
      ∃ t, exec (.focus (.hotkey (byte (num n)) 0)) s = .next t ∧ exec (.focusPrev (.hotkey a b)) s = .next t :=
    fun n he hn => ⟨_, exec_focus_num he 0, by rw [exec_focusPrev, actFocusPrev, focusFound_some hn]⟩
  refine ⟨fun n f hf hn he => ⟨fun least => next n he (nextOrder_from hf hn he least),
      fun least => prev n he (prevOrder_from hf hn he least)⟩,
    fun n hf he => ⟨fun least => next n he (nextOrder_unfocused hf he least),
      fun most => prev n he (prevOrder_unfocused hf he most)⟩,
    fun nobody => ?_, fun hp => ?_, fun n hp => ?_⟩
  · have hNext : (nextOrder s.focus.focus).find? (reachable s) = none :=
      List.find?_eq_none.2 fun m hm hr => nobody m (mem_nextOrder hm) ((reachable_iff s m).1 hr)
    have hPrev : (prevOrder s.focus.focus).find? (reachable s) = none :=
      List.find?_eq_none.2 fun m hm hr => nobody m (mem_prevOrder hm) ((reachable_iff s m).1 hr)
    rw [exec_focusNext, exec_focusPrev, actFocusNext, actFocusPrev, hNext, hPrev]
    exact ⟨rfl, rfl⟩
  · rw [exec_focusBack, actFocusBack, hp]
  · exact ⟨_, exec_focus _ _ s, by rw [exec_focusBack, actFocusBack_some hp, byte_num]⟩

end Sys2Proof.Machine
end


section
/-! ## Key presses and wake requests -/

namespace Sys2Proof.Machine

/-! ### The matcher -/

/-- The search of the hotkey table for an entry of a kind and a key. -/
theorem findEntry_isSome (tb : Tables) (kind : HotkeyKind) (k : Nat) : (findEntry tb kind k).isSome = true ↔
    ∃ i : Fin 32, tb.hotkey[i].enabled = true ∧ tb.hotkey[i].kind = kind ∧ tb.hotkey[i].key = k := by
  unfold findEntry
  rw [List.find?_isSome]
  constructor
  · rintro ⟨e, he, hp⟩
    obtain ⟨i, hi, rfl⟩ := List.mem_iff_getElem.1 he
    simp only [Bool.and_eq_true, decide_eq_true_eq] at hp
    exact ⟨⟨i, by simpa using hi⟩, by simpa [and_assoc] using hp⟩
  · rintro ⟨i, he, hk, hkey⟩
    exact ⟨tb.hotkey[i], by simp, by simp only [he, hk, hkey, decide_true, Bool.and_self]⟩

theorem findChord_notTaken {k : Nat} {s : State} (h : notTaken k s) :
    findChord s.tables (setInsert k s.console.deskKeys) k = none := by
  obtain ⟨-, noChord, -⟩ := h
  refine find?_none _ _ fun i => Bool.eq_false_of_not_eq_true fun hi => noChord i ?_
  simp only [Bool.and_eq_true, decide_eq_true_eq] at hi
  obtain ⟨⟨⟨he, hk⟩, hkey⟩, hm⟩ := hi
  exact ⟨he, hk, hkey, hm⟩

theorem secondTap_notTaken {k : Nat} {s : State} (h : notTaken k s) : secondTap k (keyEntered k s) = false := by
  obtain ⟨-, -, late⟩ := h
  show (match s.matcher.candidate with
    | none => false
    | some c => decide (c.key = k) && c.released && decide (s.now ≤ c.expiry)) = false
  split
  · rfl
  next c hc =>
    refine Bool.eq_false_of_not_eq_true fun hi => ?_
    simp only [Bool.and_eq_true, decide_eq_true_eq] at hi
    obtain ⟨⟨hk, hr⟩, hn⟩ := hi
    exact absurd (late c hc hk hr) (Nat.not_lt.2 hn)

theorem candidateOf_firstTap (k : Nat) (s : State) : candidateOf k (keyEntered k s) = firstTap k s := by
  have entry := findEntry_isSome s.tables .doubleTap k
  have tap : (findEntry (keyEntered k s).tables .doubleTap k).isSome = true ∧ (keyEntered k s).console.deskKeys = [k] ↔
      (∃ i : Fin 32, s.tables.hotkey[i].enabled = true ∧ s.tables.hotkey[i].kind = .doubleTap ∧
        s.tables.hotkey[i].key = k) ∧ setInsert k s.console.deskKeys = [k] := and_congr entry Iff.rfl
  by_cases h : (∃ i : Fin 32, s.tables.hotkey[i].enabled = true ∧ s.tables.hotkey[i].kind = .doubleTap ∧
      s.tables.hotkey[i].key = k) ∧ setInsert k s.console.deskKeys = [k]
  · rw [candidateOf, firstTap, if_pos h, if_pos (tap.2 h)]
    rfl
  · rw [candidateOf, firstTap, if_neg h, if_neg fun h' => h (tap.1 h')]

/-- A press that no hotkey takes is handed on to the focus controller (R98 to R100). -/
theorem lockKeyPress_notTaken {k : Nat} {s : State} (hl : s.lock.state = .unlocked) (h : notTaken k s) :
    lockKeyPress k (keyEntered k s) = handOnPress k (setCandidate (firstTap k s) (keyEntered k s)) := by
  have hc : (keyEntered k s).matcher.commandMode = false := h.1
  have chord : findChord (keyEntered k s).tables (keyEntered k s).console.deskKeys k = none := findChord_notTaken h
  have e : lockKeyPress k (keyEntered k s) = matcherPress k (keyEntered k s) := by
    unfold lockKeyPress
    rw [show (keyEntered k s).lock.state = .unlocked from hl]
  rw [e, matcherPress, hc, if_neg Bool.false_ne_true, chord, ← candidateOf_firstTap]
  dsimp only
  rw [secondTap_notTaken h, if_neg Bool.false_ne_true]

theorem noHotkey.notTaken {k : Nat} {s : State} (h : noHotkey k s) : notTaken k s := by
  obtain ⟨mode, follower, noCandidate⟩ := h
  refine ⟨mode, fun i ⟨he, hk, hkey, _⟩ => ?_, fun c hc hk => absurd hk (noCandidate c hc)⟩
  cases hk.symm.trans (follower i he hkey)

theorem noHotkey.firstTap {k : Nat} {s : State} (h : noHotkey k s) : firstTap k s = none := by
  obtain ⟨-, follower, -⟩ := h
  refine if_neg fun ⟨⟨i, he, hk, hkey⟩, _⟩ => ?_
  cases hk.symm.trans (follower i he hkey)

/-! ### Wake requests -/

theorem ofNum_eq_some {k : Nat} {n : Computer} (h : num n = k) : ofNum 8 k = some n := h ▸ ofNum_num n

theorem ofNum_eq_none {k : Nat} (h : ∀ n : Computer, num n ≠ k) : ofNum 8 k = none := by
  unfold ofNum
  refine dif_neg fun hk => h ⟨k - 1, by omega⟩ ?_
  show k - 1 + 1 = k
  omega

theorem byte_eq_zero_iff (a : Byte) : a = 0 ↔ a.toNat = 0 := by
  constructor
  · rintro rfl
    rfl
  · exact fun h => BitVec.eq_of_toNat_eq h

theorem exec_wake (a b : Byte) (s : State) : exec (.wake (.hotkey a b)) s = .next (actWake a.toNat s) := rfl

theorem actWake_nobody {k : Nat} {s : State} (h : ∀ n : Computer, num n ≠ k) (h0 : k = 0 → s.focus.focus = none) :
    actWake k s = s := by
  unfold actWake
  split
  next hk => rw [h0 hk]
  next => rw [ofNum_eq_none h]

theorem actWake_for {k : Nat} {s : State} {n : Computer} (h : num n = k ∨ (k = 0 ∧ s.focus.focus = some n)) :
    actWake k s = wakeRequest n s := by
  unfold actWake
  rcases h with h | ⟨hk, hf⟩
  · rw [if_neg (by rw [← h]; exact Nat.succ_ne_zero _), ofNum_eq_some h]
  · rw [if_pos hk, hf]

theorem wakeAllowed_iff (n : Computer) (s : State) : wakeAllowed n s = true ↔
    s.ports[n].remoteWake = true ∧ s.tables.computer[n].wakePermitted = true := Bool.and_eq_true _ _ ▸ Iff.rfl

theorem wakeRequest_awake {n : Computer} {s : State} (h : s.ports[n].link ≠ .suspended) : wakeRequest n s = s :=
  if_neg h

theorem wakeRequest_allowed {n : Computer} {s : State} (h : s.ports[n].link = .suspended) (ha : wakeAllowed n s = true) :
    wakeRequest n s = if s.ports[n].deferred then s
      else if s.ports[n].settle.isSome then s.modPort n (fun p => { p with deferred := true })
      else startWake n s := by
  unfold wakeRequest
  rw [if_pos h, if_pos ha]

theorem wakeRequest_refused {n : Computer} {s : State} (h : s.ports[n].link = .suspended)
    (ha : ¬ wakeAllowed n s = true) : wakeRequest n s = refuseWake n s := by
  unfold wakeRequest
  rw [if_pos h, if_neg ha]

theorem refuseWake_eq (p : Port) : p.refuseWake =
    { p with
      lastWake := .refused
      deferred := false
      pendingKeys := []
      held := p.held.map fun r => { r with buttons := [] } } := by
  unfold Port.refuseWake Port.dropHeldButtons
  split
  next h => simp only [h, Option.map_none]
  next q h => simp only [h, Option.map_some]

theorem refuseWake_unwaited {n : Computer} {s : State}
    (h : s.typeout.sub ≠ some .waitingWake ∨ s.typeout.target ≠ some n) :
    refuseWake n s = raise .wake ((s.modPort n fun p =>
      { p with
        lastWake := .refused
        deferred := false
        pendingKeys := []
        held := p.held.map fun r => { r with buttons := [] } }).setBelief n ⟨[], []⟩) := by
  rw [show (fun p : Port => ({ p with
        lastWake := .refused
        deferred := false
        pendingKeys := []
        held := p.held.map fun r => { r with buttons := [] } } : Port)) = Port.refuseWake from
      funext fun p => (refuseWake_eq p).symm]
  exact if_neg fun ⟨h1, h2⟩ => h.elim (absurd h1) (absurd h2)

/-! ### Ports and their notifications -/

/-- The ports of `t` are those of `s` but for their notifications (R172). -/
def NoticesOnly (s t : State) : Prop :=
  ∀ m : Computer, t.ports[m] = { s.ports[m] with notification := t.ports[m].notification }

theorem noticesOnly_of_eq {s t : State} (h : t.ports = s.ports) : NoticesOnly s t := fun m => by rw [h]

theorem NoticesOnly.refl (s : State) : NoticesOnly s s := noticesOnly_of_eq rfl

theorem NoticesOnly.trans {s t u : State} (h : NoticesOnly s t) (k : NoticesOnly t u) : NoticesOnly s u := fun m => by
  have e := k m
  rw [h m] at e
  exact e

theorem NoticesOnly.link {s t : State} (h : NoticesOnly s t) (m : Computer) : t.ports[m].link = s.ports[m].link := by
  rw [h m]

theorem announce_eq (a b : EventSet) (g : Nat) (p : Port) :
    p.announce a b g = { p with notification := (p.announce a b g).notification } := by
  unfold Port.announce
  split <;> rfl

theorem noticesOnly_raise (e : EventKind) (s : State) : NoticesOnly s (raise e s) := fun m => by
  have h : (raise e s).ports[m] = s.ports[m].announce (s.mgmt.summaries[m] &&& s.mgmt.masks[m])
      (summaryAfter e s m &&& s.mgmt.masks[m]) s.mgmt.generation := by
    simp [raise]
  rw [h]
  exact announce_eq _ _ _ _

theorem State.modPort_port (s : State) (n : Computer) (f : Port → Port) : (s.modPort n f).ports[n] = f s.ports[n] :=
  State.modPort_ports_self s n f

theorem State.modPort_port_ne (s : State) {n m : Computer} (f : Port → Port) (h : n ≠ m) :
    (s.modPort n f).ports[m] = s.ports[m] := State.modPort_ports_ne s f h

theorem typeoutWakeLost_idle {n : Computer} {s : State} (h : s.typeout.state ≠ .typing) : typeoutWakeLost n s = s := by
  unfold typeoutWakeLost
  split
  · exact endTypeout_idle h
  · rfl

theorem refuseWake_idle {n : Computer} {s : State} (h : s.typeout.state ≠ .typing) :
    refuseWake n s = raise .wake (clearBelief n (s.modPort n Port.refuseWake)) :=
  typeoutWakeLost_idle (s := raise .wake (clearBelief n (s.modPort n Port.refuseWake))) h

/-- After a wake request for a port that is not READY the port is not READY. -/
theorem wakeRequest_not_ready {n : Computer} {s : State} (h : s.ports[n].link ≠ .ready)
    (ht : s.typeout.state ≠ .typing) : (wakeRequest n s).ports[n].link ≠ .ready := by
  by_cases hs : s.ports[n].link = .suspended
  · by_cases ha : wakeAllowed n s = true
    · rw [wakeRequest_allowed hs ha]
      split
      · exact h
      · split
        · rw [State.modPort_port]
          exact h
        · rw [startWake, (noticesOnly_raise _ _).link, State.modPort_port]
          exact LinkState.noConfusion
    · have link : (clearBelief n (s.modPort n Port.refuseWake)).ports[n].link = s.ports[n].link := by
        show (s.modPort n Port.refuseWake).ports[n].link = _
        rw [State.modPort_port, refuseWake_eq]
      rw [wakeRequest_refused hs ha, refuseWake_idle ht, (noticesOnly_raise _ _).link, link]
      exact h
  · rw [wakeRequest_awake hs]
    exact h

/-! ### A press for a focus computer that is not READY -/

/-- Where nobody but the focus computer is in the broadcast set, the broadcast members receive nothing. -/
theorem pressForMembers_nobody (k : Nat) (l : List Computer) {s : State}
    (h : ∀ m : Computer, s.focus.broadcast[m] = true → s.focus.focus = some m) :
    l.foldl (pressForMember k) s = s := by
  induction l with
  | nil => rfl
  | cons m l ih =>
    have stays : pressForMember k s m = s := if_neg fun e => e.2 (h m e.1)
    rw [List.foldl_cons, stays, ih]

theorem focusKeyPress_alone {k : Nat} {f : Computer} {s : State} (hf : s.focus.focus = some f)
    (alone : ∀ m : Computer, m ≠ f → s.focus.broadcast[m] = false) :
    focusKeyPress k s = deliverPress f true k (wakeOnInput f s) := by
  have kept : Served s (deliverPress f true k (wakeOnInput f s)) :=
    (served_wakeOnInput f s).trans (served_deliverPress f true k _)
  have focus : pressForFocus k s = deliverPress f true k (wakeOnInput f s) := by
    unfold pressForFocus
    rw [hf]
  unfold focusKeyPress
  rw [focus]
  refine pressForMembers_nobody k computers fun m hm => ?_
  rw [kept.broadcast] at hm
  rw [kept.focused, hf]
  refine congrArg some (Decidable.byContradiction fun hne => ?_)
  rw [alone m (Ne.symm hne)] at hm
  cases hm

theorem queuesKeys_iff (p : Port) : p.queuesKeys = true ↔ p.link = .waking ∨ (p.link = .suspended ∧ p.deferred = true) := by
  simp [Port.queuesKeys]

theorem pressFits_iff (p : Port) : p.pressFits = true ↔ p.pendingKeys.length + unreleased p.pendingKeys + 1 ≤ 32 := by
  simp [Port.pressFits, Config.pendingQueueMax]

theorem deliverPress_idle {n : Computer} {b : Bool} {k : Nat} {s : State} (hr : s.ports[n].link ≠ .ready)
    (h : ¬ s.ports[n].queuesKeys = true ∨ k ∈ s.focus.beliefs[n].keys) : deliverPress n b k s = s := by
  by_cases hk : k ∈ s.focus.beliefs[n].keys
  · exact if_pos hk
  · refine (if_neg hk).trans ((if_neg hr).trans (if_neg fun e => ?_))
    exact h.elim (absurd (Bool.and_eq_true _ _ ▸ e : _ ∧ _).2) hk

theorem deliverPress_queued {n : Computer} {k : Nat} {s : State} (hr : s.ports[n].link ≠ .ready)
    (hq : s.ports[n].queuesKeys = true) (hk : k ∉ s.focus.beliefs[n].keys) : deliverPress n true k s = queuePress n k s := by
  unfold deliverPress
  rw [if_neg hk, if_neg hr, hq]
  rfl

theorem wakeOnInput_not_ready {n : Computer} {s : State} (h : s.ports[n].link ≠ .ready)
    (ht : s.typeout.state ≠ .typing) : (wakeOnInput n s).ports[n].link ≠ .ready := by
  unfold wakeOnInput
  split
  · exact wakeRequest_not_ready h ht
  · exact h

/-- Settles O44: the branches of a wake request, and a press for the focus computer alone. -/
theorem wakeRequestsAreTaken : Obligations.WakeRequestsAreTaken := by
  unfold Obligations.WakeRequestsAreTaken
  refine ⟨fun a b s => ⟨fun nobody h0 => ?_, fun n hn => ?_⟩, fun c r k n s f press hl ht hk hf hr alone => ?_⟩
  · rw [exec_wake, actWake_nobody nobody fun h => h0 ((byte_eq_zero_iff a).2 h)]
  · have wakes : exec (.wake (.hotkey a b)) s = .next (wakeRequest n s) := by
      rw [exec_wake, actWake_for (hn.imp_right fun h => ⟨(byte_eq_zero_iff a).1 h.1, h.2⟩)]
    rw [wakes]
    refine ⟨fun hs => by rw [wakeRequest_awake hs], fun hs allowed => ?_, fun hs refused waits => ?_⟩
    · rw [wakeRequest_allowed hs ((wakeAllowed_iff n s).2 allowed)]
      refine ⟨fun hd => by rw [if_pos hd], fun hd hw => ?_, fun hd hw => ?_⟩
      · rw [hd, if_neg Bool.false_ne_true, if_pos hw]
      · rw [hd, if_neg Bool.false_ne_true, hw, if_neg (by decide)]
        rfl
    · rw [wakeRequest_refused hs fun h => refused ((wakeAllowed_iff n s).1 h), refuseWake_unwaited waits]
  · have entered : lockKeyPress k (keyEntered k s) = focusKeyPress k (setCandidate none (keyEntered k s)) := by
      rw [lockKeyPress_notTaken hl hk.notTaken, hk.firstTap, handOnPress,
        endTypeout_idle (s := setCandidate none (keyEntered k s)) ht]
    have delivered : exec (.keyboardReport c r) s = .next (keySetTaken c n
        (deliverPress f true k (wakeOnInput f (setCandidate none (keyEntered k s))))) := by
      rw [exec_pressAlone press, entered, focusKeyPress_alone (s := setCandidate none (keyEntered k s)) hf alone]
    refine ⟨wakeOnInput f (setCandidate none (keyEntered k s)), fun asks => ?_, fun calm => if_neg calm, ?_⟩
    · have wakes : wakeOnInput f (setCandidate none (keyEntered k s)) =
          wakeRequest f (setCandidate none (keyEntered k s)) := if_pos asks
      rw [wakes, ← actWake_for (k := 0) (s := setCandidate none (keyEntered k s)) (.inr ⟨rfl, hf⟩)]
      rfl
    · have awake := wakeOnInput_not_ready (s := setCandidate none (keyEntered k s)) (n := f) hr ht
      generalize wakeOnInput f (setCandidate none (keyEntered k s)) = u at delivered awake
      refine ⟨fun h => ?_, fun queues hk fits => ?_, fun queues hk full => ?_⟩
      · rw [delivered, deliverPress_idle awake (h.imp_left fun h => fun hq => h ((queuesKeys_iff _).1 hq))]
      · rw [delivered, deliverPress_queued awake ((queuesKeys_iff _).2 queues) hk, queuePress,
          if_pos ((pressFits_iff _).2 fits)]
        rfl
      · rw [delivered, deliverPress_queued awake ((queuesKeys_iff _).2 queues) hk, queuePress,
          if_neg fun h => full ((pressFits_iff _).1 h)]
        rfl

end Sys2Proof.Machine
end


section
/-! ## What is announced, and what ports and screens keep -/

namespace Sys2Proof.Machine

/-! ### Announcements stay (R171) -/

/-- Every summary of `s` is contained in that of `t`, and the managers are the same computers (R171). -/
structure Heard (s t : State) : Prop where
  managers : ∀ n : Computer, t.tables.computer[n].manager = s.tables.computer[n].manager
  grows : ∀ n : Computer, s.mgmt.summaries[n] ||| t.mgmt.summaries[n] = t.mgmt.summaries[n]

theorem heard_of_eq {s t : State} (ht : t.tables = s.tables) (hm : t.mgmt.summaries = s.mgmt.summaries) : Heard s t :=
  ⟨fun n => by rw [ht], fun n => by rw [hm]; exact BitVec.or_self⟩

theorem Heard.refl (s : State) : Heard s s := heard_of_eq rfl rfl

theorem Heard.trans {s t u : State} (h : Heard s t) (k : Heard t u) : Heard s u :=
  ⟨fun n => (k.managers n).trans (h.managers n), fun n => by
    rw [← k.grows n, ← h.grows n, ← BitVec.or_assoc, ← BitVec.or_assoc, BitVec.or_self]⟩

theorem raise_summaries (e : EventKind) (s : State) (n : Computer) :
    (raise e s).mgmt.summaries[n] = summaryAfter e s n := by
  simp [raise]

theorem heard_raise (e : EventKind) (s : State) : Heard s (raise e s) :=
  ⟨fun _ => rfl, fun n => by
    rw [raise_summaries, summaryAfter]
    split
    · rw [← BitVec.or_assoc, BitVec.or_self]
    · exact BitVec.or_self⟩

theorem announced_raise (e : EventKind) (s : State) : announced e (raise e s) := fun n hn => by
  have hn' : s.tables.computer[n].manager = true := hn
  rw [raise_summaries, summaryAfter, if_pos hn']
  ext i hi
  simpa using fun h => .inr h

/-- What was announced stays in the summaries. -/
theorem Heard.announced {e : EventKind} {s t : State} (h : Heard s t) (hs : announced e s) : announced e t := fun n hn => by
  have hn' : s.tables.computer[n].manager = true := (h.managers n).symm.trans hn
  rw [← h.grows n]
  have bits := hs n hn'
  ext i hi
  have bit := congrArg (fun v => v.getLsbD i) bits
  simp only [BitVec.getLsbD_and] at bit
  rw [BitVec.getElem_and, BitVec.getElem_or, Bool.and_or_distrib_right]
  simp only [← BitVec.getLsbD_eq_getElem, bit]
  exact Bool.or_eq_left_iff_imp.2 fun h => (Bool.and_eq_true _ _ ▸ h : _ ∧ _).2

theorem heard_foldl {α : Type} {f : State → α → State} (hf : ∀ s a, Heard s (f s a)) (l : List α) (s : State) :
    Heard s (l.foldl f s) := by
  induction l generalizing s with
  | nil => exact .refl s
  | cons a l ih => exact (hf s a).trans (ih _)

theorem heard_setAlertList (l) (s : State) : Heard s (setAlertList l s) := by
  unfold setAlertList
  split
  · exact .refl s
  · exact ⟨fun _ => rfl, (heard_raise .alert (s.setAlerts { s.alerts with list := l })).grows⟩

theorem heard_syncMirror (s : State) : Heard s (syncMirror s) := by
  obtain ⟨-, -, mgmt, -, -, -, -, tables⟩ := syncMirror_keeps s
  exact heard_of_eq tables (by rw [mgmt])

theorem heard_releaseTyped (n c) (s : State) : Heard s (releaseTyped n c s) := by
  unfold releaseTyped
  dsimp only
  split
  · exact .refl s
  · exact heard_of_eq rfl rfl

theorem heard_releaseIfPressed (s : State) : Heard s (releaseIfPressed s) := by
  unfold releaseIfPressed
  split
  · split
    · exact heard_releaseTyped _ _ s
    · exact .refl s
  · exact .refl s

theorem heard_endTypeout (e) (s : State) : Heard s (endTypeout e s) := by
  unfold endTypeout
  split
  · refine (heard_releaseIfPressed s).trans (Heard.trans ?_ (heard_raise .typeout _))
    exact heard_of_eq rfl rfl
  · exact .refl s

/-! ### A port that is not READY takes no notification (R172) -/

theorem raise_port_quiet {e : EventKind} {s : State} {n : Computer} (h : s.ports[n].link ≠ .ready) :
    (raise e s).ports[n] = s.ports[n] := by
  have announce : (raise e s).ports[n] = s.ports[n].announce (s.mgmt.summaries[n] &&& s.mgmt.masks[n])
      (summaryAfter e s n &&& s.mgmt.masks[n]) s.mgmt.generation := by
    simp [raise]
  rw [announce]
  exact if_neg fun k => h k.2.2

/-! ### Ends of type-outs (R130) -/

/-- The end of a type-out whose target believes nothing held tells no computer anything. -/
theorem endTypeout_told_nothing {e : TypeEnd} {s : State} {n : Computer} (ht : s.typeout.target = some n)
    (hb : s.focus.beliefs[n].keys = []) (hs : s.typeout.state = .typing) :
    endTypeout e s = raise .typeout (s.setTypeout (s.typeout.ended e)) := by
  have same : releaseIfPressed s = s := by
    unfold releaseIfPressed
    rw [ht]
    split
    next _ _ hn _ =>
      cases hn
      split
      · exact if_pos (by rw [hb]; rfl)
      · rfl
    next => rfl
  unfold endTypeout
  rw [if_pos hs, same]

/-! ### A lost link (R133, R138, R144) -/

/-- What the blocks that hear of a lost link of `n` leave alone: the port, the focus record and the pointer. -/
structure Passed (n : Computer) (s t : State) : Prop where
  port : t.ports[n] = s.ports[n]
  focus : t.focus = s.focus
  glide : t.glide = s.glide
  heard : Heard s t
  screens : screensKept s t

theorem Passed.trans {n : Computer} {s t u : State} (h : Passed n s t) (k : Passed n t u) : Passed n s u :=
  ⟨k.port.trans h.port, k.focus.trans h.focus, k.glide.trans h.glide, h.heard.trans k.heard, fun sc => by
    obtain ⟨a1, a2, a3, a4, a5, a6, a7⟩ := h.screens sc
    obtain ⟨b1, b2, b3, b4, b5, b6, b7⟩ := k.screens sc
    exact ⟨b1.trans a1, b2.trans a2, b3.trans a3, b4.trans a4, b5.trans a5, b6.trans a6, b7.trans a7⟩⟩

theorem Passed.refl (n : Computer) (s : State) : Passed n s s := ⟨rfl, rfl, rfl, .refl s, screensKept_refl s⟩

theorem passed_raise {n : Computer} (e) {s : State} (h : s.ports[n].link ≠ .ready) : Passed n s (raise e s) :=
  ⟨raise_port_quiet h, rfl, rfl, heard_raise e s, screensKept_refl s⟩

theorem passed_setAlertList {n : Computer} (l) {s : State} (h : s.ports[n].link ≠ .ready) :
    Passed n s (setAlertList l s) := by
  have sets := setAlertList_sets l s
  refine ⟨?_, sets.focus, sets.glide, heard_setAlertList l s, sets.screens⟩
  unfold setAlertList
  split
  · rfl
  · exact raise_port_quiet (s := s.setAlerts { s.alerts with list := l }) h

theorem passed_alertLinkLost {n : Computer} {s : State} (h : s.ports[n].link ≠ .ready) : Passed n s (alertLinkLost n s) :=
  Passed.trans (t := setSource n ⟨false, false⟩ s) ⟨rfl, rfl, rfl, heard_of_eq rfl rfl, screensKept_refl s⟩
    (passed_setAlertList _ h)

theorem passed_syncMirror (n : Computer) (s : State) : Passed n s (syncMirror s) := by
  obtain ⟨ports, -, -, focus, glide, -, screens, -⟩ := syncMirror_keeps s
  refine ⟨by rw [ports], focus, glide, heard_syncMirror s, fun sc => ?_⟩
  rw [screens]
  exact screensKept_refl s sc

theorem passed_typeoutLinkLost {n : Computer} {s : State} (h : s.ports[n].link ≠ .ready)
    (hb : s.focus.beliefs[n].keys = []) : Passed n s (typeoutLinkLost n s) := by
  unfold typeoutLinkLost
  split
  next ht =>
    by_cases hs : s.typeout.state = .typing
    · rw [endTypeout_told_nothing ht hb hs]
      exact Passed.trans (t := s.setTypeout (s.typeout.ended .cancelledLink))
        ⟨rfl, rfl, rfl, heard_of_eq rfl rfl, screensKept_refl s⟩ (passed_raise .typeout h)
    · rw [endTypeout_idle hs]
      exact .refl n s
  next => exact .refl n s

theorem endTypeout_console (e : TypeEnd) (s : State) : (endTypeout e s).console = s.console := by
  have same : (releaseIfPressed s).console = s.console := by
    unfold releaseIfPressed
    split
    · split
      · unfold releaseTyped
        dsimp only
        split <;> rfl
      · rfl
    · rfl
  unfold endTypeout
  split
  · exact same
  · rfl

theorem endTypeout_mailbox {e : TypeEnd} {s : State} (hs : s.typeout.state = .typing) :
    (endTypeout e s).typeout = s.typeout.ended e := by
  have same : (releaseIfPressed s).typeout = s.typeout := by
    unfold releaseIfPressed
    split
    · split
      · unfold releaseTyped
        dsimp only
        split <;> rfl
      · rfl
    · rfl
  unfold endTypeout
  rw [if_pos hs]
  exact congrArg (Typeout.ended e) same

theorem typeoutLinkLost_mailbox {n : Computer} {s : State} :
    (s.typeout.target = some n → s.typeout.state = .typing →
      (typeoutLinkLost n s).typeout = s.typeout.ended .cancelledLink) ∧
    (s.typeout.target ≠ some n → (typeoutLinkLost n s).typeout = s.typeout) := by
  unfold typeoutLinkLost
  refine ⟨fun h hs => ?_, fun h => by rw [if_neg h]⟩
  rw [if_pos h]
  exact endTypeout_mailbox hs

theorem alertLinkLost_alerts (n : Computer) (s : State) : (alertLinkLost n s).alerts =
    { s.alerts with
      sources := s.alerts.sources.set n ⟨false, false⟩
      list := s.alerts.list.filter fun e => !decide (e.computer = n ∧ e.raisedBy = .indicator) } := by
  rw [alertLinkLost, (setAlertList_sets _ _).alerts]
  simp only [dropEntries, Bool.decide_and]
  rfl

/-- The state of a lost link before the other blocks hear of it: the port cleared, the aborted wake announced, and the
belief set forgotten (R20, R144). -/
def linkCleared (n : Computer) (link : LinkState) (s : State) : State :=
  clearBelief n (if s.ports[n].wakeUnderWay then raise .wake (s.modPort n (Port.linkLost link))
    else s.modPort n (Port.linkLost link))

theorem loseLink_eq {n : Computer} {link : LinkState} {s : State} (h : s.ports[n].link ≠ .absent) : loseLink n link s =
    raise .link (typeoutLinkLost n (syncMirror (alertLinkLost n (linkCleared n link s)))) :=
  if_neg h

theorem wakeUnderWay_iff (p : Port) : p.wakeUnderWay = true ↔
    p.link = .waking ∨ (p.link = .suspended ∧ p.deferred = true) := by
  simp [Port.wakeUnderWay]

/-- What the clearing of a lost link leaves. -/
structure Cleared (n : Computer) (link : LinkState) (s t : State) : Prop where
  port : t.ports[n] = s.ports[n].linkLost link
  focus : t.focus = { s.focus with beliefs := s.focus.beliefs.set n ⟨[], []⟩ }
  alerts : t.alerts = s.alerts
  typeout : t.typeout = s.typeout
  glide : t.glide = s.glide
  screens : t.screens = s.screens
  wake : s.ports[n].wakeUnderWay = true → announced .wake t

theorem linkCleared_cleared {n : Computer} {link : LinkState} (hl : link ≠ .ready) (s : State) :
    Cleared n link s (linkCleared n link s) := by
  have port : (s.modPort n (Port.linkLost link)).ports[n] = s.ports[n].linkLost link := State.modPort_port s n _
  unfold linkCleared
  by_cases h : s.ports[n].wakeUnderWay = true
  · rw [if_pos h]
    refine ⟨?_, rfl, rfl, rfl, rfl, rfl, fun _ =>
      Heard.announced (heard_of_eq rfl rfl) (announced_raise .wake (s.modPort n (Port.linkLost link)))⟩
    rw [← port]
    exact raise_port_quiet (by rw [port]; exact hl)
  · rw [if_neg h]
    exact ⟨port, rfl, rfl, rfl, rfl, rfl, fun k => absurd k h⟩

/-- Settles O50: the port is cleared, then each block hears of the loss. -/
theorem lostLinksAreCleared : Obligations.LostLinksAreCleared := by
  unfold Obligations.LostLinksAreCleared
  intro n i l s hi
  have hl : l ≠ .ready := by
    rintro rfl
    rcases hi with ⟨-, e⟩ | ⟨-, e⟩ <;> cases e
  have hx : exec i s = .next (loseLink n l s) := by
    rcases hi with ⟨rfl, rfl⟩ | ⟨rfl, rfl⟩ <;> rfl
  rw [hx]
  refine ⟨fun h => congrArg _ (if_pos h), fun h => ⟨_, rfl, ?_⟩⟩
  have quiet := quiet_loseLink n l s
  rw [loseLink_eq h] at quiet ⊢
  have c := linkCleared_cleared (n := n) hl s
  generalize linkCleared n l s = s1 at c quiet ⊢
  have away1 : s1.ports[n].link ≠ .ready := by rw [c.port]; exact hl
  have p2 := passed_alertLinkLost away1
  have a2 := alertLinkLost_alerts n s1
  have t2 : (alertLinkLost n s1).typeout = s1.typeout := (setAlertList_sets _ _).typeout
  generalize alertLinkLost n s1 = s2 at p2 a2 t2 quiet ⊢
  have p3 := p2.trans (passed_syncMirror n s2)
  obtain ⟨-, a3, -, -, -, t3, -, -⟩ := syncMirror_keeps s2
  have mirror3 : (syncMirror s2).console.mirrored = mirrorSource (syncMirror s2) := mirrored_syncMirror
  generalize syncMirror s2 = s3 at p3 a3 t3 mirror3 quiet ⊢
  have away3 : s3.ports[n].link ≠ .ready := by rw [p3.port]; exact away1
  have empty3 : s3.focus.beliefs[n].keys = [] := by
    rw [p3.focus, c.focus]
    simp
  have p4 := p3.trans (passed_typeoutLinkLost away3 empty3)
  have a4 := (served_typeoutLinkLost n s3).alerts
  have k4 : (typeoutLinkLost n s3).console = s3.console := by
    unfold typeoutLinkLost
    split
    · exact endTypeout_console _ _
    · rfl
  obtain ⟨t4, t4'⟩ := typeoutLinkLost_mailbox (n := n) (s := s3)
  have t3 : s3.typeout = s.typeout := t3.trans (t2.trans c.typeout)
  rw [t3] at t4 t4'
  generalize typeoutLinkLost n s3 = s4 at p4 a4 k4 t4 t4' quiet ⊢
  have p5 := p4.trans (passed_raise .link (by rw [p4.port]; exact away1))
  have a5 : (raise .link s4).alerts = s2.alerts := a4.trans a3
  rw [a2, c.alerts] at a5
  have wake : s.ports[n].wakeUnderWay = true ↔ s.ports[n].link = .waking ∨
      (s.ports[n].link = .suspended ∧ s.ports[n].deferred = true) := wakeUnderWay_iff _
  refine ⟨?_, p5.focus.trans c.focus, by rw [a5], by rw [a5], by rw [a5], fun hf => ?_, fun ht hs => ?_, fun ht => t4' ht,
    fun hw => p5.heard.announced (c.wake (wake.2 hw)), announced_raise .link s4, p5.glide.trans c.glide,
    quiet.deskKept fun sc => ?_⟩
  · rw [p5.port, c.port, Port.linkLost]
    simp only [wake]
  · have focus3 : s3.focus.focus = some n := by rw [p3.focus, c.focus]; exact hf
    have lamps : s3.console.mirrored = Indicators.none := by
      rw [mirror3, mirrorSource, focus3]
      show s3.ports[n].indicators = _
      rw [p3.port, c.port]
      rfl
    show s4.console.mirrored = _
    rw [k4, lamps]
  · have mailbox : (raise .link s4).typeout = s.typeout.ended .cancelledLink := t4 ht hs
    rw [mailbox]
    exact ⟨rfl, rfl⟩
  · have kept := p5.screens sc
    rw [c.screens] at kept
    exact kept

end Sys2Proof.Machine
end


section
/-! ## The broadcast set -/

namespace Sys2Proof.Machine

/-! ### Operations on each computer in turn -/

/-- An operation `f` on each computer in turn, which makes `R m` of `Q m` for its own computer `m`, spoils neither for
another, and keeps `G`. -/
structure EachInTurn (f : State → Computer → State) (G : State → Prop) (Q R : Computer → State → Prop) : Prop where
  keeps : ∀ u n, G u → G (f u n)
  makes : ∀ u n, G u → Q n u → R n (f u n)
  waits : ∀ u n m, n ≠ m → G u → Q m u → Q m (f u n)
  stays : ∀ u n m, n ≠ m → G u → R m u → R m (f u n)

theorem EachInTurn.foldl_stays {f : State → Computer → State} {G : State → Prop} {Q R : Computer → State → Prop}
    (h : EachInTurn f G Q R) {m : Computer} {l : List Computer} (hm : m ∉ l) {u : State} (hg : G u) (hr : R m u) :
    R m (l.foldl f u) := by
  induction l generalizing u with
  | nil => exact hr
  | cons n l ih =>
    have hn : n ≠ m := fun e => hm (e ▸ List.mem_cons_self ..)
    exact ih (fun e => hm (List.mem_cons_of_mem _ e)) (h.keeps u n hg) (h.stays u n m hn hg hr)

theorem EachInTurn.foldl_makes {f : State → Computer → State} {G : State → Prop} {Q R : Computer → State → Prop}
    (h : EachInTurn f G Q R) {m : Computer} {l : List Computer} (nodup : l.Nodup) (hm : m ∈ l) {u : State} (hg : G u)
    (hq : Q m u) : R m (l.foldl f u) := by
  induction l generalizing u with
  | nil => cases hm
  | cons n l ih =>
    obtain ⟨hn, nodup⟩ := List.nodup_cons.1 nodup
    by_cases e : n = m
    · subst e
      exact h.foldl_stays hn (h.keeps u n hg) (h.makes u n hg hq)
    · exact ih nodup ((List.mem_cons.1 hm).resolve_left (Ne.symm e)) (h.keeps u n hg) (h.waits u n m e hg hq)

theorem EachInTurn.foldl_keeps {f : State → Computer → State} {G : State → Prop} {Q R : Computer → State → Prop}
    (h : EachInTurn f G Q R) (l : List Computer) {u : State} (hg : G u) : G (l.foldl f u) := by
  induction l generalizing u with
  | nil => exact hg
  | cons n l ih => exact ih (h.keeps u n hg)

theorem computers_nodup : computers.Nodup := by decide

/-- Every computer's part is done when each has had its turn. -/
theorem EachInTurn.all {f : State → Computer → State} {G : State → Prop} {Q R : Computer → State → Prop}
    (h : EachInTurn f G Q R) {u : State} (hg : G u) (m : Computer) (hq : Q m u) : R m (computers.foldl f u) :=
  h.foldl_makes computers_nodup (mem_computers m) hg hq

/-! ### Removal from the broadcast set (R34) -/

theorem removeBroadcast_stranger {n : Computer} {s : State} (h : s.focus.broadcast[n] = false) : removeBroadcast n s = s :=
  if_neg (by rw [h]; decide)

theorem removeBroadcast_focused {n : Computer} {s : State} (h : s.focus.broadcast[n] = true) (hf : s.focus.focus = some n) :
    removeBroadcast n s = setBroadcast n false s :=
  (if_pos h).trans (by rw [if_pos hf])

theorem removeBroadcast_member {n : Computer} {s : State} (h : s.focus.broadcast[n] = true) (hf : s.focus.focus ≠ some n) :
    removeBroadcast n s = setBroadcast n false (releaseBelief n s) :=
  (if_pos h).trans (by rw [if_neg hf])

/-- What a port is told of a release, as R21 and R152 have it. -/
theorem tellReleaseAll_eq (now : Nat) (b : Belief) (p : Port) : p.tellReleaseAll now b = toldRelease now b p := by
  unfold Port.tellReleaseAll Port.tellReleases toldRelease stillReport
  by_cases hr : p.link = .ready
  · simp only [if_pos hr]
  · simp only [if_neg hr]
    by_cases hq : p.queuesKeys = true
    · simp only [if_pos hq, Port.holdButtons, stillReport]
      by_cases hb : b.buttons = []
      · by_cases hk : b.keys = [] <;> simp only [hk, hb, if_pos, if_false, List.map_nil, List.append_nil]
      · by_cases hk : b.keys = [] <;> cases hh : p.held <;>
          simp only [hk, hb, hh, if_pos, if_false, List.map_nil, List.append_nil]
    · simp only [if_neg hq]
      split <;> split <;> rfl

theorem releaseBelief_eq (n : Computer) (s : State) : releaseBelief n s =
    (clearBelief n s).modPort n (toldRelease s.now s.focus.beliefs[n]) := by
  unfold releaseBelief
  rw [funext (tellReleaseAll_eq s.now s.focus.beliefs[n])]

theorem addSnapshot_notification (now : Nat) (keys : List Nat) (p : Port) (v : Option Notification) :
    { p with notification := v }.addSnapshot now keys = { p.addSnapshot now keys with notification := v } := by
  unfold Port.addSnapshot Port.startStall
  dsimp only
  split <;> rfl

theorem addPointer_notification (now : Nat) (r : PtrReport) (p : Port) (v : Option Notification) :
    { p with notification := v }.addPointer now r = { p.addPointer now r with notification := v } := by
  unfold Port.addPointer Port.startStall
  dsimp only
  split
  · rfl
  · split
    · rfl
    · split <;> rfl

/-- A notification changes nothing of what a release tells a port. -/
theorem toldRelease_notification (now : Nat) (b : Belief) (p : Port) (v : Option Notification) :
    toldRelease now b { p with notification := v } = { toldRelease now b p with notification := v } := by
  unfold toldRelease
  dsimp only
  split
  · by_cases hk : b.keys = []
    · rw [if_pos hk, if_pos hk]
      by_cases hb : b.buttons = []
      · rw [if_pos hb, if_pos hb]
      · rw [if_neg hb, if_neg hb, addPointer_notification]
    · rw [if_neg hk, if_neg hk, addSnapshot_notification]
      by_cases hb : b.buttons = []
      · rw [if_pos hb, if_pos hb]
      · rw [if_neg hb, if_neg hb, addPointer_notification]
  · show (if p.queuesKeys = true then _ else _) = _
    split <;> rfl

/-! ### BROADCAST_CLEAR -/

/-- Computer `m` and its port are as in `s`, but for notifications. -/
def AsBefore (s : State) (m : Computer) (t : State) : Prop :=
  t.focus.broadcast[m] = s.focus.broadcast[m] ∧ t.focus.beliefs[m] = s.focus.beliefs[m] ∧
    t.ports[m] = { s.ports[m] with notification := t.ports[m].notification }

/-- Computer `m` has left the broadcast set of `s`, and has been told of it (R21, R34). -/
def HasLeft (s : State) (m : Computer) (t : State) : Prop :=
  t.focus.broadcast[m] = false ∧
    (s.focus.broadcast[m] = true → s.focus.focus ≠ some m → t.focus.beliefs[m] = ⟨[], []⟩ ∧
      t.ports[m] = { toldRelease s.now s.focus.beliefs[m] s.ports[m] with notification := t.ports[m].notification }) ∧
    (s.focus.broadcast[m] = false ∨ s.focus.focus = some m → t.focus.beliefs[m] = s.focus.beliefs[m] ∧
      t.ports[m] = { s.ports[m] with notification := t.ports[m].notification })

/-- The state before an event of a change of the broadcast set. -/
def broadcastSet (n : Computer) (b : Bool) (s : State) : State :=
  s.setFocus { s.focus with broadcast := s.focus.broadcast.set n b }

theorem setBroadcast_eq (n : Computer) (b : Bool) (s : State) : setBroadcast n b s = raise .focus (broadcastSet n b s) := rfl

/-- What a change of the broadcast set leaves of another computer, and of the belief set and the port of its own. -/
theorem setBroadcast_keeps (n : Computer) (b : Bool) (s : State) :
    (setBroadcast n b s).focus.beliefs = s.focus.beliefs ∧ NoticesOnly s (setBroadcast n b s) ∧
      (setBroadcast n b s).focus.broadcast[n] = b ∧
      ∀ m : Computer, n ≠ m → (setBroadcast n b s).focus.broadcast[m] = s.focus.broadcast[m] := by
  refine ⟨rfl, (noticesOnly_of_eq rfl : NoticesOnly s (broadcastSet n b s)).trans (noticesOnly_raise .focus _), ?_,
    fun m hm => ?_⟩
  · show (s.focus.broadcast.set n b)[n] = b
    simp
  · show (s.focus.broadcast.set n b)[m] = s.focus.broadcast[m]
    have : n.val ≠ m.val := fun e => hm (Fin.ext e)
    simp [this]

/-- What a removal of computer `n` leaves of another computer. -/
theorem removeBroadcast_other {n m : Computer} (h : n ≠ m) (s : State) : AsBefore s m (removeBroadcast n s) := by
  by_cases hb : s.focus.broadcast[n] = true
  · by_cases hf : s.focus.focus = some n
    · rw [removeBroadcast_focused hb hf]
      obtain ⟨beliefs, ports, -, others⟩ := setBroadcast_keeps n false s
      exact ⟨others m h, by rw [beliefs], ports m⟩
    · rw [removeBroadcast_member hb hf, releaseBelief_eq]
      obtain ⟨beliefs, ports, -, others⟩ :=
        setBroadcast_keeps n false ((clearBelief n s).modPort n (toldRelease s.now s.focus.beliefs[n]))
      refine ⟨others m h, ?_, ?_⟩
      · rw [beliefs]
        exact State.setBelief_beliefs_ne s _ h
      · have same := State.modPort_port_ne (clearBelief n s) (toldRelease s.now s.focus.beliefs[n]) h
        have told := ports m
        rw [same] at told
        exact told
  · rw [removeBroadcast_stranger (Bool.eq_false_of_not_eq_true hb)]
    exact ⟨rfl, rfl, rfl⟩

/-- A removal of computer `n`, as `s` had it, makes it leave. -/
theorem removeBroadcast_leaves {n : Computer} {s u : State} (hn : u.now = s.now) (hf : u.focus.focus = s.focus.focus)
    (h : AsBefore s n u) : HasLeft s n (removeBroadcast n u) := by
  obtain ⟨member, beliefs, port⟩ := h
  unfold HasLeft
  rw [← member, ← beliefs, ← hf, ← hn]
  by_cases hb : u.focus.broadcast[n] = true
  · by_cases hf : u.focus.focus = some n
    · rw [removeBroadcast_focused hb hf]
      obtain ⟨same, ports, out, -⟩ := setBroadcast_keeps n false u
      refine ⟨out, fun _ hne => absurd hf hne, fun _ => ⟨by rw [same], ?_⟩⟩
      have told := ports n
      rw [port] at told
      exact told
    · rw [removeBroadcast_member hb hf, releaseBelief_eq]
      obtain ⟨same, ports, out, -⟩ :=
        setBroadcast_keeps n false ((clearBelief n u).modPort n (toldRelease u.now u.focus.beliefs[n]))
      refine ⟨out, fun _ _ => ⟨?_, ?_⟩, fun e => absurd e (by rw [hb]; simpa using hf)⟩
      · rw [same]
        exact State.setBelief_beliefs_self u n _
      · have told := ports n
        rw [State.modPort_port] at told
        rw [show (clearBelief n u).ports[n] = u.ports[n] from rfl, port, toldRelease_notification] at told
        exact told
  · have hb := Bool.eq_false_of_not_eq_true hb
    rw [removeBroadcast_stranger hb]
    exact ⟨hb, fun e => absurd (e.symm.trans hb) (by decide), fun _ => ⟨rfl, port⟩⟩

theorem AsBefore.trans {s t u : State} {m : Computer} (h : AsBefore s m t) (k : AsBefore t m u) : AsBefore s m u := by
  obtain ⟨h1, h2, h3⟩ := h
  obtain ⟨k1, k2, k3⟩ := k
  rw [h3] at k3
  exact ⟨k1.trans h1, k2.trans h2, k3⟩

theorem HasLeft.stays {s t u : State} {m : Computer} (h : HasLeft s m t) (k : AsBefore t m u) : HasLeft s m u := by
  obtain ⟨out, told, kept⟩ := h
  obtain ⟨k1, k2, k3⟩ := k
  refine ⟨k1.trans out, fun hb hf => ?_, fun e => ?_⟩
  · obtain ⟨h2, h3⟩ := told hb hf
    rw [h3] at k3
    exact ⟨k2.trans h2, k3⟩
  · obtain ⟨h2, h3⟩ := kept e
    rw [h3] at k3
    exact ⟨k2.trans h2, k3⟩

theorem removeBroadcast_focused_kept (n : Computer) (s : State) : (removeBroadcast n s).focus.focus = s.focus.focus :=
  (removeBroadcast_broadcast n s).1

/-- The removals, in port order, take each computer out. -/
theorem removals_each (s : State) : EachInTurn (fun u n => removeBroadcast n u)
    (fun u => u.now = s.now ∧ u.focus.focus = s.focus.focus) (AsBefore s) (HasLeft s) where
  keeps u n h := ⟨(quiet_removeBroadcast n u).now.trans h.1, by
    rw [← h.2]
    exact removeBroadcast_focused_kept n u⟩
  makes u n h hq := removeBroadcast_leaves h.1 h.2 hq
  waits u n m hne _ hq := hq.trans (removeBroadcast_other hne u)
  stays u n m hne _ hr := hr.stays (removeBroadcast_other hne u)

/-- A removal of a member raises FOCUS (R34). -/
theorem removeBroadcast_tookEvent {n : Computer} {s : State} (h : s.focus.broadcast[n] = true) :
    tookEvent .focus s (removeBroadcast n s) := by
  by_cases hf : s.focus.focus = some n
  · rw [removeBroadcast_focused h hf]
    exact tookEvent_raise .focus (broadcastSet n false s)
  · rw [removeBroadcast_member h hf]
    exact tookEvent_raise .focus (broadcastSet n false (releaseBelief n s))

/-- An event raised a second time changes no summary. -/
theorem tookEvent_again {e : EventKind} {s t u : State} (h : tookEvent e s t) (k : tookEvent e t u)
    (ht : t.tables = s.tables) : tookEvent e s u := fun n => by
  rw [k n, h n, ht]
  split
  · rw [BitVec.or_assoc, BitVec.or_self]
  · rfl

/-- The removals raise FOCUS when there is a member. -/
theorem removals_tookEvent (l : List Computer) {s u : State} (ht : u.tables = s.tables)
    (h : tookEvent .focus s u ∨ (u.mgmt.summaries = s.mgmt.summaries ∧ ∃ n ∈ l, u.focus.broadcast[n] = true)) :
    tookEvent .focus s (l.foldl (fun u n => removeBroadcast n u) u) := by
  induction l generalizing u with
  | nil =>
    rcases h with h | ⟨-, n, hn, -⟩
    · exact h
    · cases hn
  | cons n l ih =>
    have ht' : (removeBroadcast n u).tables = s.tables := (quiet_removeBroadcast n u).tables.trans ht
    have next : tookEvent .focus s (removeBroadcast n u) ∨ ((removeBroadcast n u).mgmt.summaries = s.mgmt.summaries ∧
        ∃ m ∈ l, (removeBroadcast n u).focus.broadcast[m] = true) := by
      by_cases hb : u.focus.broadcast[n] = true
      · have took := removeBroadcast_tookEvent hb
        refine .inl (h.elim (fun h => tookEvent_again h took ht) fun ⟨same, _⟩ m => ?_)
        rw [took m, same, ht]
      · rw [removeBroadcast_stranger (Bool.eq_false_of_not_eq_true hb)]
        refine h.imp_right fun ⟨same, m, hm, hmb⟩ => ⟨same, m, ?_, hmb⟩
        exact (List.mem_cons.1 hm).resolve_left fun e => hb (e ▸ hmb)
    exact ih ht' next

/-- A clear leaves the focus, the mode, the pointer and the screens. -/
theorem removeBroadcast_leavesDesk (n : Computer) (s : State) :
    (removeBroadcast n s).focus.mode = s.focus.mode ∧ (removeBroadcast n s).glide = s.glide ∧
      (removeBroadcast n s).screens = s.screens := by
  unfold removeBroadcast
  split
  · split <;> exact ⟨rfl, rfl, rfl⟩
  · exact ⟨rfl, rfl, rfl⟩

/-- The records a clear leaves, as those of `s`. -/
def ClearKept (s t : State) : Prop :=
  t.focus.focus = s.focus.focus ∧ t.focus.mode = s.focus.mode ∧ t.glide = s.glide ∧ t.screens = s.screens

theorem clearKept_actBroadcastClear (s : State) : ClearKept s (actBroadcastClear s) :=
  foldl_keeps (P := ClearKept s) (f := fun u n => removeBroadcast n u) (fun u n ⟨focus, mode, glide, screens⟩ => by
    obtain ⟨mode', glide', screens'⟩ := removeBroadcast_leavesDesk n u
    exact ⟨(removeBroadcast_focused_kept n u).trans focus, mode'.trans mode, glide'.trans glide,
      screens'.trans screens⟩) computers ⟨rfl, rfl, rfl, rfl⟩

theorem removals_nobody (l : List Computer) {s : State} (h : ∀ n : Computer, s.focus.broadcast[n] = false) :
    l.foldl (fun u n => removeBroadcast n u) s = s := by
  induction l with
  | nil => rfl
  | cons n l ih => rw [List.foldl_cons, removeBroadcast_stranger (h n), ih]

theorem exec_broadcastToggle (a b : Byte) (s : State) :
    exec (.broadcastToggle (.hotkey a b)) s = .next (actBroadcastToggle a.toNat s) := rfl

theorem exec_broadcastClear (a b : Byte) (s : State) :
    exec (.broadcastClear (.hotkey a b)) s = .next (actBroadcastClear s) := rfl

theorem actBroadcastToggle_of {n : Computer} {k : Nat} (h : num n = k) (s : State) : actBroadcastToggle k s =
    if s.focus.broadcast[n] then removeBroadcast n s
    else if s.tables.computer[n].parked then s
    else setBroadcast n true s := by
  unfold actBroadcastToggle
  rw [ofNum_eq_some h]

/-- Each computer has left the broadcast set after a clear. -/
theorem actBroadcastClear_hasLeft (s : State) (m : Computer) : HasLeft s m (actBroadcastClear s) := by
  unfold actBroadcastClear
  exact (removals_each s).all (u := s) ⟨rfl, rfl⟩ m ⟨rfl, rfl, rfl⟩

/-- A clear with a member raises FOCUS. -/
theorem actBroadcastClear_tookEvent {n : Computer} {s : State} (h : s.focus.broadcast[n] = true) :
    tookEvent .focus s (actBroadcastClear s) := by
  unfold actBroadcastClear
  exact removals_tookEvent computers (u := s) rfl (.inr ⟨rfl, n, mem_computers n, h⟩)

/-- Settles O36: a toggle by its cases, and a clear by the removals in port order. -/
theorem broadcastSetChanges : Obligations.BroadcastSetChanges := by
  unfold Obligations.BroadcastSetChanges
  intro a b0 s
  refine ⟨fun h => ?_, fun n hn => ⟨fun hb hp => ?_, fun hb hp => ?_, fun hb hf => ?_, fun hb hf => ?_⟩, fun h => ?_,
    fun ⟨n, hn⟩ => ⟨_, exec_broadcastClear a b0 s, fun m => ?_, ?_⟩⟩
  · rw [exec_broadcastToggle, actBroadcastToggle, ofNum_eq_none h]
  · rw [exec_broadcastToggle, actBroadcastToggle_of hn, hb, hp]
    rfl
  · rw [exec_broadcastToggle, actBroadcastToggle_of hn, hb, hp]
    rfl
  · rw [exec_broadcastToggle, actBroadcastToggle_of hn, if_pos hb, removeBroadcast_focused hb hf]
    rfl
  · rw [exec_broadcastToggle, actBroadcastToggle_of hn, if_pos hb, removeBroadcast_member hb hf, releaseBelief_eq]
    rfl
  · rw [exec_broadcastClear, actBroadcastClear, removals_nobody computers h]
  · exact actBroadcastClear_hasLeft s m
  · obtain ⟨focus, mode, glide, screens⟩ := clearKept_actBroadcastClear s
    refine ⟨focus, mode, glide, actBroadcastClear_tookEvent hn,
      (quiet_actBroadcastClear s).deskKept fun sc => ?_⟩
    rw [screens]
    exact screensKept_refl s sc

end Sys2Proof.Machine
end


section
/-! ## Focus changes: what each step leaves and what a wake request comes to -/

namespace Sys2Proof.Machine

/-! ### The wake fields of the ports (R154, R155) -/

/-- The fields of a port that wake requests read and write, and the stored indicators. -/
structure SameWake (p q : Port) : Prop where
  link : q.link = p.link
  remoteWake : q.remoteWake = p.remoteWake
  settle : q.settle = p.settle
  deferred : q.deferred = p.deferred
  attempt : q.attempt = p.attempt
  lastWake : q.lastWake = p.lastWake
  indicators : q.indicators = p.indicators

theorem SameWake.refl (p : Port) : SameWake p p := ⟨rfl, rfl, rfl, rfl, rfl, rfl, rfl⟩

theorem SameWake.trans {p q r : Port} (h : SameWake p q) (k : SameWake q r) : SameWake p r :=
  ⟨k.link.trans h.link, k.remoteWake.trans h.remoteWake, k.settle.trans h.settle, k.deferred.trans h.deferred,
    k.attempt.trans h.attempt, k.lastWake.trans h.lastWake, k.indicators.trans h.indicators⟩

theorem sameWake_addSnapshot (now keys) (p : Port) : SameWake p (p.addSnapshot now keys) := by
  unfold Port.addSnapshot
  split <;> exact ⟨rfl, rfl, rfl, rfl, rfl, rfl, rfl⟩

theorem sameWake_addPointer (now r) (p : Port) : SameWake p (p.addPointer now r) := by
  unfold Port.addPointer
  split
  · exact ⟨rfl, rfl, rfl, rfl, rfl, rfl, rfl⟩
  · split
    · exact ⟨rfl, rfl, rfl, rfl, rfl, rfl, rfl⟩
    · split <;> exact ⟨rfl, rfl, rfl, rfl, rfl, rfl, rfl⟩

theorem sameWake_holdReport (r) (p : Port) : SameWake p (p.holdReport r) := by
  unfold Port.holdReport
  split <;> exact ⟨rfl, rfl, rfl, rfl, rfl, rfl, rfl⟩

theorem sameWake_takePointer (now r) (p : Port) : SameWake p (p.takePointer now r) := by
  unfold Port.takePointer
  split
  · exact sameWake_addPointer now r p
  · exact sameWake_holdReport r p
  · exact sameWake_holdReport r p
  all_goals exact .refl p

theorem sameWake_tellReleases (now released left) (p : Port) : SameWake p (p.tellReleases now released left) := by
  unfold Port.tellReleases
  split
  · exact sameWake_addSnapshot now left p
  · split <;> exact ⟨rfl, rfl, rfl, rfl, rfl, rfl, rfl⟩

theorem sameWake_toldRelease (now b) (p : Port) : SameWake p (toldRelease now b p) := by
  unfold toldRelease
  split
  · have keys : SameWake p (if b.keys = [] then p else p.addSnapshot now []) := by
      split
      · exact .refl p
      · exact sameWake_addSnapshot now [] p
    dsimp only
    split
    · exact keys
    · exact keys.trans (sameWake_addPointer _ _ _)
  · split <;> exact ⟨rfl, rfl, rfl, rfl, rfl, rfl, rfl⟩

/-- Every port keeps its wake fields. -/
def WakeStill (s t : State) : Prop :=
  ∀ m : Computer, SameWake s.ports[m] t.ports[m]

theorem wakeStill_of_eq {s t : State} (h : t.ports = s.ports) : WakeStill s t := fun m => by
  rw [h]
  exact .refl _

theorem WakeStill.refl (s : State) : WakeStill s s := wakeStill_of_eq rfl

theorem WakeStill.trans {s t u : State} (h : WakeStill s t) (k : WakeStill t u) : WakeStill s u :=
  fun m => (h m).trans (k m)

theorem NoticesOnly.wakeStill {s t : State} (h : NoticesOnly s t) : WakeStill s t := fun m => by
  rw [h m]
  exact ⟨rfl, rfl, rfl, rfl, rfl, rfl, rfl⟩

theorem wakeStill_modPort {n : Computer} {f : Port → Port} {s : State} (h : SameWake s.ports[n] (f s.ports[n])) :
    WakeStill s (s.modPort n f) := fun m => by
  by_cases e : n = m
  · subst e
    rw [State.modPort_port]
    exact h
  · rw [State.modPort_port_ne s f e]
    exact .refl _

/-! ### Steps that tell computers of their part (R27 steps 1 and 2) -/

/-- What the end of a type-out and the release of a belief set leave: the wake fields, the summaries but for more events, and
the clock. -/
structure Calm (s t : State) : Prop extends Served s t where
  wake : WakeStill s t
  heard : Heard s t
  clock : t.now = s.now
  keptGlide : t.glide = s.glide

theorem Calm.refl (s : State) : Calm s s := ⟨.refl s, .refl s, .refl s, rfl, rfl⟩

theorem Calm.trans {s t u : State} (h : Calm s t) (k : Calm t u) : Calm s u :=
  ⟨h.toServed.trans k.toServed, h.wake.trans k.wake, h.heard.trans k.heard, k.clock.trans h.clock,
    k.keptGlide.trans h.keptGlide⟩

theorem calm_raise (e) (s : State) : Calm s (raise e s) :=
  ⟨served_raise s e, (noticesOnly_raise e s).wakeStill, heard_raise e s, rfl, rfl⟩

theorem calm_releaseBelief (n) (s : State) : Calm s (releaseBelief n s) := by
  refine ⟨served_releaseBelief n s, ?_, heard_of_eq rfl rfl, rfl, rfl⟩
  rw [releaseBelief_eq]
  exact wakeStill_modPort (s := clearBelief n s) (sameWake_toldRelease _ _ _)

theorem calm_releaseTyped (n c) (s : State) : Calm s (releaseTyped n c s) := by
  unfold releaseTyped
  dsimp only
  split
  · exact .refl s
  · refine ⟨(served_setBelief s n _).trans (served_modPort _ n _), ?_, heard_of_eq rfl rfl, rfl, rfl⟩
    exact wakeStill_modPort (s := s.setBelief n _) (sameWake_tellReleases _ _ _ _)

theorem calm_releaseIfPressed (s : State) : Calm s (releaseIfPressed s) := by
  unfold releaseIfPressed
  split
  · split
    · exact calm_releaseTyped _ _ s
    · exact .refl s
  · exact .refl s

theorem calm_endTypeout (e) (s : State) : Calm s (endTypeout e s) := by
  unfold endTypeout
  split
  · have ended : Calm (releaseIfPressed s) ((releaseIfPressed s).setTypeout ((releaseIfPressed s).typeout.ended e)) :=
      ⟨served_setTypeout _ _, wakeStill_of_eq rfl, heard_of_eq rfl rfl, rfl, rfl⟩
    exact ((calm_releaseIfPressed s).trans ended).trans (calm_raise .typeout _)
  · exact .refl s

theorem calm_releaseOldFocus (s : State) : Calm s (releaseOldFocus s) := by
  unfold releaseOldFocus
  split
  · exact .refl s
  · split
    · exact .refl s
    · exact calm_releaseBelief _ s

/-! ### Steps that place the pointer (R27 steps 3 and 5) -/

/-- What the steps that remember, seat and send the pointer's position leave. -/
structure Placing (s t : State) : Prop where
  focused : t.focus.focus = s.focus.focus
  previous : t.focus.previous = s.focus.previous
  broadcast : t.focus.broadcast = s.focus.broadcast
  beliefs : t.focus.beliefs = s.focus.beliefs
  remainder : s.focus.rx = 0 → s.focus.ry = 0 → t.focus.rx = 0 ∧ t.focus.ry = 0
  screens : t.screens = s.screens
  tables : t.tables = s.tables
  alerts : t.alerts = s.alerts
  typeout : t.typeout = s.typeout
  clock : t.now = s.now
  channels : t.channels = s.channels
  wake : WakeStill s t
  keyQueue : ∀ m : Computer, t.ports[m].keyQueue = s.ports[m].keyQueue
  summaries : t.mgmt = s.mgmt

theorem Placing.refl (s : State) : Placing s s :=
  ⟨rfl, rfl, rfl, rfl, fun h k => ⟨h, k⟩, rfl, rfl, rfl, rfl, rfl, rfl, .refl s, fun _ => rfl, rfl⟩

theorem Placing.trans {s t u : State} (h : Placing s t) (k : Placing t u) : Placing s u :=
  ⟨k.focused.trans h.focused, k.previous.trans h.previous, k.broadcast.trans h.broadcast, k.beliefs.trans h.beliefs,
    fun hx hy => k.remainder (h.remainder hx hy).1 (h.remainder hx hy).2, k.screens.trans h.screens,
    k.tables.trans h.tables, k.alerts.trans h.alerts, k.typeout.trans h.typeout, k.clock.trans h.clock,
    k.channels.trans h.channels, h.wake.trans k.wake, fun m => (k.keyQueue m).trans (h.keyQueue m),
    k.summaries.trans h.summaries⟩

theorem Placing.heard {s t : State} (h : Placing s t) : Heard s t := heard_of_eq h.tables (by rw [h.summaries])

theorem placing_setGlide (g) (s : State) : Placing s (s.setGlide g) :=
  ⟨rfl, rfl, rfl, rfl, fun h k => ⟨h, k⟩, rfl, rfl, rfl, rfl, rfl, rfl, wakeStill_of_eq rfl, fun _ => rfl, rfl⟩

theorem placing_setMode (m) (s : State) : Placing s (setMode m s) := by
  cases m with
  | glide => exact ⟨rfl, rfl, rfl, rfl, fun _ _ => ⟨rfl, rfl⟩, rfl, rfl, rfl, rfl, rfl, rfl, wakeStill_of_eq rfl,
      fun _ => rfl, rfl⟩
  | detached => exact ⟨rfl, rfl, rfl, rfl, fun h k => ⟨h, k⟩, rfl, rfl, rfl, rfl, rfl, rfl, wakeStill_of_eq rfl,
      fun _ => rfl, rfl⟩
  | held => exact ⟨rfl, rfl, rfl, rfl, fun h k => ⟨h, k⟩, rfl, rfl, rfl, rfl, rfl, rfl, wakeStill_of_eq rfl,
      fun _ => rfl, rfl⟩

theorem placing_rememberHere (s : State) : Placing s (rememberHere s) := by
  unfold rememberHere
  split
  · exact .refl s
  · split
    · exact placing_setGlide _ s
    · exact .refl s

theorem placing_rememberHanded (handed) (s : State) : Placing s (rememberHanded handed s) := by
  unfold rememberHanded
  split
  · exact placing_setGlide _ s
  · exact .refl s

theorem placing_seatFor (n) (s : State) : Placing s (seatFor n s) := by
  unfold seatFor
  split
  · exact placing_setMode _ s
  · split
    · exact placing_setMode _ s
    · split
      · exact (placing_setGlide _ s).trans (placing_setMode _ _)
      · split
        · exact (placing_setGlide _ s).trans (placing_setMode _ _)
        · exact placing_setMode _ s

theorem addPointer_keyQueue (now r) (p : Port) : (p.addPointer now r).keyQueue = p.keyQueue := by
  unfold Port.addPointer
  split
  · rfl
  · split
    · rfl
    · split <;> rfl

theorem takePointer_keyQueue (now r) (p : Port) : (p.takePointer now r).keyQueue = p.keyQueue := by
  unfold Port.takePointer
  split
  · exact addPointer_keyQueue now r p
  · unfold Port.holdReport
    split <;> rfl
  · unfold Port.holdReport
    split <;> rfl
  · rfl
  · rfl
  · rfl

theorem placing_handAbsolute (n pos wheel) (s : State) : Placing s (handAbsolute n pos wheel s) := by
  unfold handAbsolute
  dsimp only
  split
  · refine Placing.trans (t := s.modPort n _) ⟨rfl, rfl, rfl, rfl, fun h k => ⟨h, k⟩, rfl, rfl, rfl, rfl, rfl, rfl,
      wakeStill_modPort (sameWake_takePointer _ _ _), fun m => ?_, rfl⟩ (placing_setGlide _ _)
    by_cases e : n = m
    · subst e
      rw [State.modPort_port, takePointer_keyQueue]
    · rw [State.modPort_port_ne s _ e]
  · exact .refl s

theorem placing_considerReport (wheel) (s : State) : Placing s (considerReport wheel s) := by
  unfold considerReport
  split
  · exact .refl s
  · split
    · split
      · exact .refl s
      · exact placing_handAbsolute _ _ _ s
    · split
      · exact placing_handAbsolute _ _ _ s
      · exact .refl s

theorem placing_considerPosition (s : State) : Placing s (considerPosition s) := by
  unfold considerPosition
  split
  · exact placing_considerReport 0 s
  · exact .refl s

/-! ### Wake requests (R154) -/

/-- What a wake request for `n` without a type-out leaves besides the port of `n`. -/
structure WakeDone (n : Computer) (s t : State) : Prop extends Served s t where
  heard : Heard s t
  keptGlide : t.glide = s.glide
  typeout : t.typeout = s.typeout
  clock : t.now = s.now
  channels : t.channels = s.channels
  others : ∀ m : Computer, m ≠ n → t.focus.beliefs[m] = s.focus.beliefs[m] ∧
    t.ports[m] = { s.ports[m] with notification := t.ports[m].notification }
  keyQueue : t.ports[n].keyQueue = s.ports[n].keyQueue
  reports : t.ports[n].link.takesReports = s.ports[n].link.takesReports
  indicators : t.ports[n].indicators = s.ports[n].indicators
  empty : s.focus.beliefs[n] = ⟨[], []⟩ → t.focus.beliefs[n] = ⟨[], []⟩

theorem WakeDone.refl (n : Computer) (s : State) : WakeDone n s s :=
  ⟨.refl s, .refl s, rfl, rfl, rfl, rfl, fun _ _ => ⟨rfl, rfl⟩, rfl, rfl, rfl, id⟩

/-- A change of the port of `n` and of its belief set, with an event raised. -/
theorem wakeDone_raise {n : Computer} {s t : State} {f : Port → Port} (e : EventKind)
    (served : Served s t) (glide : t.glide = s.glide) (typeout : t.typeout = s.typeout) (clock : t.now = s.now)
    (channels : t.channels = s.channels) (mgmt : t.mgmt = s.mgmt) (ports : t.ports = (s.modPort n f).ports)
    (beliefs : ∀ m : Computer, m ≠ n → t.focus.beliefs[m] = s.focus.beliefs[m])
    (keyQueue : (f s.ports[n]).keyQueue = s.ports[n].keyQueue)
    (reports : (f s.ports[n]).link.takesReports = s.ports[n].link.takesReports)
    (indicators : (f s.ports[n]).indicators = s.ports[n].indicators)
    (empty : s.focus.beliefs[n] = ⟨[], []⟩ → t.focus.beliefs[n] = ⟨[], []⟩) : WakeDone n s (raise e t) := by
  have notices := noticesOnly_raise e t
  have own : (raise e t).ports[n] = { f s.ports[n] with notification := (raise e t).ports[n].notification } := by
    have h := notices n
    rw [ports, State.modPort_port] at h
    exact h
  refine ⟨served.trans (served_raise t e), (heard_of_eq served.tables (by rw [mgmt])).trans (heard_raise e t), glide, typeout,
    clock, channels, fun m hm => ⟨beliefs m hm, ?_⟩, by rw [own]; exact keyQueue, by rw [own]; exact reports,
    by rw [own]; exact indicators, empty⟩
  have h := notices m
  rw [ports, State.modPort_port_ne s f hm.symm] at h
  exact h

theorem wakeDone_startWake {n : Computer} {s : State} (h : s.ports[n].link = .suspended) : WakeDone n s (startWake n s) :=
  wakeDone_raise (f := Port.startAttempt s.now 1) .link (served_modPort s n _) rfl rfl rfl rfl rfl rfl (fun _ _ => rfl) rfl
    (by rw [h]; rfl) rfl id

theorem wakeDone_refuseWake {n : Computer} {s : State} (ht : s.typeout.state ≠ .typing) : WakeDone n s (refuseWake n s) := by
  rw [refuseWake_idle ht]
  refine wakeDone_raise (f := Port.refuseWake) .wake ((served_modPort s n _).trans (served_clearBelief n _)) rfl rfl rfl rfl
    rfl rfl (fun m hm => ?_) ?_ ?_ ?_ fun _ => ?_
  · exact State.setBelief_beliefs_ne (s.modPort n Port.refuseWake) _ hm.symm
  · rw [refuseWake_eq]
  · rw [refuseWake_eq]
  · rw [refuseWake_eq]
  · exact State.setBelief_beliefs_self (s.modPort n Port.refuseWake) n _

theorem wakeDone_deferred (n : Computer) (s : State) : WakeDone n s (s.modPort n fun p => { p with deferred := true }) := by
  refine ⟨served_modPort s n _, heard_of_eq rfl rfl, rfl, rfl, rfl, rfl, fun m hm => ⟨rfl, ?_⟩, ?_, ?_, ?_, id⟩
  · rw [State.modPort_port_ne s _ hm.symm]
  · rw [State.modPort_port]
  · rw [State.modPort_port]
  · rw [State.modPort_port]

theorem wakeDone_wakeRequest {n : Computer} {s : State} (ht : s.typeout.state ≠ .typing) :
    WakeDone n s (wakeRequest n s) := by
  by_cases hs : s.ports[n].link = .suspended
  · by_cases ha : wakeAllowed n s = true
    · rw [wakeRequest_allowed hs ha]
      split
      · exact .refl n s
      · split
        · exact wakeDone_deferred n s
        · exact wakeDone_startWake hs
    · rw [wakeRequest_refused hs ha]
      exact wakeDone_refuseWake ht
  · rw [wakeRequest_awake hs]
    exact .refl n s

/-- What a wake request for `n` comes to (R154). -/
theorem wakeRequest_asked {n : Computer} {s : State} (ht : s.typeout.state ≠ .typing) {asks : Prop}
    (h : asks → s.ports[n].link = .suspended) (t : State) (hasked : asks → t = wakeRequest n s)
    (hcalm : ¬ asks → t = s) : wakeAsked asks n s t := by
  have allowed_iff := wakeAllowed_iff n s
  refine ⟨fun calm => by rw [hcalm calm]; exact ⟨rfl, rfl, rfl, rfl⟩, fun ha allowed waits => ?_,
    fun ha allowed hd hw => ?_, fun ha refused => ?_⟩
  · rw [hasked ha, wakeRequest_allowed (h ha) (allowed_iff.2 allowed)]
    split
    next hd => exact ⟨h ha, hd, rfl⟩
    next hd =>
      rw [if_pos (waits.resolve_left hd), State.modPort_port]
      exact ⟨h ha, rfl, rfl⟩
  · rw [hasked ha, wakeRequest_allowed (h ha) (allowed_iff.2 allowed), hd, if_neg Bool.false_ne_true, hw,
      if_neg (by decide), startWake, noticesOnly_raise .link (s.modPort n (Port.startAttempt s.now 1)) n, State.modPort_port]
    exact ⟨rfl, rfl, rfl, rfl, announced_raise .link _⟩
  · rw [hasked ha, wakeRequest_refused (h ha) fun k => refused (allowed_iff.1 k), refuseWake_idle ht,
      noticesOnly_raise .wake (clearBelief n (s.modPort n Port.refuseWake)) n,
      show (clearBelief n (s.modPort n Port.refuseWake)).ports[n] = s.ports[n].refuseWake from State.modPort_port s n _,
      refuseWake_eq]
    exact ⟨h ha, rfl, rfl, rfl, State.setBelief_beliefs_self (s.modPort n Port.refuseWake) n _,
      announced_raise .wake (clearBelief n (s.modPort n Port.refuseWake))⟩

theorem wakeAsked_before {asks : Prop} {n : Computer} {r s t : State} (h : wakeAsked asks n s t)
    (wake : SameWake r.ports[n] s.ports[n]) (tables : s.tables = r.tables) (clock : s.now = r.now) :
    wakeAsked asks n r t := by
  obtain ⟨calm, waits, starts, refused⟩ := h
  rw [wake.link, wake.deferred, wake.attempt, wake.lastWake] at calm
  rw [wake.deferred, wake.settle, wake.lastWake, wake.remoteWake, tables] at waits
  rw [wake.deferred, wake.settle, wake.remoteWake, tables, clock] at starts
  rw [wake.remoteWake, tables] at refused
  exact ⟨calm, waits, starts, refused⟩

theorem wakeAsked_after {asks : Prop} {n : Computer} {s t u : State} (h : wakeAsked asks n s t)
    (ports : NoticesOnly t u) (beliefs : u.focus.beliefs = t.focus.beliefs) (heard : Heard t u) :
    wakeAsked asks n s u := by
  obtain ⟨calm, waits, starts, refused⟩ := h
  unfold wakeAsked
  rw [ports n, beliefs]
  refine ⟨calm, waits, fun ha hl hd hw => ?_, fun ha hl => ?_⟩
  · obtain ⟨h1, h2, h3, h4, h5⟩ := starts ha hl hd hw
    exact ⟨h1, h2, h3, h4, heard.announced h5⟩
  · obtain ⟨h1, h2, h3, h4, h5, h6⟩ := refused ha hl
    exact ⟨h1, h2, h3, h4, h5, heard.announced h6⟩

end Sys2Proof.Machine
end


section
/-! ## Focus changes (R27, R28) -/

namespace Sys2Proof.Machine

/-- A focus change before the pointer is remembered: the type-out ended, and the old focus computer released (R27). -/
def focusLeft (s : State) : State :=
  releaseOldFocus (endTypeout .cancelledFocus s)

theorem calm_focusLeft (s : State) : Calm s (focusLeft s) :=
  (calm_endTypeout .cancelledFocus s).trans (calm_releaseOldFocus _)

theorem releaseOldFocus_other {s : State} {m : Computer} (h : s.focus.focus ≠ some m) :
    (releaseOldFocus s).focus.beliefs[m] = s.focus.beliefs[m] ∧ (releaseOldFocus s).ports[m] = s.ports[m] := by
  unfold releaseOldFocus
  split
  · exact ⟨rfl, rfl⟩
  next f hf =>
    have hne : f ≠ m := fun e => h (e ▸ hf)
    split
    · exact ⟨rfl, rfl⟩
    · rw [releaseBelief_eq]
      exact ⟨State.setBelief_beliefs_ne s _ hne, State.modPort_port_ne (clearBelief f s) _ hne⟩

theorem endTypeout_not_typing (e : TypeEnd) (s : State) : (endTypeout e s).typeout.state ≠ .typing := by
  by_cases h : s.typeout.state = .typing
  · rw [endTypeout_mailbox h]
    exact MailState.noConfusion
  · rw [endTypeout_idle h]
    exact h

theorem focusLeft_mailbox (s : State) : (focusLeft s).typeout = (endTypeout .cancelledFocus s).typeout :=
  (told_releaseOldFocus (endTypeout .cancelledFocus s)).typeout

theorem focusLeft_outcome {s : State} (h : s.typeout.state = .typing) :
    (focusLeft s).typeout.outcome = some ⟨.cancelledFocus, s.typeout.typed, s.typeout.skipped⟩ := by
  rw [focusLeft_mailbox, endTypeout_mailbox h]
  rfl

theorem focusLeft_released {s : State} {f : Computer} (hf : s.focus.focus = some f) (hb : s.focus.broadcast[f] = false) :
    (focusLeft s).focus.beliefs[f] = ⟨[], []⟩ := by
  have k := served_endTypeout .cancelledFocus s
  exact releaseOldFocus_released (k.focused.trans hf) (by rw [k.broadcast]; exact hb)

theorem focusLeft_other {s : State} {m : Computer} (h : s.focus.focus ≠ some m) (ht : s.typeout.state ≠ .typing) :
    (focusLeft s).focus.beliefs[m] = s.focus.beliefs[m] ∧ (focusLeft s).ports[m] = s.ports[m] := by
  unfold focusLeft
  rw [endTypeout_idle ht]
  exact releaseOldFocus_other h

/-! ### The new focus computer (R27 step 4) -/

/-- The state with `n` the focus computer, before the lamps and the alerts follow. -/
def focusMade (n : Option Computer) (s : State) : State :=
  s.setFocus { s.focus with previous := s.focus.focus, focus := n, rx := 0, ry := 0 }

/-- What step 4 of a focus change to `n` leaves. -/
structure FocusSet (n : Computer) (s t : State) : Prop where
  focus : t.focus = { s.focus with previous := s.focus.focus, focus := some n, rx := 0, ry := 0 }
  glide : t.glide = s.glide
  typeout : t.typeout = s.typeout
  tables : t.tables = s.tables
  channels : t.channels = s.channels
  clock : t.now = s.now
  alerts : t.alerts = { s.alerts with
    list := s.alerts.list.filter fun e => !decide (e.computer = n ∧ e.kind = .latched) }
  acknowledged : (∃ e ∈ s.alerts.list, e.computer = n ∧ e.kind = .latched) → announced .alert t
  ports : NoticesOnly s t
  heard : Heard s t
  screens : screensKept s t

theorem noticesOnly_setAlertList (l) (s : State) : NoticesOnly s (setAlertList l s) := by
  unfold setAlertList
  split
  · exact .refl s
  · exact (noticesOnly_raise .alert (s.setAlerts { s.alerts with list := l }) : NoticesOnly _ _)

theorem announced_setAlertList {l} {s : State} (h : l ≠ s.alerts.list) : announced .alert (setAlertList l s) := by
  rw [setAlertList_changed h]
  exact Heard.announced (heard_of_eq rfl rfl) (announced_raise .alert (s.setAlerts { s.alerts with list := l }))

theorem setFocusTo_eq (n : Computer) (s : State) : setFocusTo (some n) s =
    setAlertList (dropEntries n (fun e => decide (e.kind = .latched)) s.alerts.list)
      (syncMirror (focusMade (some n) s)) := by
  have alerts : (syncMirror (focusMade (some n) s)).alerts = s.alerts := (syncMirror_keeps _).2.1
  unfold setFocusTo acknowledge
  dsimp only
  rw [show (syncMirror (s.setFocus { s.focus with previous := s.focus.focus, focus := some n, rx := 0, ry := 0 })).alerts =
    s.alerts from alerts]
  rfl

theorem dropLatched_eq (n : Computer) (l : List AlertEntry) : dropEntries n (fun e => decide (e.kind = .latched)) l =
    l.filter fun e => !decide (e.computer = n ∧ e.kind = .latched) := by
  simp only [dropEntries, Bool.decide_and]

theorem focusSet_setFocusTo (n : Computer) (s : State) : FocusSet n s (setFocusTo (some n) s) := by
  obtain ⟨focus, glide, typeout⟩ := setFocusTo_sets n s
  obtain ⟨ports, alerts, mgmt, -, -, -, screens, tables⟩ := syncMirror_keeps (focusMade (some n) s)
  have quiet := quiet_setFocusTo (some n) s
  have sets := setAlertList_sets (dropEntries n (fun e => decide (e.kind = .latched)) s.alerts.list)
    (syncMirror (focusMade (some n) s))
  rw [← setFocusTo_eq] at sets
  refine ⟨focus, glide, typeout, quiet.tables, quiet.channels, quiet.now, ?_, fun ⟨e, he, hn, hk⟩ => ?_, ?_, ?_, fun sc => ?_⟩
  · rw [sets.alerts, alerts, dropLatched_eq]
    rfl
  · rw [setFocusTo_eq]
    refine announced_setAlertList fun same => ?_
    rw [alerts, dropLatched_eq] at same
    have kept : e ∈ s.alerts.list.filter fun e => !decide (e.computer = n ∧ e.kind = .latched) := by
      rw [same]
      exact he
    simp [hn, hk] at kept
  · rw [setFocusTo_eq]
    exact (noticesOnly_of_eq (s := s) ports).trans (noticesOnly_setAlertList _ _)
  · rw [setFocusTo_eq]
    exact (heard_of_eq (s := s) tables (by rw [mgmt]; rfl)).trans (heard_setAlertList _ _)
  · have kept := sets.screens sc
    rw [screens] at kept
    exact kept

/-! ### The wake and the announcement (R27 steps 6 and 7) -/

theorem wakeOnFocus_asked {n : Computer} {s : State} (ht : s.typeout.state ≠ .typing) :
    wakeAsked (s.ports[n].link = .suspended ∧ s.tables.options.wakeOnFocus = true) n s (wakeOnFocus (some n) s) :=
  wakeRequest_asked ht And.left _ (fun h => if_pos h) fun h => if_neg h

theorem wakeDone_wakeOnFocus {n : Computer} {s : State} (ht : s.typeout.state ≠ .typing) :
    WakeDone n s (wakeOnFocus (some n) s) := by
  by_cases h : s.ports[n].link = .suspended ∧ s.tables.options.wakeOnFocus = true
  · rw [show wakeOnFocus (some n) s = wakeRequest n s from if_pos h]
    exact wakeDone_wakeRequest ht
  · rw [show wakeOnFocus (some n) s = s from if_neg h]
    exact .refl n s

theorem announceFocus_ports (s : State) : NoticesOnly s (announceFocus s) :=
  (noticesOnly_raise .focus s : NoticesOnly _ _)

theorem heard_announceFocus (s : State) : Heard s (announceFocus s) :=
  (heard_raise .focus s).trans (heard_of_eq rfl rfl)

/-! ### A focus change as a whole -/

/-- What a focus change to `n` leaves, the mode and the pointer apart (R27, R28). -/
structure FocusChanged (n : Computer) (s t : State) : Prop where
  focused : t.focus.focus = some n
  previous : t.focus.previous = s.focus.focus
  broadcast : t.focus.broadcast = s.focus.broadcast
  remainder : t.focus.rx = 0 ∧ t.focus.ry = 0
  idle : t.typeout.state ≠ .typing
  outcome : s.typeout.state = .typing →
    t.typeout.outcome = some ⟨.cancelledFocus, s.typeout.typed, s.typeout.skipped⟩
  released : ∀ f : Computer, s.focus.focus = some f → s.focus.broadcast[f] = false → t.focus.beliefs[f] = ⟨[], []⟩
  others : ∀ m : Computer, m ≠ n → s.focus.focus ≠ some m → s.typeout.state ≠ .typing →
    t.focus.beliefs[m] = s.focus.beliefs[m] ∧ t.ports[m].keyQueue = s.ports[m].keyQueue
  alerts : t.alerts = { s.alerts with
    list := s.alerts.list.filter fun e => !decide (e.computer = n ∧ e.kind = .latched) }
  acknowledged : (∃ e ∈ s.alerts.list, e.computer = n ∧ e.kind = .latched) → announced .alert t
  wake : wakeAsked (s.ports[n].link = .suspended ∧ s.tables.options.wakeOnFocus = true) n s t
  announced : announced .focus t
  frames : framesAnew t
  heard : Heard s t
  screens : screensKept s t

/-- A focus change whose pointer steps are those from `focusLeft s` to `v` and from the focus set to `x`. -/
theorem focusChanged_of_steps {n : Computer} {s v x : State} (hne : s.focus.focus ≠ some n)
    (before : Placing (focusLeft s) v) (after : Placing (setFocusTo (some n) v) x) :
    FocusChanged n s (announceFocus (wakeOnFocus (some n) x)) := by
  have calm := calm_focusLeft s
  have set := focusSet_setFocusTo n v
  generalize setFocusTo (some n) v = w at set after
  have idle : x.typeout.state ≠ .typing := by
    rw [after.typeout, set.typeout, before.typeout, focusLeft_mailbox]
    exact endTypeout_not_typing _ s
  have wake := wakeDone_wakeOnFocus (n := n) idle
  have asked := wakeOnFocus_asked (n := n) idle
  have untilWake : WakeStill s x := calm.wake.trans (before.wake.trans (set.ports.wakeStill.trans after.wake))
  have tables : x.tables = s.tables := after.tables.trans (set.tables.trans (before.tables.trans calm.tables))
  have clock : x.now = s.now := after.clock.trans (set.clock.trans (before.clock.trans calm.clock))
  have screens : screensKept s x := fun sc => by
    have kept := set.screens sc
    rw [before.screens, calm.screens] at kept
    rw [after.screens]
    exact kept
  have alerts : x.alerts = { s.alerts with
      list := s.alerts.list.filter fun e => !decide (e.computer = n ∧ e.kind = .latched) } := by
    rw [after.alerts, set.alerts, before.alerts, calm.alerts]
  have beliefs : x.focus.beliefs = (focusLeft s).focus.beliefs := by
    rw [after.beliefs, set.focus]
    exact before.beliefs
  have broadcast : x.focus.broadcast = s.focus.broadcast := by
    rw [after.broadcast, set.focus]
    exact before.broadcast.trans calm.broadcast
  have previous : x.focus.previous = s.focus.focus := by
    rw [after.previous, set.focus]
    exact before.focused.trans calm.focused
  have focused : x.focus.focus = some n := by rw [after.focused, set.focus]
  have remainder : x.focus.rx = 0 ∧ x.focus.ry = 0 := after.remainder (by rw [set.focus]) (by rw [set.focus])
  have acknowledged : (∃ e ∈ s.alerts.list, e.computer = n ∧ e.kind = .latched) → Machine.announced .alert x := fun h => by
    refine after.heard.announced (set.acknowledged ?_)
    rw [before.alerts, calm.alerts]
    exact h
  have outcome : s.typeout.state = .typing →
      x.typeout.outcome = some ⟨.cancelledFocus, s.typeout.typed, s.typeout.skipped⟩ := fun h => by
    rw [after.typeout, set.typeout, before.typeout]
    exact focusLeft_outcome h
  have heard : Heard s x := calm.heard.trans (before.heard.trans (set.heard.trans after.heard))
  have queues : ∀ m : Computer, x.ports[m].keyQueue = (focusLeft s).ports[m].keyQueue := fun m => by
    rw [after.keyQueue, set.ports m]
    exact before.keyQueue m
  generalize wakeOnFocus (some n) x = y at wake asked
  have last := heard_announceFocus y
  refine ⟨wake.focused.trans focused, wake.previous.trans previous, wake.broadcast.trans broadcast, ?_, ?_, fun h => ?_,
    fun f hf hb => ?_, fun m hm hf ht => ?_, wake.alerts.trans alerts,
    fun h => last.announced (wake.heard.announced (acknowledged h)),
    wakeAsked_after (wakeAsked_before ?_ (untilWake n) tables clock) (announceFocus_ports y) rfl last,
    announced_announceFocus y, framesAnew_recomputeFrames (raise .focus y), heard.trans (wake.heard.trans last), fun sc => ?_⟩
  · show y.focus.rx = 0 ∧ y.focus.ry = 0
    rw [wake.focus]
    exact remainder
  · show y.typeout.state ≠ .typing
    rw [wake.typeout]
    exact idle
  · show y.typeout.outcome = _
    rw [wake.typeout]
    exact outcome h
  · have hfn : f ≠ n := fun e => hne (e ▸ hf)
    show y.focus.beliefs[f] = _
    rw [(wake.others f hfn).1, beliefs]
    exact focusLeft_released hf hb
  · obtain ⟨b, p⟩ := focusLeft_other hf ht
    refine ⟨?_, ?_⟩
    · show y.focus.beliefs[m] = _
      rw [(wake.others m hm).1, beliefs, b]
    · rw [announceFocus_ports y m, (wake.others m hm).2]
      exact (queues m).trans (by rw [p])
  · rw [show (s.ports[n].link = .suspended ∧ s.tables.options.wakeOnFocus = true) =
      (x.ports[n].link = .suspended ∧ x.tables.options.wakeOnFocus = true) by rw [(untilWake n).link, tables]]
    exact asked
  · obtain ⟨a1, a2, a3, a4, a5, a6, a7⟩ := screens sc
    obtain ⟨b1, b2, b3, b4, b5, b6, b7⟩ := screensKept_recomputeFrames (raise .focus y) sc
    have same : y.screens = x.screens := wake.screens
    have same : (raise .focus y).screens = x.screens := same
    rw [same] at b1 b2 b3 b4 b5 b6 b7
    exact ⟨b1.trans a1, b2.trans a2, b3.trans a3, b4.trans a4, b5.trans a5, b6.trans a6, b7.trans a7⟩

theorem announceFocus_pointer (s : State) : (announceFocus s).focus.mode = s.focus.mode ∧ (announceFocus s).glide = s.glide :=
  ⟨rfl, rfl⟩

/-- The mode and the pointer after the wake and the announcement are those before. -/
theorem announced_pointer {n : Computer} {x : State} (ht : x.typeout.state ≠ .typing) :
    (announceFocus (wakeOnFocus (some n) x)).focus.mode = x.focus.mode ∧
      (announceFocus (wakeOnFocus (some n) x)).glide = x.glide := by
  obtain ⟨mode, glide⟩ := announceFocus_pointer (wakeOnFocus (some n) x)
  exact ⟨mode.trans (wakeDone_wakeOnFocus ht).mode, glide.trans (wakeDone_wakeOnFocus ht).keptGlide⟩

end Sys2Proof.Machine
end


section
/-! ## The pointer of a focus change, and the position told (R66, R70) -/

namespace Sys2Proof.Machine

/-! ### Absolute coordinates (R60, R63) -/

/-- The absolute coordinates depend on the pointer, the tiles, the tables and the channels alone. -/
theorem absoluteHere_congr {s t : State} (h : DeskStill s t) (tables : t.tables = s.tables)
    (channels : t.channels = s.channels) (n : Computer) : absoluteHere t n = absoluteHere s n := by
  have timing : ∀ c, knownTiming t c = knownTiming s c := fun c => by
    unfold knownTiming
    rw [channels]
  have size : ∀ f, autoSize t n f = autoSize s n f := fun f => by
    unfold autoSize
    simp only [timing, tables]
  have inside : ∀ tile c tm, absoluteIn t n tile c tm = absoluteIn s n tile c tm := fun tile c tm => by
    unfold absoluteIn desktopWidth desktopHeight
    simp only [tables, h.px, h.py, size]
  unfold absoluteHere
  simp only [h.seatTile, timing, inside]

theorem served_absoluteHere {s t : State} (h : Served s t) (channels : t.channels = s.channels) (n : Computer) :
    absoluteHere t n = absoluteHere s n := absoluteHere_congr h.deskStill h.tables channels n

theorem handAbsolute_told {n : Computer} {pos : Nat × Nat} {wheel : Int} {s : State}
    (h : s.ports[n].link.takesReports = true) : (handAbsolute n pos wheel s).glide.lastAbs[n] = some pos := by
  have e : (handAbsolute n pos wheel s).glide.lastAbs = s.glide.lastAbs.set n (some pos) := by
    unfold handAbsolute
    dsimp only
    rw [if_pos h]
    rfl
  rw [e]
  simp

/-- After a report was considered in GLIDE, the computer of the current tile was last sent the present position (R61,
R70). -/
theorem positionTold_considerReport {wheel : Int} {s : State} : positionTold (considerReport wheel s) := by
  intro _ seat pos hs hp hl
  have served := served_considerReport wheel s
  have placing := placing_considerReport wheel s
  rw [served_absoluteHere served placing.channels] at hp
  rw [served.seat] at hs
  rw [← takesReports_iff, (placing.wake seat.computer).link] at hl
  unfold considerReport
  rw [hs]
  dsimp only
  rw [hp]
  dsimp only
  split
  · exact handAbsolute_told hl
  next h => exact of_not_not fun hne => h (.inl hne)

theorem positionTold_considerPosition (s : State) : positionTold (considerPosition s) := by
  unfold considerPosition
  split
  · exact positionTold_considerReport
  next h => exact fun hm => absurd hm h

/-- Steps that leave the pointer, the tiles, and which ports take reports leave the position told. -/
theorem positionTold_later {s t : State} (h : positionTold s) (mode : t.focus.mode = s.focus.mode) (glide : t.glide = s.glide)
    (still : DeskStill s t) (tables : t.tables = s.tables) (channels : t.channels = s.channels)
    (reports : ∀ m : Computer, t.ports[m].link.takesReports = s.ports[m].link.takesReports) : positionTold t := by
  intro hm seat pos hs hp hl
  rw [absoluteHere_congr still tables channels] at hp
  rw [glide] at hs ⊢
  rw [← takesReports_iff, reports, takesReports_iff] at hl
  exact h (mode ▸ hm) seat pos hs hp hl

theorem WakeDone.takesReports {n : Computer} {s t : State} (h : WakeDone n s t) (m : Computer) :
    t.ports[m].link.takesReports = s.ports[m].link.takesReports := by
  by_cases e : m = n
  · rw [e]
    exact h.reports
  · rw [(h.others m e).2]

theorem NoticesOnly.takesReports {s t : State} (h : NoticesOnly s t) (m : Computer) :
    t.ports[m].link.takesReports = s.ports[m].link.takesReports := by rw [h.link]

/-- The position told before the wake and the announcement of a focus change stays told. -/
theorem positionTold_announced {n : Computer} {x : State} (h : positionTold x) (ht : x.typeout.state ≠ .typing) :
    positionTold (announceFocus (wakeOnFocus (some n) x)) := by
  have wake := wakeDone_wakeOnFocus (n := n) ht
  generalize wakeOnFocus (some n) x = y at wake
  refine positionTold_later (t := announceFocus y) h wake.mode wake.keptGlide (wake.deskStill.trans (deskStill_announceFocus _)) wake.tables
    wake.channels fun m => ?_
  rw [(announceFocus_ports _).takesReports, wake.takesReports]

/-! ### Seating for the new focus computer (R66) -/

theorem seatFor_own {n : Computer} {s : State} (h : seatOwner s = some n) : seatFor (some n) s = setMode .glide s := by
  unfold seatFor
  dsimp only
  rw [if_pos h]

theorem seatFor_remembered {n : Computer} {s : State} {pos : Nat × Nat} {tile : Tile} (h : seatOwner s ≠ some n)
    (hr : rememberedTile s n = some (pos, tile)) : seatFor (some n) s = setMode .glide (placeAt pos tile n s) := by
  unfold seatFor
  dsimp only
  rw [if_neg h, hr]

theorem seatFor_first {n : Computer} {s : State} {tile : Tile} (h : seatOwner s ≠ some n)
    (hr : rememberedTile s n = none) (hl : firstLiveOf s n = some tile) :
    seatFor (some n) s = setMode .glide (placeAt tile.centre tile n s) := by
  unfold seatFor
  dsimp only
  rw [if_neg h, hr]
  dsimp only
  rw [hl]

theorem seatFor_nowhere {n : Computer} {s : State} (h : seatOwner s ≠ some n) (hr : rememberedTile s n = none)
    (hl : firstLiveOf s n = none) : seatFor (some n) s = setMode .detached s := by
  unfold seatFor
  dsimp only
  rw [if_neg h, hr]
  dsimp only
  rw [hl]

/-- The tile of a computer on which the pointer lies is a live tile of it. -/
theorem firstLiveOf_ne_none {n : Computer} {s : State} {tile : Tile} (hm : tile ∈ allTiles s) (ho : liveOwner s tile = some n) :
    firstLiveOf s n ≠ none := fun h =>
  List.find?_eq_none.1 h tile hm (decide_eq_true ho)

theorem seatOwner_of_none {n : Computer} {s : State} (h : firstLiveOf s n = none) : seatOwner s ≠ some n := by
  intro ho
  unfold seatOwner at ho
  split at ho
  · cases ho
  next tile ht =>
    unfold seatTile at ht
    split at ht
    · cases ht
    · exact firstLiveOf_ne_none (screenTiles_sub (List.mem_of_find?_eq_some ht)) ho h

theorem rememberedTile_of_none {n : Computer} {s : State} (h : firstLiveOf s n = none) : rememberedTile s n = none := by
  cases hr : rememberedTile s n with
  | none => rfl
  | some pt =>
    obtain ⟨hm, ho, -⟩ := rememberedTile_some (pos := pt.1) (t := pt.2) hr
    exact absurd h (firstLiveOf_ne_none hm ho)

theorem rememberedTile_congr {s t : State} (h : DeskStill s t) {n : Computer}
    (hr : t.glide.remembered[n] = s.glide.remembered[n]) : rememberedTile t n = rememberedTile s n := by
  unfold rememberedTile
  rw [hr]
  simp only [h.locate, h.liveOwner]

theorem rememberHere_owned {s : State} {m : Computer} (hf : s.focus.focus = some m) (ho : seatOwner s = some m) :
    (rememberHere s).glide.remembered[m] = some (s.glide.px, s.glide.py) := by
  have e : rememberHere s = remember m (s.glide.px, s.glide.py) s := by
    unfold rememberHere
    rw [hf]
    exact if_pos ho
  rw [e]
  show (s.glide.remembered.set m (some (s.glide.px, s.glide.py)))[m] = _
  simp

theorem rememberHere_other {s : State} {n : Computer} (hn : s.focus.focus ≠ some n) :
    (rememberHere s).glide.remembered[n] = s.glide.remembered[n] := by
  unfold rememberHere
  split
  · rfl
  next f hf =>
    split
    · show (s.glide.remembered.set f (some (s.glide.px, s.glide.py)))[n] = _
      have : f.val ≠ n.val := fun e => hn (hf.trans (congrArg some (Fin.ext e)))
      simp [this]
    · rfl

theorem seatFor_rememberedAll (n) (s : State) : (seatFor n s).glide.remembered = s.glide.remembered := by
  have mode : ∀ (m : PointerMode) (u : State), (setMode m u).glide = u.glide := fun m u => by cases m <;> rfl
  unfold seatFor
  split
  · rw [mode]
  · split
    · rw [mode]
    · split
      · rw [mode]; rfl
      · split
        · rw [mode]; rfl
        · rw [mode]

/-! ### A focus change that seats the pointer -/

/-- The state of a focus change to `n` before the pointer is seated. -/
def focusReady (n : Computer) (s : State) : State :=
  setFocusTo (some n) (rememberHere (focusLeft s))

theorem focusChange_eq {n : Computer} {s : State} (hne : s.focus.focus ≠ some n) : focusChange (some n) s =
    announceFocus (wakeOnFocus (some n) (considerPosition (seatFor (some n) (focusReady n s)))) :=
  if_neg hne

theorem focusChange_changed {n : Computer} {s : State} (hne : s.focus.focus ≠ some n) :
    FocusChanged n s (focusChange (some n) s) := by
  rw [focusChange_eq hne]
  exact focusChanged_of_steps hne (placing_rememberHere _) ((placing_seatFor _ _).trans (placing_considerPosition _))

/-- What the seating of a focus change to `n` finds: the desk of `s`, and its remembered positions but the old focus
computer's. -/
structure SeatingReady (n : Computer) (s t : State) : Prop where
  still : DeskStill s t
  own : t.glide.remembered[n] = s.glide.remembered[n]
  old : ∀ m : Computer, s.focus.focus = some m → seatOwner s = some m →
    t.glide.remembered[m] = some (s.glide.px, s.glide.py)

theorem focusReady_ready {n : Computer} {s : State} (hne : s.focus.focus ≠ some n) : SeatingReady n s (focusReady n s) := by
  have calm := calm_focusLeft s
  have glide : (focusReady n s).glide = (rememberHere (focusLeft s)).glide := (focusSet_setFocusTo n _).glide
  refine ⟨calm.deskStill.trans ((deskStill_rememberHere _).trans (deskStill_setFocusTo _ _)), ?_, fun m hf ho => ?_⟩
  · rw [glide, rememberHere_other (by rw [calm.focused]; exact hne), calm.remembered]
  · rw [glide, rememberHere_owned (calm.focused.trans hf) (calm.deskStill.seatOwner.trans ho), calm.px, calm.py]

theorem focusReady_idle (n : Computer) (s : State) :
    (considerPosition (seatFor (some n) (focusReady n s))).typeout.state ≠ .typing := by
  rw [(placing_considerPosition _).typeout, (placing_seatFor _ _).typeout, focusReady, (focusSet_setFocusTo n _).typeout,
    (placing_rememberHere _).typeout, focusLeft_mailbox]
  exact endTypeout_not_typing _ s

/-- The pointer and the mode that a focus change to `n` leaves. -/
structure Placed (mode : PointerMode) (pos : Nat × Nat) (seat : Option Seat) (t : State) : Prop where
  mode : t.focus.mode = mode
  pos : (t.glide.px, t.glide.py) = pos
  seat : t.glide.seat = seat

theorem Placed.served {mode pos seat} {s t : State} (h : Placed mode pos seat s) (k : Served s t) : Placed mode pos seat t :=
  ⟨k.mode.trans h.mode, by rw [k.px, k.py]; exact h.pos, k.seat.trans h.seat⟩

theorem placed_setMode (m : PointerMode) (s : State) :
    Placed m (s.glide.px, s.glide.py) s.glide.seat (setMode m s) := by
  cases m <;> exact ⟨rfl, rfl, rfl⟩

theorem placed_focusChange {n : Computer} {s : State} {mode pos seat} (hne : s.focus.focus ≠ some n)
    (h : Placed mode pos seat (seatFor (some n) (focusReady n s))) : Placed mode pos seat (focusChange (some n) s) := by
  have k := h.served (served_considerPosition _)
  obtain ⟨m, g⟩ := announced_pointer (n := n) (focusReady_idle n s)
  rw [focusChange_eq hne]
  exact ⟨m.trans k.mode, by rw [g]; exact k.pos, by rw [g]; exact k.seat⟩

/-- Where a focus change to `n` seats the pointer (R66). -/
structure SeatedFor (n : Computer) (s t : State) : Prop where
  own : seatOwner s = some n → Placed .glide (s.glide.px, s.glide.py) s.glide.seat t
  remembered : ∀ pos tile, seatOwner s ≠ some n → rememberedTile s n = some (pos, tile) →
    Placed .glide pos (some ⟨tile.screen, tile.quad, n⟩) t
  first : ∀ tile, seatOwner s ≠ some n → rememberedTile s n = none → firstLiveOf s n = some tile →
    Placed .glide tile.centre (some ⟨tile.screen, tile.quad, n⟩) t
  nowhere : firstLiveOf s n = none → Placed .detached (s.glide.px, s.glide.py) s.glide.seat t

theorem focusChange_seatedFor {n : Computer} {s : State} (hne : s.focus.focus ≠ some n) :
    SeatedFor n s (focusChange (some n) s) := by
  have ready := focusReady_ready hne
  have owner := ready.still.seatOwner
  have tile := rememberedTile_congr ready.still ready.own
  have first := ready.still.firstLiveOf n
  have here : ∀ mode, Placed mode (s.glide.px, s.glide.py) s.glide.seat (setMode mode (focusReady n s)) := fun mode => by
    rw [← ready.still.px, ← ready.still.py, ← ready.still.seat]
    exact placed_setMode mode _
  refine ⟨fun ho => placed_focusChange hne ?_, fun pos t ho hr => placed_focusChange hne ?_,
    fun t ho hr hl => placed_focusChange hne ?_, fun hl => placed_focusChange hne ?_⟩
  · rw [seatFor_own (owner.trans ho)]
    exact here .glide
  · rw [seatFor_remembered (by rw [owner]; exact ho) (tile.trans hr)]
    exact ⟨rfl, rfl, rfl⟩
  · rw [seatFor_first (by rw [owner]; exact ho) (tile.trans hr) (first.trans hl)]
    exact ⟨rfl, rfl, rfl⟩
  · rw [seatFor_nowhere (by rw [owner]; exact seatOwner_of_none hl) (tile.trans (rememberedTile_of_none hl))
      (first.trans hl)]
    exact here .detached

theorem focusChange_remembers {n m : Computer} {s : State} (hne : s.focus.focus ≠ some n) (hf : s.focus.focus = some m)
    (ho : seatOwner s = some m) : (focusChange (some n) s).glide.remembered[m] = some (s.glide.px, s.glide.py) := by
  have ready := focusReady_ready hne
  rw [focusChange_eq hne, (announced_pointer (n := n) (focusReady_idle n s)).2, (served_considerPosition _).remembered,
    seatFor_rememberedAll]
  exact ready.old m hf ho

theorem focusChange_positionTold {n : Computer} {s : State} (hne : s.focus.focus ≠ some n) :
    positionTold (focusChange (some n) s) := by
  rw [focusChange_eq hne]
  exact positionTold_announced (positionTold_considerPosition _) (focusReady_idle n s)

/-- FOCUS n by the parked field and the focus computer. -/
theorem actFocus_of {n : Computer} {k : Nat} (h : num n = k) (s : State) :
    actFocus k s = if s.tables.computer[n].parked then s else focusChange (some n) s := by
  unfold actFocus
  rw [ofNum_eq_some h]

theorem focusChange_same {n : Option Computer} {s : State} (h : s.focus.focus = n) : focusChange n s = s :=
  if_pos h

/-- Settles O33, by the steps of a focus change and the cases of its seating. -/
theorem focusActionSeatsPointer : Obligations.FocusActionSeatsPointer := by
  unfold Obligations.FocusActionSeatsPointer
  intro a b s
  refine ⟨fun h => ?_, fun n hn => ⟨fun h => ?_, fun hp hf => ?_⟩⟩
  · rw [exec_focus, actFocus, ofNum_eq_none h]
  · rw [exec_focus, actFocus_of hn]
    by_cases hp : s.tables.computer[n].parked = true
    · rw [if_pos hp]
    · rw [if_neg hp, focusChange_same (h.resolve_left hp)]
  · have run : exec (.focus (.hotkey a b)) s = .next (focusChange (some n) s) := by
      rw [exec_focus, actFocus_of hn, if_neg (by rw [hp]; decide)]
    have c := focusChange_changed hf
    have p := focusChange_seatedFor hf
    have own : ∀ {mode pos seat}, Placed mode pos seat (focusChange (some n) s) →
        (focusChange (some n) s).focus.mode = mode ∧ (focusChange (some n) s).glide.px = pos.1 ∧
          (focusChange (some n) s).glide.py = pos.2 ∧ (focusChange (some n) s).glide.seat = seat := fun h =>
      ⟨h.mode, congrArg Prod.fst h.pos, congrArg Prod.snd h.pos, h.seat⟩
    exact ⟨_, run, c.focused, c.previous, c.remainder.1, c.remainder.2, c.broadcast, c.idle, c.outcome,
      fun m hm => ⟨c.released m hm, focusChange_remembers hf hm⟩, c.others, fun h => own (p.own h),
      fun pos tile h hr => have k := p.remembered pos tile h hr; ⟨k.mode, k.pos, k.seat⟩,
      fun tile h hr hl => have k := p.first tile h hr hl; ⟨k.mode, k.pos, k.seat⟩, fun h => own (p.nowhere h), c.alerts,
      c.acknowledged, c.wake, c.announced, focusChange_positionTold hf, c.frames,
      (quiet_focusChange (some n) s).deskKept c.screens⟩

end Sys2Proof.Machine
end


section
/-! ## Re-seats (R37, R68, R69) -/

namespace Sys2Proof.Machine

/-! ### The focus change of a re-seat -/

theorem focusChangePlaced_changed {n : Computer} {s : State} (handed) (hne : s.focus.focus ≠ some n) :
    FocusChanged n s (focusChangePlaced n handed s) := by
  have e : focusChangePlaced n handed s = announceFocus (wakeOnFocus (some n) (setFocusTo (some n)
      (rememberHanded handed (focusLeft s)))) := if_neg hne
  rw [e]
  exact focusChanged_of_steps hne (placing_rememberHanded handed _) (.refl _)

/-- A focus change with the pointer placed leaves the pointer, and remembers the position handed over. -/
theorem focusChangePlaced_glide {n : Computer} {s : State} (handed) (hne : s.focus.focus ≠ some n) :
    (focusChangePlaced n handed s).glide = (rememberHanded handed (focusLeft s)).glide := by
  have e : focusChangePlaced n handed s = announceFocus (wakeOnFocus (some n) (setFocusTo (some n)
      (rememberHanded handed (focusLeft s)))) := if_neg hne
  have set := focusSet_setFocusTo n (rememberHanded handed (focusLeft s))
  rw [e, (announced_pointer _).2, set.glide]
  rw [set.typeout, (placing_rememberHanded handed _).typeout, focusLeft_mailbox]
  exact endTypeout_not_typing _ s

theorem focusChangePlaced_unhanded {n : Computer} {s : State} (hne : s.focus.focus ≠ some n) :
    (focusChangePlaced n none s).glide = s.glide := by
  have same : rememberHanded none (focusLeft s) = focusLeft s := by
    unfold rememberHanded
    split
    next h => cases h
    next => rfl
  rw [focusChangePlaced_glide none hne, same, (calm_focusLeft s).keptGlide]

/-! ### What the report of the position leaves -/

theorem considerReport_focus (wheel) (s : State) : (considerReport wheel s).focus = s.focus := by
  rw [(served_considerReport wheel s).focus, (placing_considerReport wheel s).beliefs]

theorem considerPosition_focus (s : State) : (considerPosition s).focus = s.focus := by
  rw [(served_considerPosition s).focus, (placing_considerPosition s).beliefs]

/-! ### The outcome MOVED (R37) -/

theorem deskEmpty_iff (s : State) : deskEmpty s = true ↔ s.console.deskKeys = [] ∧ s.console.deskButtons = [] := by
  simp [deskEmpty]

/-- What an answer to a re-seat outcome leaves, the pointer record and the mode apart. -/
structure Answered (s t : State) : Prop where
  told : positionTold t
  screens : screensKept s t
  heard : Heard s t
  broadcast : t.focus.broadcast = s.focus.broadcast
  stays : t.focus.focus = s.focus.focus → t.screens = s.screens ∧ t.alerts = s.alerts ∧ t.typeout = s.typeout ∧
    t.focus.beliefs = s.focus.beliefs
  moves : ∀ m : Computer, t.focus.focus = some m → s.focus.focus ≠ some m →
    framesAnew t ∧ t.alerts = { s.alerts with
      list := s.alerts.list.filter fun e => !decide (e.computer = m ∧ e.kind = .latched) }
  still : DeskStill s t
  remembered : t.glide.remembered = s.glide.remembered
  listed : t.alerts = { s.alerts with list := t.alerts.list }
  entries : ∀ e ∈ t.alerts.list, e ∈ s.alerts.list

/-- An answer that only sets the mode. -/
theorem answered_setMode (m) (s : State) : Answered s (considerPosition (setMode m s)) := by
  have placing := (placing_setMode m s).trans (placing_considerPosition _)
  have served := served_considerPosition (setMode m s)
  refine ⟨positionTold_considerPosition _, fun sc => ?_, placing.heard, placing.broadcast,
    fun _ => ⟨placing.screens, placing.alerts, placing.typeout, placing.beliefs⟩,
    fun n hn hne => absurd (placing.focused.symm.trans hn) hne, (deskStill_setMode m s).trans served.deskStill, ?_, by rw [placing.alerts],
    by rw [placing.alerts]; exact fun _ => id⟩
  · rw [placing.screens]
    exact screensKept_refl s sc
  · rw [served.remembered]
    cases m <;> rfl

/-- What the outcome MOVED leaves where it changes the focus to `n` (R27, R37). -/
structure MovesTo (n : Computer) (s t : State) : Prop where
  focused : t.focus.focus = some n
  previous : t.focus.previous = s.focus.focus
  mode : t.focus.mode = .glide
  rx : t.focus.rx = 0
  ry : t.focus.ry = 0
  broadcast : t.focus.broadcast = s.focus.broadcast
  remembered : t.glide.remembered = s.glide.remembered
  released : ∀ f : Computer, s.focus.focus = some f → s.focus.broadcast[f] = false → t.focus.beliefs[f] = ⟨[], []⟩
  idle : t.typeout.state ≠ .typing
  outcome : s.typeout.state = .typing →
    t.typeout.outcome = some ⟨.cancelledFocus, s.typeout.typed, s.typeout.skipped⟩
  announced : announced .focus t
  frames : framesAnew t

/-- An answer that changes the focus to `n`. -/
theorem answered_focusChange {n : Computer} {s : State} (hne : s.focus.focus ≠ some n) :
    Answered s (considerPosition (setMode .glide (focusChangePlaced n none s))) ∧
      MovesTo n s (considerPosition (setMode .glide (focusChangePlaced n none s))) := by
  have c := focusChangePlaced_changed none hne
  have glide := focusChangePlaced_unhanded hne
  have still := (focusChangePlaced_still n none s).1
  generalize focusChangePlaced n none s = u at c glide still
  have placing := (placing_setMode .glide u).trans (placing_considerPosition _)
  have served := served_considerPosition (setMode .glide u)
  have focused : (considerPosition (setMode .glide u)).focus.focus = some n := placing.focused.trans c.focused
  have frames : framesAnew (considerPosition (setMode .glide u)) :=
    framesAnew_congr c.frames placing.screens placing.tables placing.focused (by rw [placing.alerts])
  have told : positionTold (considerPosition (setMode .glide u)) := positionTold_considerPosition _
  have onDesk : DeskStill s (considerPosition (setMode .glide u)) :=
    still.trans ((deskStill_setMode .glide u).trans served.deskStill)
  have remembered : (considerPosition (setMode .glide u)).glide.remembered = s.glide.remembered := by
    rw [served.remembered, ← glide]
    rfl
  have mode : (considerPosition (setMode .glide u)).focus.mode = .glide := served.mode
  generalize considerPosition (setMode .glide u) = t at placing focused frames told onDesk remembered mode
  obtain ⟨rx, ry⟩ := placing.remainder c.remainder.1 c.remainder.2
  refine ⟨⟨told, fun sc => ?_, c.heard.trans placing.heard, placing.broadcast.trans c.broadcast,
      fun h => absurd (h.symm.trans focused) hne, fun m hm _ => ?_, onDesk, remembered,
      by rw [placing.alerts, c.alerts], by rw [placing.alerts, c.alerts]; exact fun e he => List.mem_of_mem_filter he⟩,
    ⟨focused, placing.previous.trans c.previous, mode, rx, ry, placing.broadcast.trans c.broadcast, remembered,
      by rw [placing.beliefs]; exact c.released, by rw [placing.typeout]; exact c.idle,
      by rw [placing.typeout]; exact c.outcome, placing.heard.announced c.announced, frames⟩⟩
  · rw [placing.screens]
    exact c.screens sc
  · obtain rfl := Option.some.inj (focused.symm.trans hm)
    exact ⟨frames, placing.alerts.trans c.alerts⟩

/-- The answer to a re-seat outcome, with the position report of R70. -/
def answerReseat (o : ReseatOutcome) (s : State) : State :=
  considerPosition (actOnReseat o s)

theorem answered_answerReseat (o : ReseatOutcome) (s : State) : Answered s (answerReseat o s) := by
  have same : ∀ u : State, Answered u (considerPosition u) := fun u => by
    have placing := placing_considerPosition u
    have served := served_considerPosition u
    refine ⟨positionTold_considerPosition u, fun sc => ?_, placing.heard, placing.broadcast,
      fun _ => ⟨placing.screens, placing.alerts, placing.typeout, placing.beliefs⟩,
      fun n hn hne => absurd (placing.focused.symm.trans hn) hne, served.deskStill, served.remembered,
      by rw [placing.alerts], by rw [placing.alerts]; exact fun _ => id⟩
    rw [placing.screens]
    exact screensKept_refl u sc
  unfold answerReseat actOnReseat
  cases o with
  | same => exact same s
  | moved c =>
    dsimp only
    split
    · exact answered_setMode .glide s
    next hne =>
      split
      · exact (answered_focusChange hne).1
      · exact answered_setMode .held s
  | unseated => exact answered_setMode .detached s

/-- The answer to the outcome MOVED (R37). -/
theorem movedTo_answerReseat (n : Computer) (s : State) : movedTo n s (answerReseat (.moved n) s) := by
  refine ⟨fun hf => ?_, fun hf hk hb => ?_, fun hf held => ?_⟩
  · have e : actOnReseat (.moved n) s = setMode .glide s := if_pos hf
    rw [answerReseat, e, considerPosition_focus]
    rfl
  · have e : actOnReseat (.moved n) s = setMode .glide (focusChangePlaced n none s) :=
      (if_neg hf).trans (if_pos ((deskEmpty_iff s).2 ⟨hk, hb⟩))
    rw [answerReseat, e]
    have m := (answered_focusChange hf).2
    exact ⟨m.focused, m.previous, m.mode, m.rx, m.ry, m.broadcast, m.remembered, m.released, m.idle, m.outcome, m.announced,
      m.frames⟩
  · have e : actOnReseat (.moved n) s = setMode .held s :=
      (if_neg hf).trans (if_neg fun h => by
        obtain ⟨hk, hb⟩ := (deskEmpty_iff s).1 h
        exact held.elim (absurd hk) (absurd hb))
    rw [answerReseat, e, considerPosition_focus]
    rfl

/-- The placement changes the pointer alone. -/
structure SameButPointer (s t : State) : Prop where
  focus : t.focus = s.focus
  deskKeys : t.console.deskKeys = s.console.deskKeys
  deskButtons : t.console.deskButtons = s.console.deskButtons
  typeout : t.typeout = s.typeout
  remembered : t.glide.remembered = s.glide.remembered

theorem movedTo_congr {n : Computer} {r s t : State} (h : movedTo n s t) (k : SameButPointer r s) : movedTo n r t := by
  unfold movedTo at h ⊢
  rw [k.focus, k.deskKeys, k.deskButtons, k.typeout, k.remembered] at h
  exact h

/-! ### The placement (R69) -/

/-- A re-seat places the pointer, then the focus controller answers the outcome. -/
theorem reseat_eq (s : State) : reseat s = answerReseat (reseatPlace s).2 (reseatPlace s).1 := rfl

theorem reseatPlace_samePointer (s : State) : SameButPointer s (reseatPlace s).1 := by
  unfold reseatPlace
  split
  · exact ⟨rfl, rfl, rfl, rfl, rfl⟩
  · split <;> exact ⟨rfl, rfl, rfl, rfl, rfl⟩

/-- The desk that the placement leaves: the tables, screens, alerts and events of before. -/
theorem reseatPlace_keeps_desk (s : State) : (reseatPlace s).1.tables = s.tables ∧ (reseatPlace s).1.screens = s.screens ∧
    (reseatPlace s).1.alerts = s.alerts ∧ (reseatPlace s).1.mgmt = s.mgmt := by
  unfold reseatPlace
  split
  · exact ⟨rfl, rfl, rfl, rfl⟩
  · split <;> exact ⟨rfl, rfl, rfl, rfl⟩

theorem reseatPlace_stays {s : State} {tile : Tile} {n : Computer} (h : stayTile s = some (tile, n)) : reseatPlace s =
    (s.setGlide { s.glide with seat := some ⟨tile.screen, tile.quad, n⟩ },
      if s.glide.seat = some ⟨tile.screen, tile.quad, n⟩ then .same else .moved n) := by
  unfold reseatPlace
  rw [h]

theorem reseatPlace_moves {s : State} {tile : Tile} {n : Computer} (h : stayTile s = none) (hn : newTile s = some (tile, n)) :
    reseatPlace s = (placeAt tile.centre tile n s, .moved n) := by
  unfold reseatPlace
  rw [h]
  dsimp only
  rw [hn]

theorem reseatPlace_unseats {s : State} (h : stayTile s = none) (hn : newTile s = none) :
    reseatPlace s = (s.setGlide { s.glide with seat := none }, .unseated) := by
  unfold reseatPlace
  rw [h]
  dsimp only
  rw [hn]

/-- The tiles on which a re-seat decides, with their owners. -/
structure SameTiles (s t : State) : Prop where
  locate : ∀ x y, locate t x y = locate s x y
  liveOwner : ∀ tile, liveOwner t tile = liveOwner s tile
  firstLiveOf : ∀ n, firstLiveOf t n = firstLiveOf s n
  firstLive : firstLive t = firstLive s

theorem DeskStill.sameTiles {s t : State} (h : DeskStill s t) : SameTiles s t :=
  ⟨h.locate, h.liveOwner, h.firstLiveOf, h.firstLive⟩

theorem SameTiles.trans {s t u : State} (h : SameTiles s t) (k : SameTiles t u) : SameTiles s u :=
  ⟨fun x y => (k.locate x y).trans (h.locate x y), fun tile => (k.liveOwner tile).trans (h.liveOwner tile),
    fun n => (k.firstLiveOf n).trans (h.firstLiveOf n), k.firstLive.trans h.firstLive⟩

theorem sameTiles_of_eq {s t : State} (ht : t.tables = s.tables) (hs : t.screens = s.screens) : SameTiles s t := by
  have tiles : ∀ sc, screenTiles t sc = screenTiles s sc := fun sc => by
    unfold screenTiles
    rw [ht, hs]
  have all : allTiles t = allTiles s := by
    unfold allTiles
    rw [show screenTiles t = screenTiles s from funext tiles]
  have live : ∀ tile, Machine.liveOwner t tile = Machine.liveOwner s tile := fun tile => by
    unfold Machine.liveOwner
    rw [ht, hs]
  refine ⟨fun x y => ?_, live, fun n => ?_, ?_⟩
  · unfold Machine.locate
    rw [all]
  · unfold Machine.firstLiveOf
    simp only [all, live]
  · unfold Machine.firstLive
    simp only [all, live]

/-- The pointer stays on a tile, as the re-seat law has it. -/
def staysOn (s t : State) (tile : Tile) (n : Computer) : Prop :=
  s.glide.seat.isSome = true ∧ locate t (s.glide.px / 16) (s.glide.py / 16) = some tile ∧ liveOwner t tile = some n

theorem stayTile_iff {s : State} {tile : Tile} {n : Computer} : stayTile s = some (tile, n) ↔ staysOn s s tile n := by
  unfold stayTile staysOn
  constructor
  · intro h
    split at h
    · cases h
    next seat hs =>
      split at h
      · cases h
      next tile hl =>
        split at h
        · cases h
        next n ho =>
          cases h
          exact ⟨by rw [hs]; rfl, hl, ho⟩
  · rintro ⟨hs, hl, ho⟩
    obtain ⟨seat, hs⟩ := Option.isSome_iff_exists.1 hs
    rw [hs, hl]
    dsimp only
    rw [ho]

theorem staysOn_congr {s t : State} (h : SameTiles s t) (tile : Tile) (n : Computer) : staysOn s t tile n ↔ staysOn s s tile n := by
  unfold staysOn
  rw [h.locate, h.liveOwner]

theorem stayTile_none_iff {s : State} : stayTile s = none ↔ ∀ tile n, ¬ staysOn s s tile n := by
  rw [Option.eq_none_iff_forall_ne_some]
  exact ⟨fun h tile n k => h (tile, n) (stayTile_iff.2 k), fun h tn k => h tn.1 tn.2 (stayTile_iff.1 k)⟩

theorem newTile_own {s : State} {f : Computer} {tile : Tile} (hf : s.focus.focus = some f)
    (hl : firstLiveOf s f = some tile) : newTile s = some (tile, f) := by
  unfold newTile
  rw [hf]
  dsimp only
  rw [hl]

/-- Without a live tile of the focus computer the first live tile of any computer is the new one (R69). -/
theorem newTile_first {s : State} {tile : Tile} {n : Computer} (h : ∀ f, s.focus.focus = some f → firstLiveOf s f = none)
    (ht : firstLive s = some tile) (hn : liveOwner s tile = some n) : newTile s = some (tile, n) := by
  unfold newTile
  cases hf : s.focus.focus with
  | none =>
    dsimp only
    rw [ht]
    dsimp only
    rw [hn]
  | some f =>
    dsimp only
    rw [h f hf]
    dsimp only
    rw [ht]
    dsimp only
    rw [hn]

theorem newTile_nowhere {s : State} (h : ∀ f, s.focus.focus = some f → firstLiveOf s f = none)
    (ht : firstLive s = none) : newTile s = none := by
  unfold newTile
  cases hf : s.focus.focus with
  | none =>
    dsimp only
    rw [ht]
  | some f =>
    dsimp only
    rw [h f hf]
    dsimp only
    rw [ht]

/-! ### A re-seat as a whole -/

theorem reseat_sameTiles (s : State) : SameTiles s (reseat s) := by
  obtain ⟨tables, screens, -, -⟩ := reseatPlace_keeps_desk s
  exact (sameTiles_of_eq tables screens).trans (answered_answerReseat _ _).still.sameTiles

/-- A re-seat that places the pointer at `p` in the outcome `o`. -/
theorem reseat_of_place {s p : State} {o : ReseatOutcome} (h : reseatPlace s = (p, o)) :
    reseat s = answerReseat o p ∧ (reseat s).glide.px = p.glide.px ∧ (reseat s).glide.py = p.glide.py ∧
      (reseat s).glide.seat = p.glide.seat ∧ SameButPointer s p := by
  have e : reseat s = answerReseat o p := by rw [reseat_eq, h]
  have still := (answered_answerReseat o p).still
  have same := reseatPlace_samePointer s
  rw [h] at same
  rw [e]
  exact ⟨rfl, still.px, still.py, still.seat, same⟩

/-- The re-seat law: where the pointer goes, and what the focus controller makes of it (R37, R69). -/
theorem reseated_reseat (s : State) : reseated s (reseat s) := by
  have tiles := reseat_sameTiles s
  have centred : ∀ tile n, reseatPlace s = (placeAt tile.centre tile n s, .moved n) →
      ((reseat s).glide.px, (reseat s).glide.py) = tile.centre ∧
        (reseat s).glide.seat = some ⟨tile.screen, tile.quad, n⟩ ∧ movedTo n s (reseat s) := fun tile n h => by
    obtain ⟨e, px, py, seat, same⟩ := reseat_of_place h
    refine ⟨by rw [px, py]; rfl, seat, ?_⟩
    rw [e]
    exact movedTo_congr (movedTo_answerReseat n _) same
  refine ⟨fun tile n stays => ?_, fun moves => ?_⟩
  · obtain ⟨e, px, py, seat, same⟩ := reseat_of_place (reseatPlace_stays (stayTile_iff.2 ((staysOn_congr tiles tile n).1 stays)))
    refine ⟨⟨px, py⟩, seat, fun hs => ?_, fun hs => ?_⟩
    · rw [e, if_pos hs]
      exact considerPosition_focus _
    · rw [e, if_neg hs]
      exact movedTo_congr (movedTo_answerReseat n _) same
  · have away : stayTile s = none :=
      stayTile_none_iff.2 fun tile n h => moves tile n ((staysOn_congr tiles tile n).2 h)
    refine ⟨fun f tile hf hl => ?_, fun nowhere => ⟨fun tile n hl ho => ?_, fun hl => ?_⟩⟩
    · rw [tiles.firstLiveOf] at hl
      exact centred tile f (reseatPlace_moves away (newTile_own hf hl))
    · rw [tiles.firstLive] at hl
      rw [tiles.liveOwner] at ho
      refine centred tile n (reseatPlace_moves away (newTile_first (fun f hf => ?_) hl ho))
      exact (tiles.firstLiveOf f).symm.trans (nowhere f hf)
    · rw [tiles.firstLive] at hl
      have nothing : newTile s = none :=
        newTile_nowhere (fun f hf => (tiles.firstLiveOf f).symm.trans (nowhere f hf)) hl
      obtain ⟨e, px, py, seat, -⟩ := reseat_of_place (reseatPlace_unseats away nothing)
      refine ⟨⟨px, py⟩, seat, ?_⟩
      rw [e]
      exact considerPosition_focus _

/-- What a re-seat leaves (R37, R69, R70). -/
structure Reseats (s t : State) : Prop where
  law : reseated s t
  told : positionTold t
  screens : screensKept s t
  heard : Heard s t
  broadcast : t.focus.broadcast = s.focus.broadcast
  stays : t.focus.focus = s.focus.focus → t.screens = s.screens ∧ t.alerts = s.alerts ∧ t.typeout = s.typeout ∧
    t.focus.beliefs = s.focus.beliefs
  moves : ∀ m : Computer, t.focus.focus = some m → s.focus.focus ≠ some m →
    framesAnew t ∧ t.alerts = { s.alerts with
      list := s.alerts.list.filter fun e => !decide (e.computer = m ∧ e.kind = .latched) }
  remembered : t.glide.remembered = s.glide.remembered
  listed : t.alerts = { s.alerts with list := t.alerts.list }
  entries : ∀ e ∈ t.alerts.list, e ∈ s.alerts.list

theorem reseats_reseat (s : State) : Reseats s (reseat s) := by
  obtain ⟨tables, screens, alerts, mgmt⟩ := reseatPlace_keeps_desk s
  have same := reseatPlace_samePointer s
  have a := answered_answerReseat (reseatPlace s).2 (reseatPlace s).1
  have law := reseated_reseat s
  rw [reseat_eq] at law ⊢
  generalize answerReseat (reseatPlace s).2 (reseatPlace s).1 = t at a law
  refine ⟨law, a.told, fun sc => ?_, (heard_of_eq tables (by rw [mgmt])).trans a.heard, ?_, fun h => ?_, fun m hm hne => ?_,
    a.remembered.trans same.remembered, by rw [← alerts]; exact a.listed, by rw [← alerts]; exact a.entries⟩
  · rw [← screens]
    exact a.screens sc
  · rw [a.broadcast, same.focus]
  · obtain ⟨h1, h2, h3, h4⟩ := a.stays (h.trans (by rw [same.focus]))
    exact ⟨h1.trans screens, h2.trans alerts, h3.trans same.typeout, h4.trans (by rw [same.focus])⟩
  · rw [← alerts]
    exact a.moves m hm (by rw [same.focus]; exact hne)

/-! ### Changes before and after a re-seat -/

/-- The law by the records of another state with the same pointer. -/
theorem reseated_before {r s t : State} (h : reseated s t) (glide : s.glide = r.glide) (k : SameButPointer r s) :
    reseated r t := by
  unfold reseated at h ⊢
  rw [glide] at h
  rw [k.focus] at h
  obtain ⟨stays, moves⟩ := h
  refine ⟨fun tile n hs => ?_, fun away => ?_⟩
  · obtain ⟨unmoved, seat, same, moved⟩ := stays tile n hs
    exact ⟨unmoved, seat, same, fun hne => movedTo_congr (moved hne) k⟩
  · obtain ⟨own, nowhere⟩ := moves away
    refine ⟨fun f tile hf hl => ?_, fun hf => ?_⟩
    · obtain ⟨pos, seat, moved⟩ := own f tile hf hl
      exact ⟨pos, seat, movedTo_congr moved k⟩
    · obtain ⟨first, unseated⟩ := nowhere hf
      refine ⟨fun tile n hl ho => ?_, unseated⟩
      obtain ⟨pos, seat, moved⟩ := first tile n hl ho
      exact ⟨pos, seat, movedTo_congr moved k⟩

/-- What an operation after a re-seat may leave, for the re-seat law to hold of its outcome. -/
structure AfterReseat (t u : State) : Prop where
  still : DeskStill t u
  focus : u.focus = t.focus
  typeout : u.typeout = t.typeout
  remembered : u.glide.remembered = t.glide.remembered
  heard : Heard t u
  frames : framesAnew t → framesAnew u

theorem AfterReseat.trans {s t u : State} (h : AfterReseat s t) (k : AfterReseat t u) : AfterReseat s u :=
  ⟨h.still.trans k.still, k.focus.trans h.focus, k.typeout.trans h.typeout, k.remembered.trans h.remembered,
    h.heard.trans k.heard, fun f => k.frames (h.frames f)⟩

theorem movedTo_after {n : Computer} {s t u : State} (h : movedTo n s t) (k : AfterReseat t u) : movedTo n s u := by
  obtain ⟨own, moves, held⟩ := h
  unfold movedTo
  rw [k.focus, k.typeout, k.remembered]
  refine ⟨own, fun hf hk hb => ?_, held⟩
  obtain ⟨h1, h2, h3, h4, h5, h6, h7, h8, h9, h10, h11, h12⟩ := moves hf hk hb
  exact ⟨h1, h2, h3, h4, h5, h6, h7, h8, h9, h10, k.heard.announced h11, k.frames h12⟩

theorem reseated_after {s t u : State} (h : reseated s t) (k : AfterReseat t u) : reseated s u := by
  obtain ⟨stays, moves⟩ := h
  unfold reseated
  rw [k.still.px, k.still.py, k.still.seat, k.focus]
  simp only [k.still.locate, k.still.liveOwner, k.still.firstLiveOf, k.still.firstLive]
  refine ⟨fun tile n hs => ?_, fun away => ?_⟩
  · obtain ⟨unmoved, seat, same, moved⟩ := stays tile n hs
    exact ⟨unmoved, seat, same, fun hne => movedTo_after (moved hne) k⟩
  · obtain ⟨own, nowhere⟩ := moves away
    refine ⟨fun f tile hf hl => ?_, fun hf => ?_⟩
    · obtain ⟨pos, seat, moved⟩ := own f tile hf hl
      exact ⟨pos, seat, movedTo_after moved k⟩
    · obtain ⟨first, unseated⟩ := nowhere hf
      refine ⟨fun tile n hl ho => ?_, unseated⟩
      obtain ⟨pos, seat, moved⟩ := first tile n hl ho
      exact ⟨pos, seat, movedTo_after moved k⟩

end Sys2Proof.Machine
end


section
/-! ## Frame starts (R79, R90, R91) -/

namespace Sys2Proof.Machine

theorem State.modScreen_screen (s : State) (sc : ScreenNo) (f : Screen → Screen) :
    (s.modScreen sc f).screens[sc] = f s.screens[sc] := State.modScreen_screens_self s sc f

theorem State.modScreen_screen_ne (s : State) {sc x : ScreenNo} (f : Screen → Screen) (h : x ≠ sc) :
    (s.modScreen sc f).screens[x] = s.screens[x] := State.modScreen_screens_ne s f h.symm

/-! ### Composed frames -/

theorem tileContent_drawnIn (s : State) (sc : ScreenNo) (t : Tile) :
    drawnIn s sc t (tileContent s s.tables.layout[sc].fit t) := by
  unfold tileContent
  refine ⟨fun h => by rw [h], fun c hc => ⟨fun hl => ?_, fun tm hl ht => ?_⟩⟩
  · rw [hc]
    dsimp only
    split
    next h _ => exact absurd h hl
    next => rfl
  · rw [hc]
    dsimp only
    rw [hl, ht]

theorem length_tilesOf (sc : ScreenNo) (e : LayoutEntry) (a : Assignment) :
    (tilesOf sc e a).length ≤ 4 ∧ (e.enabled = true → (tilesOf sc e a).length = a.channels.length) := by
  unfold tilesOf
  split
  · cases a <;> exact ⟨by simp, fun _ => rfl⟩
  next h => exact ⟨Nat.zero_le _, fun k => absurd k h⟩

/-- The tiles as drawn: each with its content and its frame kind, NONE where there are too few kinds (R91). -/
def drawing (s : State) (sc : ScreenNo) (tiles : List Tile) (kinds : List FrameKind) : List (Tile × TileContent × FrameKind) :=
  tiles.zipWith (fun t k => (t, tileContent s s.tables.layout[sc].fit t, k)) (kinds ++ List.replicate 4 .none)

theorem drawing_tiles (s : State) (sc : ScreenNo) {tiles : List Tile} (h : tiles.length ≤ 4) (kinds : List FrameKind) :
    (drawing s sc tiles kinds).map (fun x => x.1) = tiles := by
  unfold drawing
  rw [List.map_zipWith]
  refine List.ext_getElem ?_ fun i h1 h2 => ?_
  · simp
    omega
  · simp

theorem drawing_drawnIn (s : State) (sc : ScreenNo) (tiles : List Tile) (kinds : List FrameKind) :
    ∀ x ∈ drawing s sc tiles kinds, drawnIn s sc x.1 x.2.1 := by
  intro x hx
  obtain ⟨i, hi, rfl⟩ := List.mem_iff_getElem.1 hx
  simp only [drawing, List.getElem_zipWith]
  exact tileContent_drawnIn s sc _

theorem drawing_kind (s : State) (sc : ScreenNo) (tiles : List Tile) (kinds : List FrameKind) {i : Nat}
    (hi : i < (drawing s sc tiles kinds).length) (hk : i < kinds.length) :
    (drawing s sc tiles kinds)[i]?.map (fun x => x.2.2) = kinds[i]? := by
  rw [List.getElem?_eq_getElem hi, List.getElem?_eq_getElem hk]
  simp [drawing, hk]

theorem drawing_kinds (s : State) (sc : ScreenNo) {tiles : List Tile} {kinds : List FrameKind}
    (h : tiles.length = kinds.length) : (drawing s sc tiles kinds).map (fun x => x.2.2) = kinds := by
  refine List.ext_getElem ?_ fun i h1 h2 => ?_
  · simp [drawing, h]
  · simp [drawing, h2]

/-- What is composed for a screen whose record is `r` (R90, R91). -/
structure ComposedAs (s : State) (sc : ScreenNo) (r : Screen) (x : Composed) : Prop where
  locked : r.blanked = true → x = .lockPattern
  disabled : r.blanked = false → s.tables.layout[sc].enabled = false → x = .black
  tiles : r.blanked = false → s.tables.layout[sc].enabled = true →
    x = .tiles r.native (drawing s sc (tilesOf sc s.tables.layout[sc] r.displayed) r.frames)

/-- On an enabled screen without the lock blanking the tiles are drawn (R91). -/
theorem ComposedAs.drawn {s : State} {sc : ScreenNo} {r : Screen} {x : Composed} (h : ComposedAs s sc r x)
    (hb : r.blanked = false) (he : s.tables.layout[sc].enabled = true) :
    ∃ drawn, x = .tiles r.native drawn ∧ drawn.map (fun y => y.1) = tilesOf sc s.tables.layout[sc] r.displayed ∧
      (∀ y ∈ drawn, drawnIn s sc y.1 y.2.1) ∧
      (∀ i, i < drawn.length → i < r.frames.length → drawn[i]?.map (fun y => y.2.2) = r.frames[i]?) ∧
      ((tilesOf sc s.tables.layout[sc] r.displayed).length = r.frames.length →
        drawn.map (fun y => y.2.2) = r.frames) :=
  ⟨_, h.tiles hb he, drawing_tiles s sc (length_tilesOf _ _ _).1 _, drawing_drawnIn s sc _ _,
    fun _ => drawing_kind s sc _ _, drawing_kinds s sc⟩

theorem compose_composedAs (s : State) (sc : ScreenNo) : ComposedAs s sc s.screens[sc] (compose s sc) := by
  unfold compose
  refine ⟨fun h => if_pos h, fun h he => ?_, fun h he => ?_⟩
  · rw [h, he]
    rfl
  · rw [h, he]
    rfl

/-- The state of a frame start once the pending parts are displayed and the screen composed. -/
def frameStarted (sc : ScreenNo) (s : State) : State :=
  composeScreen sc (takePending sc s)

/-- The screen's record of a frame start, whose displayed parts are those of `r`. -/
structure ScreenComposed (sc : ScreenNo) (r : Screen) (s t : State) : Prop where
  state : t = { s with screens := t.screens }
  others : ∀ x : ScreenNo, x ≠ sc → t.screens[x] = s.screens[x]
  record : t.screens[sc] = { r with blanked := decide (s.lock.state ≠ .unlocked), composed := t.screens[sc].composed }
  composed : ∃ x, t.screens[sc].composed = some x ∧
    ComposedAs s sc { r with blanked := decide (s.lock.state ≠ .unlocked) } x

/-- A composition after a change `f` of the screen's record. -/
theorem composeScreen_composed (sc : ScreenNo) (f : Screen → Screen) (s : State) :
    ScreenComposed sc (f s.screens[sc]) s (composeScreen sc (s.modScreen sc f)) := by
  have call : blankCall (s.modScreen sc f) = decide (s.lock.state ≠ .unlocked) := rfl
  unfold composeScreen
  dsimp only
  rw [call]
  have record : ((s.modScreen sc f).modScreen sc fun r => { r with blanked := decide (s.lock.state ≠ .unlocked) }).screens[sc] =
      { f s.screens[sc] with blanked := decide (s.lock.state ≠ .unlocked) } := by
    rw [State.modScreen_screen, State.modScreen_screen]
  have as := compose_composedAs ((s.modScreen sc f).modScreen sc fun r => { r with blanked := decide (s.lock.state ≠ .unlocked) }) sc
  rw [record] at as
  refine ⟨rfl, fun x hx => ?_, ?_, _, ?_, as.locked, as.disabled, as.tiles⟩
  · rw [State.modScreen_screen_ne _ _ hx, State.modScreen_screen_ne _ _ hx, State.modScreen_screen_ne _ _ hx]
  · rw [State.modScreen_screen, record]
  · rw [State.modScreen_screen]

theorem takePending_none {sc : ScreenNo} {s : State} (h : s.screens[sc].pendingAssignment = none) : takePending sc s =
    s.modScreen sc fun r => { r with frames := r.pendingFrames.getD r.frames, pendingFrames := none } := by
  unfold takePending
  rw [h]

theorem takePending_some {sc : ScreenNo} {s : State} {a : Assignment} (h : s.screens[sc].pendingAssignment = some a) :
    takePending sc s = s.modScreen sc fun r =>
      { r with displayed := a, pendingAssignment := none, frames := kindsFor s sc a, pendingFrames := none } := by
  unfold takePending
  rw [h]

/-! ### What newly computed frame kinds leave of a screen (R89) -/

/-- A screen's record before and after its frame kinds were computed anew, or not: with a display the displayed kinds stay,
without one no kinds become pending. -/
structure KindsTaken (r q : Screen) : Prop where
  attached : q.attached = r.attached
  composed : q.composed = r.composed
  frames : r.attached = true → q.frames = r.frames
  pending : r.attached = false → r.pendingFrames = none → q.pendingFrames = none

theorem KindsTaken.refl (r : Screen) : KindsTaken r r := ⟨rfl, rfl, fun _ => rfl, fun _ h => h⟩

theorem KindsTaken.trans {r q p : Screen} (h : KindsTaken r q) (k : KindsTaken q p) : KindsTaken r p :=
  ⟨k.attached.trans h.attached, k.composed.trans h.composed,
    fun ha => (k.frames (h.attached.trans ha)).trans (h.frames ha),
    fun ha hp => k.pending (h.attached.trans ha) (h.pending ha hp)⟩

theorem kindsTaken_takeKinds (kinds : List FrameKind) (r : Screen) : KindsTaken r (r.takeKinds kinds) := by
  unfold Screen.takeKinds
  split
  next h => exact ⟨rfl, rfl, fun _ => rfl, fun ha => absurd (ha.symm.trans h) (by decide)⟩
  next h => exact ⟨rfl, rfl, fun ha => absurd ha h, fun _ _ => rfl⟩

/-- Every screen's frame kinds were computed anew, or not. -/
def AllKindsTaken (s t : State) : Prop :=
  ∀ x : ScreenNo, KindsTaken s.screens[x] t.screens[x]

theorem allKindsTaken_of_eq {s t : State} (h : t.screens = s.screens) : AllKindsTaken s t := fun x => by
  rw [h]
  exact .refl _

theorem AllKindsTaken.trans {s t u : State} (h : AllKindsTaken s t) (k : AllKindsTaken t u) : AllKindsTaken s u :=
  fun x => (h x).trans (k x)

theorem Served.allKindsTaken {s t : State} (h : Served s t) : AllKindsTaken s t := allKindsTaken_of_eq h.screens

theorem allKindsTaken_recomputeFrames (s : State) : AllKindsTaken s (recomputeFrames s) := fun x => by
  rw [recomputeFrames_screens]
  exact kindsTaken_takeKinds _ _

theorem allKindsTaken_setAlertList (l) (s : State) : AllKindsTaken s (setAlertList l s) := by
  unfold setAlertList
  split
  · exact allKindsTaken_of_eq rfl
  · exact allKindsTaken_recomputeFrames (raise .alert (s.setAlerts { s.alerts with list := l }))

theorem allKindsTaken_setFocusTo (n) (s : State) : AllKindsTaken s (setFocusTo n s) := by
  have focused : AllKindsTaken s (syncMirror (focusMade n s)) :=
    (allKindsTaken_of_eq rfl : AllKindsTaken s (focusMade n s)).trans (served_syncMirror _).allKindsTaken
  cases n with
  | none => exact focused
  | some n => exact focused.trans (allKindsTaken_setAlertList _ _)

theorem allKindsTaken_announceFocus (s : State) : AllKindsTaken s (announceFocus s) :=
  (served_raise s .focus).allKindsTaken.trans (allKindsTaken_recomputeFrames _)

theorem allKindsTaken_focusChangePlaced (n handed) (s : State) : AllKindsTaken s (focusChangePlaced n handed s) := by
  unfold focusChangePlaced
  split
  · exact allKindsTaken_of_eq rfl
  · exact (calm_focusLeft s).allKindsTaken.trans
      ((allKindsTaken_of_eq (placing_rememberHanded handed (focusLeft s)).screens).trans
        ((allKindsTaken_setFocusTo _ _).trans
          ((served_wakeOnFocus _ _).allKindsTaken.trans (allKindsTaken_announceFocus _))))

theorem allKindsTaken_answerReseat (o) (s : State) : AllKindsTaken s (answerReseat o s) := by
  have mode : ∀ (m : PointerMode) (u : State), AllKindsTaken u (setMode m u) := fun m u =>
    allKindsTaken_of_eq (placing_setMode m u).screens
  refine AllKindsTaken.trans (t := actOnReseat o s) ?_ (served_considerPosition _).allKindsTaken
  unfold actOnReseat
  split
  · exact allKindsTaken_of_eq rfl
  · split
    · exact mode .glide s
    · split
      · exact (allKindsTaken_focusChangePlaced _ _ s).trans (mode .glide _)
      · exact mode .held s
  · exact mode .detached s

theorem allKindsTaken_reseat (s : State) : AllKindsTaken s (reseat s) := by
  rw [reseat_eq]
  exact (allKindsTaken_of_eq (reseatPlace_keeps_desk s).2.1).trans (allKindsTaken_answerReseat _ _)

theorem exec_frameStart (sc : ScreenNo) (s : State) : exec (.frameStart sc) s = .next (doFrameStart sc s) := rfl

/-- A frame start with a pending assignment: the screen composed with it, then a re-seat (R79). -/
theorem doFrameStart_some {sc : ScreenNo} {s : State} {a : Assignment} (ha : s.screens[sc].attached = true)
    (h : s.screens[sc].pendingAssignment = some a) : doFrameStart sc s = reseat (composeScreen sc (s.modScreen sc fun r =>
      { r with displayed := a, pendingAssignment := none, frames := kindsFor s sc a, pendingFrames := none })) := by
  unfold doFrameStart
  rw [if_pos ha, h, takePending_some h]
  rfl

theorem doFrameStart_none {sc : ScreenNo} {s : State} (ha : s.screens[sc].attached = true)
    (h : s.screens[sc].pendingAssignment = none) : doFrameStart sc s = composeScreen sc (s.modScreen sc fun r =>
      { r with frames := r.pendingFrames.getD r.frames, pendingFrames := none }) := by
  unfold doFrameStart
  rw [if_pos ha, h, takePending_none h]
  rfl

/-- Settles O39: the composition of the screen, and the re-seat that a pending assignment brings. -/
theorem frameStartsShowWhatIsPending : Obligations.FrameStartsShowWhatIsPending := by
  unfold Obligations.FrameStartsShowWhatIsPending
  intro sc s
  refine ⟨fun h => ?_, fun ha hp => ⟨_, exec_frameStart sc s, ?_⟩, fun a ha hp => ⟨_, exec_frameStart sc s, ?_⟩⟩
  · rw [exec_frameStart, doFrameStart, if_neg (by rw [h]; decide)]
  · rw [doFrameStart_none ha hp]
    obtain ⟨state, others, record, x, hx, as⟩ := composeScreen_composed sc
      (fun r => { r with frames := r.pendingFrames.getD r.frames, pendingFrames := none }) s
    refine ⟨state, others, record, fun hl => ?_, fun hl he => ?_, fun hl he => ?_⟩
    · rw [hx, as.locked (by simpa using hl)]
    · rw [hx, as.disabled (by simpa using hl) he]
    · obtain ⟨drawn, shown, tiles, contents, kinds, -⟩ := as.drawn (by simpa using hl) he
      refine ⟨drawn, by rw [hx, shown], tiles, contents, fun i hi hk => ?_⟩
      rw [record] at hk ⊢
      exact kinds i hi hk
  · rw [doFrameStart_some ha hp]
    have c := composeScreen_composed sc
      (fun r => { r with displayed := a, pendingAssignment := none, frames := kindsFor s sc a, pendingFrames := none }) s
    generalize composeScreen sc (s.modScreen sc fun r =>
      { r with displayed := a, pendingAssignment := none, frames := kindsFor s sc a, pendingFrames := none }) = u at c
    obtain ⟨state, others, record, x, hx, as⟩ := c
    have r := reseats_reseat u
    have q := quiet_reseat u
    have k := allKindsTaken_reseat u
    generalize reseat u = t at r q k
    have glide : u.glide = s.glide := by rw [state]
    have same : SameButPointer s u := by
      rw [state]
      exact ⟨rfl, rfl, rfl, rfl, rfl⟩
    obtain ⟨attached, reported, native, displayed, pending, peek, blanked⟩ := r.screens sc
    rw [record] at attached reported native displayed pending peek blanked
    have ku := k sc
    have frames : t.screens[sc].frames = tileKinds s sc a := by
      rw [ku.frames (by rw [record]; exact ha), record]
      exact kindsFor_eq_tileKinds s sc a
    have composed : t.screens[sc].composed = some x := ku.composed.trans hx
    refine ⟨displayed, pending, attached.trans ha, peek, native, ?_, frames, fun hl => ?_, fun hl he => ?_,
      fun hl he => ?_, reseated_before r.law glide same, r.told, fun hf => ?_,
      fun x hx => ?_, ?_⟩
    · rw [blanked]
      exact decide_eq_true_iff
    · rw [composed, as.locked (by simpa using hl)]
    · rw [composed, as.disabled (by simpa using hl) he]
    · obtain ⟨drawn, shown, tiles, contents, -, kinds⟩ := as.drawn (by simpa using hl) he
      refine ⟨drawn, by rw [composed, shown], tiles, contents, ?_⟩
      rw [← kindsFor_eq_tileKinds]
      exact kinds (by rw [kindsFor, frameKinds, List.length_map])
    · obtain ⟨screens, -⟩ := r.stays (hf.trans (by rw [state]))
      rw [screens, record]
      refine ⟨rfl, fun x hx => ?_⟩
      unfold framesKept
      rw [screens, others x hx]
      exact ⟨rfl, rfl⟩
    · obtain ⟨-, -, -, displayed, pending, peek, -⟩ := r.screens x
      rw [others x hx] at displayed pending peek
      refine ⟨displayed, pending, peek, ?_⟩
      rw [(k x).composed, others x hx]
    · rw [q.tables, q.channels, q.lock, q.deskKeys, q.deskButtons, state]
      exact ⟨rfl, rfl, rfl, rfl, rfl⟩

end Sys2Proof.Machine
end


section
/-! ## Park (R32, R33) -/

namespace Sys2Proof.Machine

/-! ### Stored indicators and empty belief sets -/

/-- The stored indicators stay, and an empty belief set stays empty. -/
structure Gentle (s t : State) : Prop where
  lamps : ∀ m : Computer, t.ports[m].indicators = s.ports[m].indicators
  empty : ∀ m : Computer, s.focus.beliefs[m] = ⟨[], []⟩ → t.focus.beliefs[m] = ⟨[], []⟩

theorem Gentle.trans {s t u : State} (h : Gentle s t) (k : Gentle t u) : Gentle s u :=
  ⟨fun m => (k.lamps m).trans (h.lamps m), fun m e => k.empty m (h.empty m e)⟩

theorem gentle_of_wake {s t : State} (wake : WakeStill s t) (beliefs : t.focus.beliefs = s.focus.beliefs) : Gentle s t :=
  ⟨fun m => (wake m).indicators, fun m h => by rw [beliefs]; exact h⟩

theorem Gentle.refl (s : State) : Gentle s s := gentle_of_wake (.refl s) rfl

theorem Placing.gentle {s t : State} (h : Placing s t) : Gentle s t := gentle_of_wake h.wake h.beliefs

theorem gentle_setAlertList (l) (s : State) : Gentle s (setAlertList l s) :=
  gentle_of_wake (noticesOnly_setAlertList l s).wakeStill (by rw [(setAlertList_sets l s).focus])

theorem gentle_endTypeout (e) (s : State) : Gentle s (endTypeout e s) := by
  refine ⟨fun m => ((calm_endTypeout e s).wake m).indicators, fun m h => ?_⟩
  have typed : ∀ n c, (releaseTyped n c s).focus.beliefs[m] = ⟨[], []⟩ := fun n c => by
    unfold releaseTyped
    dsimp only
    split
    · exact h
    next hne =>
      by_cases e : n = m
      · subst e
        exact absurd (by rw [h]; rfl) hne
      · exact (State.setBelief_beliefs_ne s _ e).trans h
  have released : (releaseIfPressed s).focus.beliefs[m] = ⟨[], []⟩ := by
    unfold releaseIfPressed
    split
    · split
      · exact typed _ _
      · exact h
    · exact h
  unfold endTypeout
  split
  · exact released
  · exact h

theorem gentle_releaseBelief (n) (s : State) : Gentle s (releaseBelief n s) := by
  refine ⟨fun m => ((calm_releaseBelief n s).wake m).indicators, fun m h => ?_⟩
  by_cases e : n = m
  · subst e
    exact State.setBelief_beliefs_self s n _
  · exact (State.setBelief_beliefs_ne s _ e).trans h

theorem gentle_focusLeft (s : State) : Gentle s (focusLeft s) := by
  refine (gentle_endTypeout .cancelledFocus s).trans ?_
  show Gentle _ (releaseOldFocus _)
  unfold releaseOldFocus
  split
  · exact .refl _
  · split
    · exact .refl _
    · exact gentle_releaseBelief _ _

theorem gentle_setFocusTo (n : Computer) (s : State) : Gentle s (setFocusTo (some n) s) := by
  have set := focusSet_setFocusTo n s
  exact gentle_of_wake set.ports.wakeStill (by rw [set.focus])

theorem WakeDone.gentle {n : Computer} {s t : State} (h : WakeDone n s t) : Gentle s t := by
  refine ⟨fun m => ?_, fun m hm => ?_⟩
  · by_cases e : m = n
    · rw [e]
      exact h.indicators
    · rw [(h.others m e).2]
  · by_cases e : m = n
    · subst e
      exact h.empty hm
    · exact (h.others m e).1.trans hm

theorem gentle_announceFocus (s : State) : Gentle s (announceFocus s) :=
  gentle_of_wake (announceFocus_ports s).wakeStill rfl

/-- The wake and the announcement of a focus change. -/
theorem gentle_announced {n : Computer} {x : State} (ht : x.typeout.state ≠ .typing) :
    Gentle x (announceFocus (wakeOnFocus (some n) x)) :=
  (wakeDone_wakeOnFocus ht).gentle.trans (gentle_announceFocus _)

theorem gentle_focusChange (n : Computer) (s : State) : Gentle s (focusChange (some n) s) := by
  by_cases h : s.focus.focus = some n
  · rw [focusChange_same h]
    exact .refl s
  · rw [focusChange_eq h]
    exact (gentle_focusLeft s).trans ((placing_rememberHere _).gentle.trans ((gentle_setFocusTo n _).trans
      (((placing_seatFor _ _).trans (placing_considerPosition _)).gentle.trans (gentle_announced (focusReady_idle n s)))))

theorem gentle_focusChangePlaced (n : Computer) (handed) (s : State) : Gentle s (focusChangePlaced n handed s) := by
  by_cases h : s.focus.focus = some n
  · rw [show focusChangePlaced n handed s = s from if_pos h]
    exact .refl s
  · have e : focusChangePlaced n handed s = announceFocus (wakeOnFocus (some n) (setFocusTo (some n)
        (rememberHanded handed (focusLeft s)))) := if_neg h
    have idle : (setFocusTo (some n) (rememberHanded handed (focusLeft s))).typeout.state ≠ .typing := by
      rw [(focusSet_setFocusTo n _).typeout, (placing_rememberHanded handed _).typeout, focusLeft_mailbox]
      exact endTypeout_not_typing _ s
    rw [e]
    exact (gentle_focusLeft s).trans ((placing_rememberHanded handed _).gentle.trans ((gentle_setFocusTo n _).trans
      (gentle_announced idle)))

theorem gentle_reseat (s : State) : Gentle s (reseat s) := by
  have place : Gentle s (reseatPlace s).1 := by
    rw [reseatPlace_keeps s]
    exact (placing_setGlide _ s).gentle
  have answer : ∀ (o : ReseatOutcome) (u : State), Gentle u (actOnReseat o u) := fun o u => by
    unfold actOnReseat
    split
    · exact .refl u
    · split
      · exact (placing_setMode _ u).gentle
      · split
        · exact (gentle_focusChangePlaced _ _ u).trans (placing_setMode _ _).gentle
        · exact (placing_setMode _ u).gentle
    · exact (placing_setMode _ u).gentle
  rw [reseat_eq, answerReseat]
  exact place.trans ((answer _ _).trans (placing_considerPosition _).gentle)

/-! ### Changes of the alert list and fresh evaluations (R134, R135) -/

theorem alertsBecome_setAlertList (l : List AlertEntry) (s : State) :
    alertsBecome { s.alerts with list := l } s (setAlertList l s) := by
  refine ⟨?_, noticesOnly_setAlertList l s, (setAlertList_sets l s).screens⟩
  by_cases h : l = s.alerts.list
  · rw [setAlertList_same h, h]
  · rw [setAlertList_changed h]
    rfl

theorem alertCondition_eq (e : ComputerEntry) (known : Bool) (lamps : Indicators) :
    alertCondition e known lamps = lampCalls e known lamps := by
  unfold alertCondition lampCalls
  cases e.alertIndicator with
  | none => rfl
  | some i => cases e.alertSense <;> simp

theorem riseList_eq (s : State) (n : Computer) : riseList s n =
    if s.tables.computer[n].parked = false ∧ ∀ x ∈ s.alerts.list, x.computer ≠ n then
      s.alerts.list ++ [⟨n, s.tables.computer[n].alertKind, .indicator⟩]
    else s.alerts.list := by
  unfold riseList
  by_cases hp : s.tables.computer[n].parked = true
  · rw [hp, Bool.true_or, if_pos rfl, if_neg (by simp)]
  · rw [Bool.eq_false_of_not_eq_true hp, Bool.false_or]
    by_cases he : hasEntry s.alerts.list n = true
    · rw [if_pos he, if_neg]
      obtain ⟨e, hm, hn⟩ := (hasEntry_iff _ _).1 he
      exact fun h => h.2 e hm hn
    · rw [if_neg he, if_pos]
      exact ⟨rfl, fun x hx hn => he ((hasEntry_iff _ _).2 ⟨x, hx, hn⟩)⟩

theorem freshList_eq (s : State) (n : Computer) : freshList s n =
    freshEntries n s.tables.computer[n] s.alerts.sources[n].known s.ports[n].indicators s.alerts.list := by
  unfold freshList freshEntries
  rw [alertCondition_eq, riseList_eq, fallList_eq]

theorem freshSource_eq (s : State) (n : Computer) : freshSource s n =
    ⟨s.alerts.sources[n].known,
      lampCalls s.tables.computer[n] s.alerts.sources[n].known s.ports[n].indicators⟩ :=
  congrArg (AlertSource.mk _) (alertCondition_eq _ _ _)

theorem evaluatedAnew_freshEvaluate (n : Computer) (s : State) : evaluatedAnew n s (freshEvaluate n s) := by
  have h := alertsBecome_setAlertList (freshList s n) (setSource n (freshSource s n) s)
  rw [freshList_eq, freshSource_eq] at h
  unfold evaluatedAnew freshEvaluate
  rw [freshList_eq, freshSource_eq]
  exact h

/-! ### Focus leaves a parked computer (R32 step 2) -/

/-- The focus handed to no computer: the old focus computer's belief set released and its port told (R27, R32). -/
def focusDropped (s : State) : State :=
  announceFocus (setMode .detached (syncMirror (focusMade none (focusLeft s))))

/-- A focus change to no computer, from one that has no live tile. -/
theorem focusChange_none {n : Computer} {s : State} (hf : s.focus.focus = some n) (ho : seatOwner s ≠ some n) :
    focusChange none s = focusDropped s := by
  have calm := calm_focusLeft s
  have here : rememberHere (focusLeft s) = focusLeft s := by
    unfold rememberHere
    rw [calm.focused, hf]
    exact if_neg (by rw [calm.deskStill.seatOwner]; exact ho)
  have changed : focusChange none s = announceFocus (wakeOnFocus none (considerPosition (seatFor none
      (setFocusTo none (rememberHere (focusLeft s)))))) := if_neg (by rw [hf]; exact Option.some_ne_none n)
  have detached : ∀ u : State, considerPosition (setMode .detached u) = setMode .detached u := fun u =>
    if_neg (by rw [setMode_mode]; exact PointerMode.noConfusion)
  rw [changed, here]
  show announceFocus (considerPosition (setMode .detached _)) = _
  rw [detached]
  rfl

/-- What the hand-over to no computer leaves, from `n` outside the broadcast set. -/
structure FocusDropped (n : Computer) (s t : State) : Prop where
  focus : t.focus = { s.focus with
    focus := none, previous := some n, mode := .detached, rx := 0, ry := 0, beliefs := t.focus.beliefs }
  released : t.focus.beliefs[n] = ⟨[], []⟩
  glide : t.glide = s.glide
  alerts : t.alerts = s.alerts
  tables : t.tables = s.tables
  idle : t.typeout.state ≠ .typing
  announced : announced .focus t
  heard : Heard s t
  screens : screensKept s t
  gentle : Gentle s t

theorem focusDropped_dropped {n : Computer} {s : State} (hf : s.focus.focus = some n) (hb : s.focus.broadcast[n] = false) :
    FocusDropped n s (focusDropped s) := by
  have calm := calm_focusLeft s
  have released := focusLeft_released hf hb
  have idle := endTypeout_not_typing .cancelledFocus s
  rw [← focusLeft_mailbox] at idle
  have gentle := gentle_focusLeft s
  generalize hu : focusLeft s = u at calm released idle gentle
  obtain ⟨ports, alerts, mgmt, focus, glide, typeout, screens, tables⟩ := syncMirror_keeps (focusMade none u)
  have e : focusDropped s = announceFocus (setMode .detached (syncMirror (focusMade none u))) := by rw [← hu]; rfl
  rw [e]
  generalize syncMirror (focusMade none u) = v at ports alerts mgmt focus glide typeout screens tables
  refine ⟨?_, ?_, glide.trans calm.keptGlide, alerts.trans calm.alerts, tables.trans calm.tables, ?_,
    announced_announceFocus _, ?_, fun sc => ?_, ?_⟩
  · show { v.focus with mode := .detached } = _
    rw [focus]
    show _ = { s.focus with
      focus := none, previous := some n, mode := .detached, rx := 0, ry := 0, beliefs := v.focus.beliefs }
    rw [focus, ← hf, ← calm.focused]
    rw [focusMade, State.setFocus_focus, calm.focus]
  · show v.focus.beliefs[n] = _
    rw [focus]
    exact released
  · show v.typeout.state ≠ .typing
    rw [typeout]
    exact idle
  · refine calm.heard.trans (Heard.trans (t := setMode .detached v) ?_ (heard_announceFocus _))
    exact heard_of_eq tables (by rw [show (setMode .detached v).mgmt = v.mgmt from rfl, mgmt]; rfl)
  · have kept := screensKept_recomputeFrames (raise .focus (setMode .detached v)) sc
    rw [show (raise .focus (setMode .detached v)).screens = s.screens from screens.trans calm.screens] at kept
    exact kept
  · refine gentle.trans (Gentle.trans (t := setMode .detached v) ?_ (gentle_announceFocus _))
    refine gentle_of_wake (wakeStill_of_eq ?_) ?_
    · exact ports
    · show v.focus.beliefs = _
      rw [focus]
      rfl

/-! ### Steps 1 to 3 of a park (R32) -/

theorem heard_setBroadcast (n b) (s : State) : Heard s (setBroadcast n b s) :=
  ⟨fun _ => rfl, (heard_raise .focus (broadcastSet n b s)).grows⟩

theorem heard_removeBroadcast (n) (s : State) : Heard s (removeBroadcast n s) := by
  unfold removeBroadcast
  split
  · split
    · exact heard_setBroadcast n false s
    · exact (calm_releaseBelief n s).heard.trans (heard_setBroadcast n false _)
  · exact .refl s

theorem wakeStill_removeBroadcast (n) (s : State) : WakeStill s (removeBroadcast n s) := by
  have set : ∀ u : State, WakeStill u (setBroadcast n false u) := fun u => (setBroadcast_keeps n false u).2.1.wakeStill
  unfold removeBroadcast
  split
  · split
    · exact set s
    · exact (calm_releaseBelief n s).wake.trans (set _)
  · exact .refl s

theorem gentle_removeBroadcast (n) (s : State) : Gentle s (removeBroadcast n s) := by
  refine ⟨fun m => (wakeStill_removeBroadcast n s m).indicators, fun m h => ?_⟩
  unfold removeBroadcast
  split
  · split
    · exact h
    · exact (gentle_releaseBelief n s).empty m h
  · exact h

theorem eligible_removeBroadcast (n m : Computer) (s : State) : eligible (removeBroadcast n s) m ↔ eligible s m := by
  unfold eligible
  rw [(quiet_removeBroadcast n s).tables, (wakeStill_removeBroadcast n s m).link]

/-- Focus leaves computer `n` for the one that FOCUS_NEXT takes. -/
theorem leaveParked_next {n m : Computer} {s : State} (hf : s.focus.focus = some n) (hm : m ≠ n) (he : eligible s m) :
    leaveParked n s = actFocusNext s := by
  unfold leaveParked actFocusNext
  rw [if_pos hf]
  have some : ((nextOrder s.focus.focus).find? (reachable s)).isSome = true := by
    rw [List.find?_isSome, hf]
    exact ⟨m, (mem_after_iff n m).2 hm, (reachable_iff s m).2 he⟩
  obtain ⟨found, h⟩ := Option.isSome_iff_exists.1 some
  rw [h]
  rfl

theorem leaveParked_nobody {n : Computer} {s : State} (hf : s.focus.focus = some n)
    (h : ∀ m : Computer, m ≠ n → ¬ eligible s m) : leaveParked n s = focusChange none s := by
  have none : (nextOrder s.focus.focus).find? (reachable s) = none := by
    rw [hf]
    exact List.find?_eq_none.2 fun m hm hr => h m ((mem_after_iff n m).1 hm) ((reachable_iff s m).1 hr)
  unfold leaveParked
  rw [if_pos hf, none]

theorem leaveParked_else {n : Computer} {s : State} (hf : s.focus.focus ≠ some n) : leaveParked n s = s := if_neg hf

theorem removeBroadcast_out (n : Computer) (s : State) : (removeBroadcast n s).focus.broadcast[n] = false := by
  rw [(removeBroadcast_broadcast n s).2, if_pos rfl]

/-- The pointer lies on no live tile of a parked computer. -/
theorem seatOwner_ne_parked {n : Computer} {s : State} (hp : s.tables.computer[n].parked = true) : seatOwner s ≠ some n :=
  fun h => absurd ((seatOwner_unparked h).symm.trans hp) (by decide)

/-- What steps 1 and 2 of a park of `n` leave. -/
structure LeftParked (n : Computer) (s t : State) : Prop where
  heard : Heard s t
  screens : screensKept s t
  gentle : Gentle s t
  others : ∀ m : Computer, m ≠ n → t.focus.broadcast[m] = s.focus.broadcast[m]
  emptied : s.focus.focus = some n ∨ s.focus.broadcast[n] = true → t.focus.beliefs[n] = ⟨[], []⟩
  announced : s.focus.focus = some n → announced .focus t
  sources : t.alerts.sources = s.alerts.sources
  rotation : t.alerts.rotation = s.alerts.rotation

theorem removeBroadcast_left (n : Computer) (s : State) : (∀ m : Computer, m ≠ n →
    (removeBroadcast n s).focus.broadcast[m] = s.focus.broadcast[m]) ∧ (removeBroadcast n s).alerts = s.alerts ∧
    (s.focus.broadcast[n] = true → s.focus.focus ≠ some n → (removeBroadcast n s).focus.beliefs[n] = ⟨[], []⟩) := by
  refine ⟨fun m hm => (removeBroadcast_other hm.symm s).1, ?_, fun hb hf => ?_⟩
  · unfold removeBroadcast
    split
    · split <;> rfl
    · rfl
  · exact ((removeBroadcast_leaves rfl rfl ⟨rfl, rfl, rfl⟩).2.1 hb hf).1

theorem leftParked (n : Computer) {s : State} (hp : s.tables.computer[n].parked = true) :
    LeftParked n s (leaveParked n (removeBroadcast n s)) := by
  obtain ⟨others, alerts, emptied⟩ := removeBroadcast_left n s
  have heard := heard_removeBroadcast n s
  have gentle := gentle_removeBroadcast n s
  have out := removeBroadcast_out n s
  have screens := (removeBroadcast_leavesDesk n s).2.2
  have parked : (removeBroadcast n s).tables.computer[n].parked = true := by
    rw [(quiet_removeBroadcast n s).tables]
    exact hp
  have focused := removeBroadcast_focused_kept n s
  generalize removeBroadcast n s = u at others alerts emptied heard gentle out screens parked focused
  by_cases hf : s.focus.focus = some n
  · have hfu := focused.trans hf
    by_cases he : ∃ m : Computer, m ≠ n ∧ eligible u m
    · obtain ⟨m, hm, he⟩ := he
      have next : ∃ k : Computer, u.focus.focus ≠ some k ∧ leaveParked n u = focusChange (some k) u := by
        have some : ((nextOrder u.focus.focus).find? (reachable u)).isSome = true := by
          rw [List.find?_isSome, hfu]
          exact ⟨m, (mem_after_iff n m).2 hm, (reachable_iff u m).2 he⟩
        obtain ⟨found, h⟩ := Option.isSome_iff_exists.1 some
        refine ⟨found, mem_nextOrder (List.mem_of_find?_eq_some h), ?_⟩
        unfold leaveParked
        rw [if_pos hfu, h]
      obtain ⟨k, hk, e⟩ := next
      rw [e]
      have c := focusChange_changed hk
      refine ⟨heard.trans c.heard, fun sc => ?_, gentle.trans (gentle_focusChange k u), fun m hm => ?_,
        fun _ => c.released n hfu out, fun _ => c.announced, ?_, ?_⟩
      · have kept := c.screens sc
        rw [screens] at kept
        exact kept
      · rw [c.broadcast]
        exact others m hm
      · rw [c.alerts, alerts]
      · rw [c.alerts, alerts]
    · rw [leaveParked_nobody hfu (fun m hm h => he ⟨m, hm, h⟩), focusChange_none hfu (seatOwner_ne_parked parked)]
      have d := focusDropped_dropped hfu out
      refine ⟨heard.trans d.heard, fun sc => ?_, gentle.trans d.gentle, fun m hm => ?_, fun _ => d.released,
        fun _ => d.announced, ?_, ?_⟩
      · have kept := d.screens sc
        rw [screens] at kept
        exact kept
      · rw [d.focus]
        exact others m hm
      · rw [d.alerts, alerts]
      · rw [d.alerts, alerts]
  · rw [leaveParked_else (by rw [focused]; exact hf)]
    refine ⟨heard, fun sc => ?_, gentle, others, fun h => emptied (h.resolve_left hf) hf, fun h => absurd h hf, ?_, ?_⟩
    · rw [screens]
      exact screensKept_refl s sc
    · rw [alerts]
    · rw [alerts]

theorem parkSteps_eq (n : Computer) (s : State) : parkSteps n s =
    setAlertList ((leaveParked n (removeBroadcast n s)).alerts.list.filter fun e => decide (e.computer ≠ n))
      (leaveParked n (removeBroadcast n s)) := by
  unfold parkSteps dropAlert dropEntries
  simp

theorem withdrawn_parkSteps (n : Computer) {s : State} (hp : s.tables.computer[n].parked = true) :
    withdrawn n s (parkSteps n s) := by
  have focused := removeBroadcast_focused_kept n s
  refine ⟨removeBroadcast n s, leaveParked n (removeBroadcast n s), removeBroadcast_stranger, fun hb => ?_, fun hf => ?_,
    fun hf ⟨m, hm, he⟩ => ?_, fun hf nobody => ?_, ?_⟩
  · rw [exec_broadcastToggle, byte_num, actBroadcastToggle_of rfl, if_pos hb]
  · exact leaveParked_else (by rw [focused]; exact hf)
  · rw [exec_focusNext, leaveParked_next (focused.trans hf) hm ((eligible_removeBroadcast n m s).2 he)]
  · have q := (quiet_removeBroadcast n s).trans (quiet_focusChange none _)
    have out := removeBroadcast_out n s
    have parked : (removeBroadcast n s).tables.computer[n].parked = true := by
      rw [(quiet_removeBroadcast n s).tables]
      exact hp
    rw [leaveParked_nobody (focused.trans hf) fun m hm h => nobody m hm ((eligible_removeBroadcast n m s).1 h),
      focusChange_none (focused.trans hf) (seatOwner_ne_parked parked)]
    rw [focusChange_none (focused.trans hf) (seatOwner_ne_parked parked)] at q
    have d := focusDropped_dropped (focused.trans hf) out
    exact ⟨d.focus, d.released, d.glide, d.alerts, d.tables, d.idle, q.deskKeys, q.deskButtons, d.announced⟩
  · rw [parkSteps_eq]
    exact alertsBecome_setAlertList _ _

/-! ### PARK_TOGGLE -/

theorem exec_parkToggle (a b : Byte) (s : State) :
    exec (.parkToggle (.hotkey a b)) s = .next (actParkToggle a.toNat s) := rfl

/-- The tables with a parked field turned, announced (R166, R167). -/
theorem changeTables_announced (tb : Tables) (s : State) : announced .table (changeTables tb s) :=
  announced_raise .table _

theorem screensKept_trans {s t u : State} (h : screensKept s t) (k : screensKept t u) : screensKept s u := fun sc => by
  obtain ⟨a1, a2, a3, a4, a5, a6, a7⟩ := h sc
  obtain ⟨b1, b2, b3, b4, b5, b6, b7⟩ := k sc
  exact ⟨b1.trans a1, b2.trans a2, b3.trans a3, b4.trans a4, b5.trans a5, b6.trans a6, b7.trans a7⟩

/-- A computation of the frame kinds after a re-seat. -/
theorem afterReseat_recomputeFrames (s : State) : AfterReseat s (recomputeFrames s) :=
  ⟨deskStill_recomputeFrames s, rfl, rfl, rfl, heard_of_eq rfl rfl, fun _ => framesAnew_recomputeFrames s⟩

theorem positionTold_recomputeFrames {s : State} (h : positionTold s) : positionTold (recomputeFrames s) :=
  positionTold_later h rfl rfl (deskStill_recomputeFrames s) rfl rfl fun _ => rfl

/-- What a park of the turned tables leaves, before its re-seat (R32). -/
structure Parked (n : Computer) (s t : State) : Prop extends LeftParked n s t where
  none : ¬ Engaged t n

theorem parked_parkSteps (n : Computer) {s : State} (hp : s.tables.computer[n].parked = true) :
    Parked n s (parkSteps n s) := by
  have left := leftParked n hp
  have free := not_engaged_parkSteps hp
  rw [parkSteps_eq] at free ⊢
  generalize leaveParked n (removeBroadcast n s) = u at left free
  have sets := setAlertList_sets (u.alerts.list.filter fun e => decide (e.computer ≠ n)) u
  have heard := heard_setAlertList (u.alerts.list.filter fun e => decide (e.computer ≠ n)) u
  have gentle := gentle_setAlertList (u.alerts.list.filter fun e => decide (e.computer ≠ n)) u
  exact ⟨⟨left.heard.trans heard, screensKept_trans left.screens sets.screens, left.gentle.trans gentle,
    by rw [sets.focus]; exact left.others, fun h => gentle.empty n (left.emptied h),
    fun h => heard.announced (left.announced h), by rw [sets.alerts]; exact left.sources,
    by rw [sets.alerts]; exact left.rotation⟩, free⟩

/-- What a park of `n` leaves once the pointer is re-seated and the frame kinds are computed anew. -/
structure ParkEnded (n : Computer) (s t : State) : Prop extends Parked n s t where
  frames : framesAnew t
  told : positionTold t
  law : reseated (parkSteps n s) t

theorem parkEnded (n : Computer) {s : State} (hp : s.tables.computer[n].parked = true) :
    ParkEnded n s (recomputeFrames (reseat (parkSteps n s))) := by
  have p := parked_parkSteps n hp
  have parked : (parkSteps n s).tables.computer[n].parked = true := by
    rw [(quiet_parkSteps n s).tables]
    exact hp
  generalize hu : parkSteps n s = u at p parked
  have r := reseats_reseat u
  have kept := parkKept_reseat u
  have gentle := gentle_reseat u
  generalize reseat u = v at r kept gentle
  have last := afterReseat_recomputeFrames v
  have heard := r.heard.trans last.heard
  have alerts : v.alerts.sources = u.alerts.sources ∧ v.alerts.rotation = u.alerts.rotation := by
    rw [r.listed]
    exact ⟨rfl, rfl⟩
  refine ⟨⟨⟨p.heard.trans heard, screensKept_trans p.screens (screensKept_trans r.screens (screensKept_recomputeFrames v)),
    p.gentle.trans (gentle.trans (gentle_of_wake (wakeStill_of_eq rfl) rfl)), fun m hm => ?_,
    fun h => gentle.empty n (p.emptied h), fun h => heard.announced (p.announced h), alerts.1.trans p.sources,
    alerts.2.trans p.rotation⟩, fun h => p.none (kept.engaged n parked h)⟩, framesAnew_recomputeFrames v,
    positionTold_recomputeFrames r.told, hu ▸ reseated_after r.law last⟩
  exact (congrArg (fun b => b[m]) r.broadcast).trans (p.others m hm)

/-- A fresh evaluation after a re-seat. -/
theorem afterReseat_freshEvaluate (n : Computer) (s : State) : AfterReseat s (freshEvaluate n s) := by
  have sets := setAlertList_sets (freshList s n) (setSource n (freshSource s n) s)
  have still : DeskStill s (freshEvaluate n s) :=
    (deskStill_of_eq rfl rfl rfl : DeskStill s (setSource n (freshSource s n) s)).trans (deskStill_setAlertList _ _)
  have heard : Heard s (freshEvaluate n s) :=
    (heard_of_eq rfl rfl : Heard s (setSource n (freshSource s n) s)).trans (heard_setAlertList _ _)
  refine ⟨still, sets.focus, sets.typeout, by rw [freshEvaluate, sets.glide]; rfl, heard, fun frames => ?_⟩
  unfold freshEvaluate
  by_cases h : freshList s n = (setSource n (freshSource s n) s).alerts.list
  · rw [setAlertList_same h]
    exact framesAnew_congr frames rfl rfl rfl rfl
  · rw [setAlertList_changed h]
    exact framesAnew_recomputeFrames _

theorem screensKept_freshEvaluate (n : Computer) (s : State) : screensKept s (freshEvaluate n s) :=
  (setAlertList_sets (freshList s n) (setSource n (freshSource s n) s)).screens

theorem noticesOnly_freshEvaluate (n : Computer) (s : State) : NoticesOnly s (freshEvaluate n s) :=
  (noticesOnly_of_eq rfl : NoticesOnly s (setSource n (freshSource s n) s)).trans (noticesOnly_setAlertList _ _)

theorem positionTold_freshEvaluate {n : Computer} {s : State} (h : positionTold s) : positionTold (freshEvaluate n s) := by
  have after := afterReseat_freshEvaluate n s
  have quiet := quiet_freshEvaluate n s
  have glide : (freshEvaluate n s).glide = s.glide := (setAlertList_sets _ _).glide
  exact positionTold_later h (by rw [after.focus]) glide after.still quiet.tables quiet.channels
    fun m => (noticesOnly_freshEvaluate n s).takesReports m

/-- The alert records after a fresh evaluation of computer `n` (R134). -/
theorem freshEvaluate_alerts (n : Computer) (s : State) : (freshEvaluate n s).alerts =
    { s.alerts with
      sources := s.alerts.sources.set n ⟨s.alerts.sources[n].known,
        lampCalls s.tables.computer[n] s.alerts.sources[n].known s.ports[n].indicators⟩
      list := freshEntries n s.tables.computer[n] s.alerts.sources[n].known s.ports[n].indicators s.alerts.list } := by
  rw [freshEvaluate, (setAlertList_sets _ _).alerts, freshSource_eq, freshList_eq]
  rfl

/-- A fresh evaluation puts in an entry for a computer whose lamps call and that has none. -/
theorem mem_freshEntries {n : Computer} {e : ComputerEntry} {known : Bool} {lamps : Indicators} {l : List AlertEntry}
    (hc : lampCalls e known lamps = true) (hp : e.parked = false) (hl : ∀ x ∈ l, x.computer ≠ n) :
    ⟨n, e.alertKind, .indicator⟩ ∈ freshEntries n e known lamps l := by
  unfold freshEntries
  rw [if_pos hc, if_pos ⟨hp, hl⟩]
  exact List.mem_append_right _ (List.mem_singleton.2 rfl)

theorem changeTables_ports (tb : Tables) (s : State) : NoticesOnly s (changeTables tb s) :=
  (noticesOnly_of_eq rfl : NoticesOnly s ((s.setTables tb).setMgmt
    { s.mgmt with generation := nextGeneration s.mgmt.generation })).trans (noticesOnly_raise .table _)

/-- PARK_TOGGLE of a computer that becomes unparked: the re-seat, then the fresh evaluation (R33). -/
structure Unparked (n : Computer) (s t : State) : Prop where
  broadcast : t.focus.broadcast = s.focus.broadcast
  law : reseated s t
  told : positionTold t
  frames : framesAnew t
  heard : Heard s t
  screens : screensKept s t
  alerts : ∃ l, t.alerts = { s.alerts with
      sources := s.alerts.sources.set n ⟨s.alerts.sources[n].known,
        lampCalls s.tables.computer[n] s.alerts.sources[n].known s.ports[n].indicators⟩
      list := freshEntries n s.tables.computer[n] s.alerts.sources[n].known s.ports[n].indicators l } ∧
    ∀ e ∈ l, e ∈ s.alerts.list

theorem unparked (n : Computer) (s : State) : Unparked n s (recomputeFrames (freshEvaluate n (reseat s))) := by
  have r := reseats_reseat s
  have gentle := gentle_reseat s
  have tables := (quiet_reseat s).tables
  generalize reseat s = u at r gentle tables
  have fresh := afterReseat_freshEvaluate n u
  have last := fresh.trans (afterReseat_recomputeFrames (freshEvaluate n u))
  refine ⟨by rw [last.focus]; exact r.broadcast, reseated_after r.law last,
    positionTold_recomputeFrames (positionTold_freshEvaluate r.told), framesAnew_recomputeFrames _,
    r.heard.trans last.heard, screensKept_trans r.screens (screensKept_trans (screensKept_freshEvaluate n u)
      (screensKept_recomputeFrames _)), u.alerts.list, ?_, r.entries⟩
  have alerts : (recomputeFrames (freshEvaluate n u)).alerts = (freshEvaluate n u).alerts := rfl
  rw [alerts, freshEvaluate_alerts, tables, gentle.lamps, r.listed]

theorem parkTurned_entry (n : Computer) (tb : Tables) : (parkTurned n tb).computer[n] =
    { tb.computer[n] with parked := !tb.computer[n].parked } := by
  simp [parkTurned]

theorem lampCalls_of_has {e : ComputerEntry} {known : Bool} {lamps : Indicators} (hk : known = true)
    (h : ∃ i, e.alertIndicator = some i ∧ lamps.has i = decide (e.alertSense = .on)) : lampCalls e known lamps = true := by
  obtain ⟨i, hi, hh⟩ := h
  simp [lampCalls, hk, hi, hh]

theorem actParkToggle_of {n : Computer} {k : Nat} (h : num n = k) (s : State) : actParkToggle k s =
    if s.tables.computer[n].parked then
      recomputeFrames (freshEvaluate n (reseat (changeTables (parkTurned n s.tables) s)))
    else recomputeFrames (reseat (parkSteps n (changeTables (parkTurned n s.tables) s))) :=
  actParkToggle_eq (ofNum_eq_some h) s

/-- What quiet operations after a change of the tables leave of the state before it. -/
structure ChangeKept (tb : Tables) (s t : State) : Prop where
  tables : t.tables = tb
  generation : t.mgmt.generation = if 63 ≤ s.mgmt.generation then 1 else s.mgmt.generation + 1
  lock : t.lock = s.lock
  matcher : t.matcher = s.matcher
  channels : t.channels = s.channels
  deskKeys : t.console.deskKeys = s.console.deskKeys
  deskButtons : t.console.deskButtons = s.console.deskButtons

theorem Quiet.changeKept {tb : Tables} {s t : State} (q : Quiet (changeTables tb s) t) : ChangeKept tb s t :=
  ⟨q.tables, q.generation, q.lock, q.matcher, q.channels, q.deskKeys, q.deskButtons⟩

/-- Settles O43: the turned tables, then the park or the unpark. -/
theorem parkToggleWithdrawsComputer : Obligations.ParkToggleWithdrawsComputer := by
  unfold Obligations.ParkToggleWithdrawsComputer
  intro a b s
  refine ⟨fun h => ?_, fun n hn => ⟨_, exec_parkToggle a b s, ?_⟩⟩
  · rw [exec_parkToggle, actParkToggle, ofNum_eq_none h]
  · rw [actParkToggle_of hn]
    have turned := parkTurned_entry n s.tables
    have table := changeTables_announced (parkTurned n s.tables) s
    have ports := changeTables_ports (parkTurned n s.tables) s
    have same : SameButPointer s (changeTables (parkTurned n s.tables) s) := ⟨rfl, rfl, rfl, rfl, rfl⟩
    by_cases hp : s.tables.computer[n].parked = true
    · rw [if_pos hp]
      have u := unparked n (changeTables (parkTurned n s.tables) s)
      have q : ChangeKept (parkTurned n s.tables) s (recomputeFrames (freshEvaluate n (reseat
          (changeTables (parkTurned n s.tables) s)))) :=
        ((quiet_reseat _).trans ((quiet_freshEvaluate n _).trans (quiet_recomputeFrames _))).changeKept
      generalize recomputeFrames (freshEvaluate n (reseat (changeTables (parkTurned n s.tables) s))) = t at u q
      refine ⟨q.tables, q.generation, u.heard.announced table, fun h => absurd (h.symm.trans hp) (by decide), u.frames,
        fun _ => ⟨u.broadcast, reseated_before u.law rfl same, u.told, fun nobody known call => ?_⟩,
        fun m _ => by rw [u.broadcast]; rfl, u.screens, q.lock, q.matcher, q.channels, q.deskKeys, q.deskButtons⟩
      obtain ⟨l, alerts, sub⟩ := u.alerts
      have entry : (changeTables (parkTurned n s.tables) s).tables.computer[n] =
          { s.tables.computer[n] with parked := !s.tables.computer[n].parked } := turned
      rw [alerts, entry, ports n]
      exact mem_freshEntries (lampCalls_of_has known call) (by rw [hp]; rfl) fun e he => nobody e (sub e he)
    · rw [if_neg hp]
      have parked : (changeTables (parkTurned n s.tables) s).tables.computer[n].parked = true := by
        have entry : (changeTables (parkTurned n s.tables) s).tables.computer[n] =
            { s.tables.computer[n] with parked := !s.tables.computer[n].parked } := turned
        rw [entry, Bool.eq_false_of_not_eq_true hp]
        rfl
      have u := parkEnded n parked
      have q : ChangeKept (parkTurned n s.tables) s (recomputeFrames (reseat (parkSteps n
          (changeTables (parkTurned n s.tables) s)))) :=
        ((quiet_parkSteps n _).trans ((quiet_reseat _).trans (quiet_recomputeFrames _))).changeKept
      have gone := withdrawn_parkSteps n parked
      generalize recomputeFrames (reseat (parkSteps n (changeTables (parkTurned n s.tables) s))) = t at u q
      obtain ⟨out, alert⟩ := not_or.1 (not_or.1 u.none).2
      refine ⟨q.tables, q.generation, u.heard.announced table, fun _ => ⟨Bool.eq_false_of_not_eq_true out,
          (not_or.1 u.none).1, fun e he hn => alert ⟨e, he, hn⟩, u.emptied, u.announced, parkSteps n (changeTables (parkTurned n s.tables) s), ?_,
          u.law, u.told⟩, u.frames, fun h => absurd h hp, u.others, u.screens, ?_⟩
      · rw [q.tables]
        exact gone
      · exact ⟨q.lock, q.matcher, q.channels, q.deskKeys, q.deskButtons⟩

end Sys2Proof.Machine
end


section
/-! ## Displays (R78, R79) -/

namespace Sys2Proof.Machine

/-! ### A desk point lies in one tile (R46, R49) -/

/-- Two entries of a list without overlaps, at different places, do not overlap. -/
theorem noOverlap_get {l : List LayoutEntry} (h : noOverlap l = true) {i j : Nat} (hi : i < l.length) (hj : j < l.length)
    (hij : i < j) (he : l[i].enabled = true) (he' : l[j].enabled = true) : layoutOverlap l[i] l[j] = false := by
  induction l generalizing i j with
  | nil => cases hi
  | cons a l ih =>
    simp only [noOverlap, Bool.and_eq_true, List.all_eq_true] at h
    obtain ⟨head, tail⟩ := h
    cases j with
    | zero => cases hij
    | succ j =>
      have hj : j < l.length := Nat.lt_of_succ_lt_succ hj
      cases i with
      | zero =>
        have hb := head l[j] (List.getElem_mem hj)
        have he : a.enabled = true := he
        have he' : l[j].enabled = true := he'
        rw [he, he'] at hb
        exact Bool.eq_false_of_not_eq_true fun ho => absurd (show layoutOverlap a l[j] = true from ho) (by simpa using hb)
      | succ i => exact ih tail (Nat.lt_of_succ_lt_succ hi) hj (Nat.lt_of_succ_lt_succ hij) he he'

theorem layoutOverlap_iff (a b : LayoutEntry) : layoutOverlap a b = true ↔
    a.x < b.x + b.w ∧ b.x < a.x + a.w ∧ a.y < b.y + b.h ∧ b.y < a.y + a.h := by
  simp [layoutOverlap, and_assoc]

/-- Two enabled screens of a valid layout have no desk point in common. -/
theorem layoutValid_apart {v : Vector LayoutEntry 8} (h : layoutValid v = true) {i j : ScreenNo} (hij : i ≠ j)
    (hi : v[i].enabled = true) (hj : v[j].enabled = true) : ¬ (v[i].x < v[j].x + v[j].w ∧ v[j].x < v[i].x + v[i].w ∧
      v[i].y < v[j].y + v[j].h ∧ v[j].y < v[i].y + v[i].h) := by
  unfold layoutValid at h
  rw [Bool.and_eq_true] at h
  have apart : ∀ {a b : ScreenNo}, a < b → v[a].enabled = true → v[b].enabled = true →
      layoutOverlap v[a] v[b] = false := fun {a b} hab ha hb => by
    have k := noOverlap_get h.2 (i := a.val) (j := b.val) (by simp) (by simp) hab (by simpa using ha) (by simpa using hb)
    simpa using k
  intro common
  rcases Nat.lt_or_gt_of_ne (fun e => hij (Fin.ext e)) with hlt | hlt
  · exact absurd ((layoutOverlap_iff _ _).2 common) (by rw [apart hlt hi hj]; decide)
  · exact absurd ((layoutOverlap_iff v[j] v[i]).2 ⟨common.2.1, common.1, common.2.2.2, common.2.2.1⟩)
      (by rw [apart hlt hj hi]; decide)

/-- The tiles of a screen lie in its rectangle. -/
theorem screenTiles_within {s : State} {sc : ScreenNo} {t : Tile} (h : t ∈ screenTiles s sc) :
    s.tables.layout[sc].enabled = true ∧ s.tables.layout[sc].x ≤ t.x ∧
      t.x + t.w ≤ s.tables.layout[sc].x + s.tables.layout[sc].w ∧ s.tables.layout[sc].y ≤ t.y ∧
      t.y + t.h ≤ s.tables.layout[sc].y + s.tables.layout[sc].h := by
  unfold screenTiles tilesOf at h
  by_cases he : s.tables.layout[sc].enabled = true
  · rw [if_pos he] at h
    refine ⟨he, ?_⟩
    split at h
    · simp only [List.mem_singleton] at h
      subst h
      exact ⟨Nat.le_refl _, Nat.le_refl _, Nat.le_refl _, Nat.le_refl _⟩
    · simp only [List.mem_cons, List.not_mem_nil, or_false] at h
      rcases h with rfl | rfl | rfl | rfl
      all_goals
        dsimp only
        omega
  · rw [if_neg he] at h
    cases h

/-- Two tiles of a screen that have a desk point in common are one: the screen's one tile of that quadrant. -/
theorem screenTiles_apart {s : State} {sc : ScreenNo} {t u : Tile} (ok : DeskOk s.tables) (ht : t ∈ screenTiles s sc)
    (hu : u ∈ screenTiles s sc) {x y : Nat} (hx : t.contains x y = true) (hy : u.contains x y = true) : t = u := by
  have quads : t.quad = u.quad := by
    have on : s.tables.layout[sc].enabled = true := (screenTiles_within ht).1
    obtain ⟨hw, hh, -⟩ := ok sc on
    rw [contains_iff] at hx hy
    unfold screenTiles tilesOf at ht hu
    rw [if_pos on] at ht hu
    cases hd : s.screens[sc].displayed with
    | single c =>
      simp only [hd, List.mem_singleton] at ht hu
      rw [ht, hu]
    | quad a b c d =>
      simp only [hd, List.mem_cons, List.not_mem_nil, or_false] at ht hu
      by_contra ne
      rcases ht with rfl | rfl | rfl | rfl
      all_goals
        rcases hu with rfl | rfl | rfl | rfl
        all_goals
          dsimp only at hx hy ne
          omega
  obtain ⟨-, -, -, -, -, ft⟩ := screenTiles_mem ok ht
  obtain ⟨-, -, -, -, -, fu⟩ := screenTiles_mem ok hu
  rw [quads] at ft
  exact Option.some.inj (ft.symm.trans fu)

/-- Two tiles that have a desk point in common are one (R46). -/
theorem allTiles_apart {s : State} {t u : Tile} (ok : DeskOk s.tables) (valid : layoutValid s.tables.layout = true)
    (ht : t ∈ allTiles s) (hu : u ∈ allTiles s) {x y : Nat} (hx : t.contains x y = true) (hy : u.contains x y = true) : t = u := by
  obtain ⟨i, -, hi⟩ := List.mem_flatMap.1 ht
  obtain ⟨j, -, hj⟩ := List.mem_flatMap.1 hu
  by_cases hij : i = j
  · subst hij
    exact screenTiles_apart ok hi hj hx hy
  · obtain ⟨ei, wi⟩ := screenTiles_within hi
    obtain ⟨ej, wj⟩ := screenTiles_within hj
    have si := screenTiles_mem ok hi
    have sj := screenTiles_mem ok hj
    rw [contains_iff] at hx hy
    refine absurd ?_ (layoutValid_apart valid hij ei ej)
    omega

/-- A tile is where its centre is. -/
theorem locate_centre {s : State} {t : Tile} (ok : s.tables.Ok) (ht : t ∈ allTiles s) :
    locate s (t.centre.1 / 16) (t.centre.2 / 16) = some t := by
  obtain ⟨-, hw, hh, hx, hy, -⟩ := screenTiles_mem ok.deskOk (allTiles_mem ok.deskOk ht)
  have inside : t.contains (t.centre.1 / 16) (t.centre.2 / 16) = true :=
    (contains_centre hw hh hx hy).1
  cases hl : locate s (t.centre.1 / 16) (t.centre.2 / 16) with
  | none => exact absurd inside (List.find?_eq_none.1 hl t ht)
  | some u =>
    obtain ⟨hu, hc⟩ := locate_some hl
    rw [allTiles_apart ok.deskOk ok.desk hu ht hc inside]

/-! ### A second re-seat changes nothing (R37) -/

/-- A re-seat finds nothing to do: the pointer is seated where it lies, or there is no tile for it. -/
def AtRest (s : State) : Prop :=
  (∃ tile n, staysOn s s tile n ∧ s.glide.seat = some ⟨tile.screen, tile.quad, n⟩) ∨
    (s.glide.seat = none ∧ firstLive s = none ∧ s.focus.mode = .detached)

theorem newTile_none_of_firstLive {s : State} (h : firstLive s = none) : newTile s = none := by
  refine newTile_nowhere (fun f _ => ?_) h
  cases hl : firstLiveOf s f with
  | none => rfl
  | some t =>
    obtain ⟨hm, ho⟩ := firstLiveOf_some hl
    exact absurd (by rw [ho]; rfl) (List.find?_eq_none.1 h t hm)

theorem atRest_later {s t : State} (h : AtRest s) (tiles : SameTiles s t) (glide : t.glide = s.glide)
    (mode : t.focus.mode = s.focus.mode) : AtRest t := by
  unfold AtRest staysOn at h ⊢
  rw [glide, mode, tiles.firstLive]
  simp only [tiles.locate, tiles.liveOwner]
  exact h

/-- A re-seat of a pointer at rest only considers the position (R70). -/
theorem reseat_atRest {s : State} (h : AtRest s) : reseat s = considerPosition s := by
  rcases h with ⟨tile, n, stays, seat⟩ | ⟨seat, live, mode⟩
  · have place := reseatPlace_stays (stayTile_iff.2 stays)
    have same : s.setGlide { s.glide with seat := some ⟨tile.screen, tile.quad, n⟩ } = s := by
      rw [← seat]
      rfl
    rw [if_pos seat, same] at place
    rw [reseat_eq, place]
    rfl
  · have away : stayTile s = none := by
      unfold stayTile
      rw [seat]
    have place := reseatPlace_unseats away (newTile_none_of_firstLive live)
    have same : s.setGlide { s.glide with seat := none } = s := by
      rw [← seat]
      rfl
    have detached : setMode .detached s = s := by
      show s.setFocus { s.focus with mode := .detached } = s
      rw [← mode]
      rfl
    rw [same] at place
    rw [reseat_eq, place, answerReseat, actOnReseat, detached]

/-- A re-seat leaves the pointer at rest. -/
theorem atRest_reseat {s : State} (ok : s.tables.Ok) : AtRest (reseat s) := by
  have tiles := reseat_sameTiles s
  have law := reseated_reseat s
  have rest : ∀ tile n, (∃ x y, locate s x y = some tile ∧ (reseat s).glide.px / 16 = x ∧ (reseat s).glide.py / 16 = y) →
      liveOwner s tile = some n → (reseat s).glide.seat = some ⟨tile.screen, tile.quad, n⟩ → AtRest (reseat s) := by
    rintro tile n ⟨x, y, hl, rfl, rfl⟩ ho hs
    exact .inl ⟨tile, n, ⟨by rw [hs]; rfl, (tiles.locate _ _).trans hl, (tiles.liveOwner _).trans ho⟩, hs⟩
  cases hst : stayTile s with
  | some tn =>
    obtain ⟨tile, n⟩ := tn
    have stays := (staysOn_congr tiles tile n).2 (stayTile_iff.1 hst)
    obtain ⟨⟨px, py⟩, seat, -⟩ := law.1 tile n stays
    obtain ⟨-, hl, ho⟩ := stayTile_iff.1 hst
    exact rest tile n ⟨_, _, hl, by rw [px], by rw [py]⟩ ho seat
  | none =>
    cases hn : newTile s with
    | some tn =>
      obtain ⟨tile, n⟩ := tn
      obtain ⟨hm, ho⟩ := newTile_some hn
      obtain ⟨-, px, py, seat, -⟩ := reseat_of_place (reseatPlace_moves hst hn)
      exact rest tile n ⟨_, _, locate_centre ok hm, by rw [px]; rfl, by rw [py]; rfl⟩ ho seat
    | none =>
      obtain ⟨e, -, -, seat, -⟩ := reseat_of_place (reseatPlace_unseats hst hn)
      refine .inr ⟨seat, by rw [tiles.firstLive, newTile_none hn], ?_⟩
      rw [e, answerReseat, considerPosition_focus]
      rfl

/-! ### The parts of a detach (R79) -/

theorem nativeSize_eq (e : LayoutEntry) (reported : Option (Nat × Nat)) : nativeSize e reported =
    if e.nativeW ≠ 0 ∧ e.nativeH ≠ 0 then (e.nativeW, e.nativeH) else reported.getD (e.w, e.h) := by
  unfold nativeSize
  cases reported <;> rfl

/-- What displaying the pending assignment at once leaves. -/
structure PendingShown (sc : ScreenNo) (s t : State) : Prop where
  screens : screensKept (s.modScreen sc fun r =>
    { r with displayed := r.pendingAssignment.getD r.displayed, pendingAssignment := none }) t
  kinds : AllKindsTaken s t
  frames : t.focus.focus = s.focus.focus → ∀ x, framesKept x s t
  quiet : Quiet s t
  settled : s.tables.Ok → t = s ∨ (AtRest t ∧ reseated s t)

theorem pendingShown_displayPending (sc : ScreenNo) (s : State) : PendingShown sc s (displayPending sc s) := by
  unfold displayPending
  split
  next hp =>
    refine ⟨fun x => ?_, fun x => .refl _, fun _ x => ⟨rfl, rfl⟩, .refl s, fun _ => .inl rfl⟩
    by_cases hx : x = sc
    · subst hx
      rw [State.modScreen_screen]
      exact ⟨rfl, rfl, rfl, by rw [hp]; rfl, hp, rfl, rfl⟩
    · rw [State.modScreen_screen_ne _ _ hx]
      exact ⟨rfl, rfl, rfl, rfl, rfl, rfl, rfl⟩
  next a hp =>
    have shown : s.modScreen sc (fun r => { r with displayed := a, pendingAssignment := none }) = s.modScreen sc fun r =>
        { r with displayed := r.pendingAssignment.getD r.displayed, pendingAssignment := none } := by
      unfold State.modScreen
      dsimp only
      rw [hp]
      rfl
    have taken : AllKindsTaken s (s.modScreen sc fun r => { r with displayed := a, pendingAssignment := none }) := fun x => by
      by_cases hx : x = sc
      · subst hx
        rw [State.modScreen_screen]
        exact ⟨rfl, rfl, fun _ => rfl, fun _ h => h⟩
      · rw [State.modScreen_screen_ne _ _ hx]
        exact .refl _
    have kept : ∀ x, framesKept x s (s.modScreen sc fun r => { r with displayed := a, pendingAssignment := none }) := fun x => by
      unfold framesKept
      by_cases hx : x = sc
      · subst hx
        rw [State.modScreen_screen]
        exact ⟨rfl, rfl⟩
      · rw [State.modScreen_screen_ne _ _ hx]
        exact ⟨rfl, rfl⟩
    have r := reseats_reseat (s.modScreen sc fun r => { r with displayed := a, pendingAssignment := none })
    refine ⟨shown ▸ r.screens, taken.trans (allKindsTaken_reseat _), fun hf x => ?_,
      (quiet_modScreen sc _ s).trans (quiet_reseat _), fun ok => .inr ⟨atRest_reseat ok, ?_⟩⟩
    · obtain ⟨screens, -⟩ := r.stays hf
      unfold framesKept
      rw [screens]
      exact kept x
    · exact reseated_before r.law rfl ⟨rfl, rfl, rfl, rfl, rfl⟩

/-- The screen's record of a detach, its frames shown and its blanking following the lock state. -/
theorem settled_screen (sc : ScreenNo) (s : State) : (raise .screen (settleFrames sc s)).screens[sc] =
    { s.screens[sc] with
      frames := s.screens[sc].pendingFrames.getD s.screens[sc].frames
      pendingFrames := none
      blanked := decide (s.lock.state ≠ .unlocked) } := by
  rw [(served_raise _ .screen).screens, settleFrames, State.modScreen_screen]
  rfl

theorem settled_screen_ne {sc x : ScreenNo} (s : State) (h : x ≠ sc) :
    (raise .screen (settleFrames sc s)).screens[x] = s.screens[x] := by
  rw [(served_raise _ .screen).screens, settleFrames, State.modScreen_screen_ne s _ h]

theorem afterReseat_settled {sc : ScreenNo} {s : State} (h : s.screens[sc].attached = false) :
    AfterReseat s (raise .screen (settleFrames sc s)) := by
  have still : DeskStill s (raise .screen (settleFrames sc s)) :=
    DeskStill.trans (t := settleFrames sc s) deskStill_modScreen (served_raise _ .screen).deskStill
  refine ⟨still, rfl, rfl, rfl, Heard.trans (t := settleFrames sc s) (heard_of_eq rfl rfl) (heard_raise .screen _), fun anew x => ?_⟩
  have before := anew x
  have peek : (raise .screen (settleFrames sc s)).screens[x].peek = s.screens[x].peek := by
    by_cases hx : x = sc
    · subst hx
      rw [settled_screen]
    · rw [settled_screen_ne s hx]
  unfold screenAnew at before ⊢
  rw [tileKinds_congr (s := s) (t := raise .screen (settleFrames sc s)) peek rfl rfl rfl]
  by_cases hx : x = sc
  · subst hx
    obtain ⟨frames, pending⟩ := before.2 h
    rw [settled_screen]
    refine ⟨fun ha => absurd (ha.symm.trans h) (by decide), fun _ => ⟨?_, rfl⟩⟩
    dsimp only
    rw [pending, Option.getD_none, frames]
  · rw [settled_screen_ne s hx]
    exact before

/-! ### Attaches and detaches as wholes -/

theorem exec_displayDetach (sc : ScreenNo) (s : State) : exec (.displayDetach sc) s = .next (doDisplayDetach sc s) := rfl

theorem exec_displayAttach (sc : ScreenNo) (preferred) (s : State) :
    exec (.displayAttach sc preferred) s = .next (doDisplayAttach sc preferred s) := rfl

theorem doDisplayDetach_without {sc : ScreenNo} {s : State} (h : s.screens[sc].attached = false) :
    doDisplayDetach sc s = s := by
  unfold doDisplayDetach
  rw [if_neg (by rw [h]; decide)]

theorem doDisplayDetach_attached {sc : ScreenNo} {s : State} (h : s.screens[sc].attached = true) :
    doDisplayDetach sc s = reseat (raise .screen (settleFrames sc (displayPending sc
      (s.modScreen sc (Screen.unplug s.tables.layout[sc]))))) := by
  unfold doDisplayDetach
  rw [if_pos h]

/-- A screen's record once a display with the layout entry `e` is attached. -/
def plugIn (e : LayoutEntry) (preferred : Option (Nat × Nat)) (r : Screen) : Screen :=
  { r with attached := true, reported := preferred, native := nativeSize e preferred }

theorem doDisplayAttach_eq (sc : ScreenNo) (preferred) (s : State) : doDisplayAttach sc preferred s =
    reseat (raise .screen ((doDisplayDetach sc s).modScreen sc
      (plugIn (doDisplayDetach sc s).tables.layout[sc] preferred))) := rfl

/-- What a detach of a display leaves. -/
structure Detached (sc : ScreenNo) (s t : State) : Prop where
  attached : t.screens[sc].attached = false
  reported : t.screens[sc].reported = none
  native : t.screens[sc].native = nativeSize s.tables.layout[sc] none
  composed : t.screens[sc].composed = none
  displayed : t.screens[sc].displayed = s.screens[sc].pendingAssignment.getD s.screens[sc].displayed
  pending : t.screens[sc].pendingAssignment = none
  pendingFrames : t.screens[sc].pendingFrames = none
  peek : t.screens[sc].peek = s.screens[sc].peek
  blanked : t.screens[sc].blanked = true ↔ s.lock.state ≠ .unlocked
  reseated : s.tables.Ok → Machine.reseated s t
  frames : s.tables.Ok → t.focus.focus = s.focus.focus →
    t.screens[sc].frames = s.screens[sc].pendingFrames.getD s.screens[sc].frames
  told : positionTold t
  announced : announced .screen t
  others : ∀ x : ScreenNo, x ≠ sc → t.screens[x].attached = s.screens[x].attached ∧
    t.screens[x].displayed = s.screens[x].displayed ∧
    t.screens[x].pendingAssignment = s.screens[x].pendingAssignment ∧ t.screens[x].peek = s.screens[x].peek
  otherFrames : s.tables.Ok → t.focus.focus = s.focus.focus → ∀ x : ScreenNo, x ≠ sc → framesKept x s t
  quiet : Quiet s t

/-- The re-seat that ends a detach, after the pending assignment was displayed: the position is considered once more, or it is
the detach's one re-seat. -/
theorem reseat_afterPending {sc : ScreenNo} {s u : State} (h : PendingShown sc s u) (ok : s.tables.Ok)
    (away : u.screens[sc].attached = false) :
    reseated s (reseat (raise .screen (settleFrames sc u))) ∧
      ((reseat (raise .screen (settleFrames sc u))).focus.focus = s.focus.focus → u.focus.focus = s.focus.focus ∧
        (reseat (raise .screen (settleFrames sc u))).screens = (raise .screen (settleFrames sc u)).screens) := by
  have after := afterReseat_settled away
  rcases h.settled ok with rfl | ⟨rest, law⟩
  · have r := reseats_reseat (raise .screen (settleFrames sc u))
    exact ⟨reseated_before r.law rfl ⟨rfl, rfl, rfl, rfl, rfl⟩, fun hf => ⟨rfl, (r.stays hf).1⟩⟩
  · rw [reseat_atRest (atRest_later rest after.still.sameTiles rfl rfl)]
    have last := placing_considerPosition (raise .screen (settleFrames sc u))
    have served := served_considerPosition (raise .screen (settleFrames sc u))
    have considered : AfterReseat (raise .screen (settleFrames sc u)) (considerPosition (raise .screen (settleFrames sc u))) :=
      ⟨served.deskStill, considerPosition_focus _, last.typeout, served.remembered, last.heard, fun anew =>
        framesAnew_congr anew served.screens served.tables served.focused (by rw [served.alerts])⟩
    exact ⟨reseated_after law (after.trans considered), fun hf => ⟨served.focused.symm.trans hf, served.screens⟩⟩

theorem detached_doDisplayDetach {sc : ScreenNo} {s : State} (h : s.screens[sc].attached = true) :
    Detached sc s (doDisplayDetach sc s) := by
  rw [doDisplayDetach_attached h]
  have p := pendingShown_displayPending sc (s.modScreen sc (Screen.unplug s.tables.layout[sc]))
  generalize displayPending sc (s.modScreen sc (Screen.unplug s.tables.layout[sc])) = u at p
  have shown := p.screens sc
  have composed := (p.kinds sc).composed
  rw [State.modScreen_screen, State.modScreen_screen] at shown
  rw [State.modScreen_screen] at composed
  obtain ⟨attached, reported, native, displayed, pending, peek, -⟩ := shown
  have other : ∀ x, x ≠ sc → u.screens[x].attached = s.screens[x].attached ∧
      u.screens[x].displayed = s.screens[x].displayed ∧
      u.screens[x].pendingAssignment = s.screens[x].pendingAssignment ∧ u.screens[x].peek = s.screens[x].peek := fun x hx => by
    obtain ⟨h1, -, -, h2, h3, h4, -⟩ := p.screens x
    rw [State.modScreen_screen_ne _ _ hx, State.modScreen_screen_ne _ _ hx] at h1 h2 h3 h4
    exact ⟨h1, h2, h3, h4⟩
  have last := fun ok => reseat_afterPending p ok attached
  have settled := settled_screen sc u
  have settledOther := fun x hx => settled_screen_ne (sc := sc) (x := x) u hx
  have heard : announced .screen (raise .screen (settleFrames sc u)) := announced_raise .screen _
  have r := reseats_reseat (raise .screen (settleFrames sc u))
  have k := allKindsTaken_reseat (raise .screen (settleFrames sc u))
  have q : Quiet u (reseat (raise .screen (settleFrames sc u))) :=
    ((quiet_modScreen sc _ u).trans (quiet_raise .screen _)).trans (quiet_reseat _)
  generalize raise .screen (settleFrames sc u) = v at last settled settledOther heard r k q
  generalize reseat v = t at last r k q
  have quiet : Quiet s t := ((quiet_modScreen sc _ s).trans p.quiet).trans q
  obtain ⟨attached', reported', native', displayed', pending', peek', blanked'⟩ := r.screens sc
  have kinds := k sc
  rw [settled] at attached' reported' native' displayed' pending' peek' blanked' kinds
  have frames : s.tables.Ok → t.focus.focus = s.focus.focus → ∀ x, framesKept x (s.modScreen sc
      (Screen.unplug s.tables.layout[sc])) u ∧ t.screens[x] = v.screens[x] := fun ok hf x => by
    obtain ⟨hu, hs⟩ := (last ok).2 hf
    exact ⟨p.frames hu x, by rw [hs]⟩
  refine ⟨attached'.trans attached, reported'.trans reported, native'.trans native, kinds.composed.trans composed,
    displayed'.trans displayed, pending'.trans pending, kinds.pending attached rfl, peek'.trans peek, ?_,
    fun ok => reseated_before (last ok).1 rfl ⟨rfl, rfl, rfl, rfl, rfl⟩, fun ok hf => ?_, r.told, r.heard.announced heard,
    fun x hx => ?_, fun ok hf x hx => ?_, quiet⟩
  · rw [blanked', p.quiet.lock]
    exact decide_eq_true_iff
  · obtain ⟨⟨f, pf⟩, eq⟩ := frames ok hf sc
    rw [State.modScreen_screen] at f pf
    rw [eq, settled]
    dsimp only
    rw [f, pf]
    rfl
  · obtain ⟨h1, -, -, h2, h3, h4, -⟩ := r.screens x
    rw [settledOther x hx] at h1 h2 h3 h4
    obtain ⟨o1, o2, o3, o4⟩ := other x hx
    exact ⟨h1.trans o1, h2.trans o2, h3.trans o3, h4.trans o4⟩
  · obtain ⟨⟨f, pf⟩, eq⟩ := frames ok hf x
    rw [State.modScreen_screen_ne _ _ hx] at f pf
    unfold framesKept
    rw [eq, settledOther x hx]
    exact ⟨f, pf⟩

/-- What an attach of a display leaves where there was none. -/
structure Attached (sc : ScreenNo) (preferred : Option (Nat × Nat)) (s t : State) : Prop where
  attached : t.screens[sc].attached = true
  reported : t.screens[sc].reported = preferred
  native : t.screens[sc].native = nativeSize s.tables.layout[sc] preferred
  displayed : t.screens[sc].displayed = s.screens[sc].displayed
  pending : t.screens[sc].pendingAssignment = s.screens[sc].pendingAssignment
  peek : t.screens[sc].peek = s.screens[sc].peek
  blanked : t.screens[sc].blanked = s.screens[sc].blanked
  announced : announced .screen t
  others : ∀ x : ScreenNo, x ≠ sc → t.screens[x].attached = s.screens[x].attached ∧
    t.screens[x].displayed = s.screens[x].displayed ∧
    t.screens[x].pendingAssignment = s.screens[x].pendingAssignment ∧ t.screens[x].peek = s.screens[x].peek
  frames : t.focus.focus = s.focus.focus → ∀ x : ScreenNo, framesKept x s t
  reseated : reseated s t
  told : positionTold t
  quiet : Quiet s t

theorem attached_doDisplayAttach {sc : ScreenNo} {s : State} (preferred) (h : s.screens[sc].attached = false) :
    Attached sc preferred s (doDisplayAttach sc preferred s) := by
  rw [doDisplayAttach_eq, doDisplayDetach_without h]
  have screen := State.modScreen_screen s sc (plugIn s.tables.layout[sc] preferred)
  have other := fun x hx => State.modScreen_screen_ne s (sc := sc) (x := x) (plugIn s.tables.layout[sc] preferred) hx
  have quiet := quiet_modScreen sc (plugIn s.tables.layout[sc] preferred) s
  have same : SameButPointer s (raise .screen (s.modScreen sc (plugIn s.tables.layout[sc] preferred))) :=
    ⟨rfl, rfl, rfl, rfl, rfl⟩
  have glide : (s.modScreen sc (plugIn s.tables.layout[sc] preferred)).glide = s.glide := rfl
  generalize s.modScreen sc (plugIn s.tables.layout[sc] preferred) = u at screen other quiet same glide
  have r := reseats_reseat (raise .screen u)
  have heard : announced .screen (raise .screen u) := announced_raise .screen u
  have q : Quiet s (reseat (raise .screen u)) := (quiet.trans (quiet_raise .screen u)).trans (quiet_reseat _)
  generalize reseat (raise .screen u) = t at r q
  have raised : (raise .screen u).screens = u.screens := rfl
  have kept := r.screens
  unfold screensKept at kept
  rw [raised] at kept
  obtain ⟨attached, reported, native, displayed, pending, peek, blanked⟩ := kept sc
  rw [screen] at attached reported native displayed pending peek blanked
  refine ⟨attached, reported, native, displayed, pending, peek, blanked, r.heard.announced heard, fun x hx => ?_,
    fun hf x => ?_, reseated_before r.law glide same, r.told, q⟩
  · obtain ⟨h1, -, -, h2, h3, h4, -⟩ := kept x
    rw [other x hx] at h1 h2 h3 h4
    exact ⟨h1, h2, h3, h4⟩
  · obtain ⟨screens, -⟩ := r.stays (hf.trans (by rw [same.focus]))
    unfold framesKept
    rw [screens, raised]
    by_cases hx : x = sc
    · subst hx
      rw [screen]
      exact ⟨rfl, rfl⟩
    · rw [other x hx]
      exact ⟨rfl, rfl⟩

/-- Settles O38: one re-seat for an attach; for a detach with a pending assignment two, the second of which finds the pointer at
rest. -/
theorem displaysComeAndGo : Obligations.DisplaysComeAndGo := by
  unfold Obligations.DisplaysComeAndGo
  intro sc preferred s
  refine ⟨fun h => ⟨by rw [exec_displayDetach, doDisplayDetach_without h], _, exec_displayAttach sc preferred s, ?_⟩,
    fun h => ⟨_, exec_displayDetach sc s, ?_⟩⟩
  · have a := attached_doDisplayAttach preferred h
    generalize doDisplayAttach sc preferred s = t at a
    exact ⟨a.attached, a.reported, a.native.trans (nativeSize_eq _ _), a.displayed, a.peek, a.pending, a.blanked, a.announced,
      fun x hx => ⟨fun hf _ => a.frames hf x, a.others x hx⟩, a.quiet.tables, a.reseated, a.told, fun hf => a.frames hf sc,
      a.quiet.channels, a.quiet.lock, a.quiet.deskKeys⟩
  · have d := detached_doDisplayDetach h
    have again : exec (.displayAttach sc preferred) s = exec (.displayAttach sc preferred) (doDisplayDetach sc s) := by
      rw [exec_displayAttach, exec_displayAttach, doDisplayAttach_eq, doDisplayAttach_eq sc preferred (doDisplayDetach sc s),
        doDisplayDetach_without d.attached]
    generalize doDisplayDetach sc s = t at d again
    exact ⟨d.attached, d.reported, d.native.trans (nativeSize_eq _ _), d.composed, d.displayed, d.pending, d.pendingFrames,
      d.peek, d.blanked, fun ok => ⟨d.reseated ok, d.frames ok⟩, d.told, d.announced,
      fun x hx => ⟨fun hf ok => d.otherFrames ok hf x hx, d.others x hx⟩, d.quiet.tables, d.quiet.channels, d.quiet.lock,
      d.quiet.deskKeys, again⟩

end Sys2Proof.Machine
end


section
/-! ## Presses and releases reach the computers (R22 to R26) -/

namespace Sys2Proof.Machine

/-! ### What the computers are told -/

/-- The belief set of computer `m`, its port, and the position it was told last. -/
def toldOf (m : Computer) (s : State) : Belief × Port × Option (Nat × Nat) :=
  (s.focus.beliefs[m], s.ports[m], s.glide.lastAbs[m])

/-- Nothing but belief sets and ports changes. -/
def BeliefsAndPorts (s t : State) : Prop :=
  ∃ beliefs ports, t = { s with focus := { s.focus with beliefs := beliefs }, ports := ports }

theorem BeliefsAndPorts.refl (s : State) : BeliefsAndPorts s s := ⟨_, _, rfl⟩

theorem BeliefsAndPorts.trans {s t u : State} (h : BeliefsAndPorts s t) (k : BeliefsAndPorts t u) : BeliefsAndPorts s u := by
  obtain ⟨b, p, rfl⟩ := h
  obtain ⟨b', p', rfl⟩ := k
  exact ⟨b', p', rfl⟩

/-- Nothing but belief sets, ports and the positions told last changes. -/
def BeliefsPortsPositions (s t : State) : Prop :=
  ∃ beliefs ports lastAbs, t = { s with
    focus := { s.focus with beliefs := beliefs }
    glide := { s.glide with lastAbs := lastAbs }
    ports := ports }

theorem BeliefsPortsPositions.trans {s t u : State} (h : BeliefsPortsPositions s t) (k : BeliefsPortsPositions t u) :
    BeliefsPortsPositions s u := by
  obtain ⟨b, p, l, rfl⟩ := h
  obtain ⟨b', p', l', rfl⟩ := k
  exact ⟨b', p', l', rfl⟩

theorem BeliefsAndPorts.withPositions {s t : State} (h : BeliefsAndPorts s t) : BeliefsPortsPositions s t := by
  obtain ⟨b, p, rfl⟩ := h
  exact ⟨b, p, s.glide.lastAbs, rfl⟩

/-- A belief set and a port of one computer change. -/
theorem beliefsAndPorts_tell (n : Computer) (b : Belief) (f : Port → Port) (s : State) :
    BeliefsAndPorts s ((s.setBelief n b).modPort n f) := ⟨_, _, rfl⟩

theorem toldOf_tell_self (n : Computer) (b : Belief) (f : Port → Port) (s : State) :
    toldOf n ((s.setBelief n b).modPort n f) = (b, f s.ports[n], s.glide.lastAbs[n]) := by
  unfold toldOf
  rw [State.modPort_port]
  refine Prod.ext ?_ rfl
  exact State.setBelief_beliefs_self s n b

theorem toldOf_tell_ne {n m : Computer} (h : n ≠ m) (b : Belief) (f : Port → Port) (s : State) :
    toldOf m ((s.setBelief n b).modPort n f) = toldOf m s := by
  unfold toldOf
  rw [State.modPort_port_ne _ _ h]
  refine Prod.ext ?_ rfl
  exact State.setBelief_beliefs_ne s b h

/-! ### A press at each receiver (R22) -/

/-- A press taken in by a computer that is READY and whose belief set lacks the key (R22). -/
def pressTaken (n : Computer) (k : Nat) (s : State) : State :=
  if k ∉ s.focus.beliefs[n].keys ∧ s.ports[n].link = .ready then sendPress n k s else s

theorem deliverPress_taken {n : Computer} {b : Bool} {k : Nat} {s : State} (h : b = false ∨ s.ports[n].link = .ready) :
    deliverPress n b k s = pressTaken n k s := by
  unfold deliverPress pressTaken
  by_cases hk : k ∈ s.focus.beliefs[n].keys
  · rw [if_pos hk, if_neg fun e => e.1 hk]
  · rw [if_neg hk]
    by_cases hr : s.ports[n].link = .ready
    · rw [if_pos hr, if_pos ⟨hk, hr⟩]
    · obtain rfl := h.resolve_right hr
      exact (if_neg hr).trans (if_neg fun e => hr e.2).symm

theorem beliefsAndPorts_pressTaken (n : Computer) (k : Nat) (s : State) : BeliefsAndPorts s (pressTaken n k s) := by
  unfold pressTaken
  split
  · exact beliefsAndPorts_tell n _ _ s
  · exact .refl s

theorem toldOf_pressTaken_ne {n m : Computer} (h : n ≠ m) (k : Nat) (s : State) : toldOf m (pressTaken n k s) = toldOf m s := by
  unfold pressTaken
  split
  · exact toldOf_tell_ne h _ _ s
  · rfl

theorem toldOf_pressTaken_self (n : Computer) (k : Nat) (s : State) : toldOf n (pressTaken n k s) =
    if k ∉ s.focus.beliefs[n].keys ∧ s.ports[n].link = .ready then
      ({ s.focus.beliefs[n] with keys := setInsert k s.focus.beliefs[n].keys },
        s.ports[n].addSnapshot s.now (setInsert k s.focus.beliefs[n].keys), s.glide.lastAbs[n])
    else toldOf n s := by
  unfold pressTaken
  split
  · exact toldOf_tell_self n _ _ s
  · rfl

/-- What computer `m` has been told of a press of `k` once it had its turn (R22). -/
def toldPress (k : Nat) (s : State) (m : Computer) : Belief × Port × Option (Nat × Nat) :=
  if (s.focus.focus = some m ∨ s.focus.broadcast[m] = true) ∧ k ∉ s.focus.beliefs[m].keys ∧ s.ports[m].link = .ready then
    ({ s.focus.beliefs[m] with keys := setInsert k s.focus.beliefs[m].keys },
      s.ports[m].addSnapshot s.now (setInsert k s.focus.beliefs[m].keys), s.glide.lastAbs[m])
  else toldOf m s

theorem toldOf_eq {n : Computer} {s u : State} (h : toldOf n u = toldOf n s) : u.focus.beliefs[n] = s.focus.beliefs[n] ∧
    u.ports[n] = s.ports[n] ∧ u.glide.lastAbs[n] = s.glide.lastAbs[n] := by
  simpa [toldOf] using h

theorem toldOf_pressTaken {n : Computer} {k : Nat} {s u : State} (h : BeliefsAndPorts s u) (told : toldOf n u = toldOf n s)
    (receiver : s.focus.focus = some n ∨ s.focus.broadcast[n] = true) : toldOf n (pressTaken n k u) = toldPress k s n := by
  obtain ⟨belief, port, last⟩ := toldOf_eq told
  have now : u.now = s.now := by
    obtain ⟨b, p, rfl⟩ := h
    rfl
  rw [toldOf_pressTaken_self, told, belief, port, last, now]
  unfold toldPress
  simp only [receiver, true_and]

theorem toldPress_stranger {k : Nat} {s : State} {m : Computer} (hf : s.focus.focus ≠ some m)
    (hb : s.focus.broadcast[m] = false) : toldPress k s m = toldOf m s :=
  if_neg fun ⟨h, _⟩ => h.elim hf fun h => absurd (h.symm.trans hb) (by decide)

/-- The presses at the broadcast members, in port order, after that at the focus computer. -/
theorem memberPresses_each (k : Nat) (s : State) : EachInTurn (pressForMember k) (BeliefsAndPorts s)
    (fun m u => toldOf m u = if s.focus.focus = some m then toldPress k s m else toldOf m s)
    (fun m u => toldOf m u = toldPress k s m) := by
  have member : ∀ u n, BeliefsAndPorts s u → pressForMember k u n =
      if s.focus.broadcast[n] = true ∧ s.focus.focus ≠ some n then pressTaken n k u else u := fun u n h => by
    unfold pressForMember
    rw [deliverPress_taken (.inl rfl)]
    obtain ⟨b, p, rfl⟩ := h
    rfl
  have elsewhere : ∀ u n m, n ≠ m → BeliefsAndPorts s u → toldOf m (pressForMember k u n) = toldOf m u := fun u n m hne h => by
    rw [member u n h]
    split
    · exact toldOf_pressTaken_ne hne k u
    · rfl
  refine ⟨fun u n h => ?_, fun u n h told => ?_, fun u n m hne h told => (elsewhere u n m hne h).trans told,
    fun u n m hne h told => (elsewhere u n m hne h).trans told⟩
  · rw [member u n h]
    split
    · exact h.trans (beliefsAndPorts_pressTaken n k u)
    · exact h
  · rw [member u n h]
    by_cases hf : s.focus.focus = some n
    · rw [if_neg fun e => e.2 hf, told, if_pos hf]
    · rw [if_neg hf] at told
      by_cases hb : s.focus.broadcast[n] = true
      · rw [if_pos ⟨hb, hf⟩]
        exact toldOf_pressTaken h told (.inr hb)
      · rw [if_neg fun e => hb e.1, told, toldPress_stranger hf (Bool.eq_false_of_not_eq_true hb)]

/-- A press for a focus computer, READY here, and the broadcast members (R22). -/
theorem focusKeyPress_told {k : Nat} {s : State} (ready : ∀ f : Computer, s.focus.focus = some f → s.ports[f].link = .ready) :
    BeliefsAndPorts s (focusKeyPress k s) ∧ ∀ m, toldOf m (focusKeyPress k s) = toldPress k s m := by
  have focus : BeliefsAndPorts s (pressForFocus k s) ∧ ∀ m, toldOf m (pressForFocus k s) =
      if s.focus.focus = some m then toldPress k s m else toldOf m s := by
    unfold pressForFocus
    cases hf : s.focus.focus with
    | none => exact ⟨.refl s, fun m => by rw [if_neg (by simp)]⟩
    | some f =>
      have awake : wakeOnInput f s = s := if_neg fun e => absurd (e.1.symm.trans (ready f hf)) (by decide)
      dsimp only
      rw [awake, deliverPress_taken (.inr (ready f hf))]
      refine ⟨beliefsAndPorts_pressTaken f k s, fun m => ?_⟩
      by_cases hm : f = m
      · subst hm
        rw [if_pos rfl]
        exact toldOf_pressTaken (.refl s) rfl (.inl hf)
      · rw [if_neg fun e => hm (Option.some.inj e)]
        exact toldOf_pressTaken_ne hm k s
  have each := memberPresses_each k s
  exact ⟨each.foldl_keeps computers focus.1, fun m => each.all focus.1 m (focus.2 m)⟩

/-! ### A press ends a type-out (R129) -/

/-- The mailbox of a type-out that a press has ended. -/
def typeoutEnded (m : Typeout) : Typeout :=
  ⟨.held, none, m.text, m.depositor, none, 0, 0, 0, none, some ⟨.cancelledKey, m.typed, m.skipped⟩⟩

theorem endTypeout_typing {s : State} (h : s.typeout.state = .typing) : endTypeout .cancelledKey s =
    raise .typeout { releaseIfPressed s with typeout := typeoutEnded (releaseIfPressed s).typeout } := if_pos h

theorem mem_pressedKeys (c : Pressed) (a : Nat) : a ∈ c.keys ↔ a = c.key ∨ (c.shift = true ∧ a = 225) := by
  unfold Pressed.keys
  cases c.shift with
  | true =>
    rw [if_pos rfl, mem_setInsert, List.mem_singleton]
    simp only [true_and]
    exact or_comm
  | false => simp

theorem releaseIfPressed_pressed {s : State} {f : Computer} {pc : Pacing} {ch : Pressed} (hf : s.typeout.target = some f)
    (hp : s.typeout.pacing = some pc) (hc : pc.pressed = some ch) : releaseIfPressed s = releaseTyped f ch s := by
  unfold releaseIfPressed
  rw [hf, hp]
  dsimp only
  rw [hc]

theorem releaseIfPressed_unpressed {s : State} (h : ∀ f pc ch, s.typeout.target = some f → s.typeout.pacing = some pc →
    pc.pressed ≠ some ch) : releaseIfPressed s = s := by
  unfold releaseIfPressed
  split
  next f pc hf hp =>
    split
    next ch hc => exact absurd hc (h f pc ch hf hp)
    next => rfl
  next => rfl

/-- What the release of a typed character changes. -/
theorem releaseTyped_changes (f : Computer) (ch : Pressed) (s : State) : BeliefsAndPorts s (releaseTyped f ch s) := by
  unfold releaseTyped
  dsimp only
  split
  · exact .refl s
  · exact beliefsAndPorts_tell f _ _ s

theorem releaseIfPressed_changes (s : State) : BeliefsAndPorts s (releaseIfPressed s) := by
  by_cases h : ∃ f pc ch, s.typeout.target = some f ∧ s.typeout.pacing = some pc ∧ pc.pressed = some ch
  · obtain ⟨f, pc, ch, hf, hp, hc⟩ := h
    rw [releaseIfPressed_pressed hf hp hc]
    exact releaseTyped_changes f ch s
  · rw [releaseIfPressed_unpressed fun f pc ch hf hp hc => h ⟨f, pc, ch, hf, hp, hc⟩]
    exact .refl s

/-- What the end of a type-out changes. -/
theorem endTypeout_changes (e : TypeEnd) (s : State) : ∃ focus ports typeout mgmt,
    endTypeout e s = { s with focus := focus, ports := ports, typeout := typeout, mgmt := mgmt } := by
  obtain ⟨beliefs, ports, released⟩ := releaseIfPressed_changes s
  unfold endTypeout
  rw [released]
  split
  · exact ⟨_, _, _, _, rfl⟩
  · exact ⟨_, _, _, _, rfl⟩

/-- The release of a typed character depends on neither the desk keys nor the candidate. -/
theorem releaseTyped_setCandidate (f : Computer) (ch : Pressed) (a) (k : Nat) (s : State) :
    releaseTyped f ch (setCandidate a (keyEntered k s)) = setCandidate a (keyEntered k (releaseTyped f ch s)) := by
  by_cases h : s.focus.beliefs[f].keys.filter (fun k => decide (k ∈ ch.keys)) = []
  · rw [show releaseTyped f ch s = s from if_pos h]
    exact if_pos h
  · unfold releaseTyped
    dsimp only
    rw [if_neg h]
    exact if_neg h

/-- The end of a type-out depends on neither the desk keys nor the candidate. -/
theorem endTypeout_setCandidate (e : TypeEnd) (a) (k : Nat) (s : State) :
    endTypeout e (setCandidate a (keyEntered k s)) = setCandidate a (keyEntered k (endTypeout e s)) := by
  have released : releaseIfPressed (setCandidate a (keyEntered k s)) = setCandidate a (keyEntered k (releaseIfPressed s)) := by
    by_cases h : ∃ f pc ch, s.typeout.target = some f ∧ s.typeout.pacing = some pc ∧ pc.pressed = some ch
    · obtain ⟨f, pc, ch, hf, hp, hc⟩ := h
      rw [releaseIfPressed_pressed hf hp hc, ← releaseTyped_setCandidate]
      exact releaseIfPressed_pressed (s := setCandidate a (keyEntered k s)) hf hp hc
    · have none : ∀ f pc ch, s.typeout.target = some f → s.typeout.pacing = some pc → pc.pressed ≠ some ch :=
        fun f pc ch hf hp hc => h ⟨f, pc, ch, hf, hp, hc⟩
      rw [releaseIfPressed_unpressed none]
      exact releaseIfPressed_unpressed (s := setCandidate a (keyEntered k s)) none
  by_cases h : s.typeout.state = .typing
  · unfold endTypeout
    rw [if_pos h, released]
    exact if_pos h
  · rw [endTypeout_idle h]
    exact endTypeout_idle h

/-- A press that no hotkey takes, without a type-out (R22, R98 to R100). -/
theorem exec_pressAlone_notTaken {c : ConsoleNo} {r : KeyInput} {k : Nat} {n : List Nat} {s : State} (press : PressAlone c r k n s)
    (hl : s.lock.state = .unlocked) (hk : notTaken k s) (ht : s.typeout.state ≠ .typing) : exec (.keyboardReport c r) s =
      .next (keySetTaken c n (focusKeyPress k (setCandidate (firstTap k s) (keyEntered k s)))) := by
  rw [exec_pressAlone press, lockKeyPress_notTaken hl hk, handOnPress,
    endTypeout_idle (s := setCandidate (firstTap k s) (keyEntered k s)) ht]

/-- A press during a type-out is the press that it is once the type-out has ended (R129). -/
theorem exec_pressAlone_typing {c : ConsoleNo} {r : KeyInput} {k : Nat} {n : List Nat} {s : State} (press : PressAlone c r k n s)
    (hl : s.lock.state = .unlocked) (hk : notTaken k s) (ht : s.typeout.state = .typing) :
    exec (.keyboardReport c r) s = exec (.keyboardReport c r) (endTypeout .cancelledKey s) := by
  have idle : (endTypeout .cancelledKey s).typeout.state ≠ .typing := by
    rw [endTypeout_typing ht]
    exact MailState.noConfusion
  have first : exec (.keyboardReport c r) s = .next (keySetTaken c n (focusKeyPress k
      (setCandidate (firstTap k s) (keyEntered k (endTypeout .cancelledKey s))))) := by
    rw [exec_pressAlone press, lockKeyPress_notTaken hl hk, handOnPress, endTypeout_setCandidate]
  obtain ⟨focus, ports, typeout, mgmt, e⟩ := endTypeout_changes .cancelledKey s
  rw [e] at idle first ⊢
  have press' : PressAlone c r k n { s with focus := focus, ports := ports, typeout := typeout, mgmt := mgmt } :=
    ⟨press.keyboard, press.reduced, press.fresh⟩
  rw [first, exec_pressAlone_notTaken press' hl hk idle]
  rfl

/-- What a type-out's end releases at the target: nothing, or the character and the Shift key that it holds pressed there. -/
theorem endTypeout_unpressed {s : State} (ht : s.typeout.state = .typing)
    (h : ∀ pc, s.typeout.pacing = some pc → pc.pressed = none) :
    endTypeout .cancelledKey s = raise .typeout { s with typeout := typeoutEnded s.typeout } := by
  rw [endTypeout_typing ht, releaseIfPressed_unpressed fun f pc ch _ hp hc => by rw [h pc hp] at hc; cases hc]

/-- The keys of a belief set that a pressed character leaves. -/
theorem setDiff_pressed (ch : Pressed) (keys : List Nat) :
    setDiff keys ch.keys = keys.filter fun x => !decide (x = ch.key ∨ (ch.shift = true ∧ x = 225)) := by
  unfold setDiff
  refine List.filter_congr fun x _ => ?_
  rw [← decide_not]
  exact decide_eq_decide.2 (not_congr (mem_pressedKeys ch x))

theorem releasedKeys_eq_nil_iff (ch : Pressed) (keys : List Nat) :
    keys.filter (fun k => decide (k ∈ ch.keys)) = [] ↔ setDiff keys ch.keys = keys := by
  unfold setDiff
  rw [List.filter_eq_nil_iff, List.filter_eq_self]
  simp

theorem endTypeout_pressed {s : State} {f : Computer} {pc : Pacing} {ch : Pressed} (ht : s.typeout.state = .typing)
    (hf : s.typeout.target = some f) (hp : s.typeout.pacing = some pc) (hc : pc.pressed = some ch) :
    endTypeout .cancelledKey s =
      raise .typeout { releaseTyped f ch s with typeout := typeoutEnded s.typeout } := by
  have same : (releaseTyped f ch s).typeout = s.typeout := by
    obtain ⟨b, p, e⟩ := releaseTyped_changes f ch s
    rw [e]
  rw [endTypeout_typing ht, releaseIfPressed_pressed hf hp hc, same]

theorem releaseTyped_unbelieved {f : Computer} {ch : Pressed} {s : State}
    (h : setDiff s.focus.beliefs[f].keys ch.keys = s.focus.beliefs[f].keys) : releaseTyped f ch s = s :=
  if_pos ((releasedKeys_eq_nil_iff ch _).2 h)

theorem releaseTyped_ready {f : Computer} {ch : Pressed} {s : State} (hr : s.ports[f].link = .ready)
    (h : setDiff s.focus.beliefs[f].keys ch.keys ≠ s.focus.beliefs[f].keys) : releaseTyped f ch s =
      (s.setBelief f { s.focus.beliefs[f] with keys := setDiff s.focus.beliefs[f].keys ch.keys }).modPort f
        (Port.addSnapshot s.now (setDiff s.focus.beliefs[f].keys ch.keys)) := by
  have told : s.ports[f].tellReleases s.now (s.focus.beliefs[f].keys.filter fun k => decide (k ∈ ch.keys))
      (setDiff s.focus.beliefs[f].keys ch.keys) =
      s.ports[f].addSnapshot s.now (setDiff s.focus.beliefs[f].keys ch.keys) := if_pos hr
  have e : releaseTyped f ch s = (s.setBelief f (eraseKeys ch.keys s.focus.beliefs[f])).modPort f
      (Port.tellReleases s.now (s.focus.beliefs[f].keys.filter fun k => decide (k ∈ ch.keys))
        (setDiff s.focus.beliefs[f].keys ch.keys)) := if_neg fun e => h ((releasedKeys_eq_nil_iff ch _).1 e)
  rw [e]
  unfold State.modPort
  rw [show (s.setBelief f (eraseKeys ch.keys s.focus.beliefs[f])).ports[f] = s.ports[f] from rfl, told]
  rfl

/-! ### The four parts of the obligation -/

/-- The first part of O23: a press that no hotkey takes (R22, R98 to R100, R129). -/
theorem press_reaches {c : ConsoleNo} {r : KeyInput} {k : Nat} {n : List Nat} {s : State} (press : PressAlone c r k n s)
    (hl : s.lock.state = .unlocked) (hk : notTaken k s) (ht : s.typeout.state ≠ .typing)
    (ready : ∀ f : Computer, s.focus.focus = some f → s.ports[f].link = .ready) :
    ∃ t, exec (.keyboardReport c r) s = .next t ∧
      t = { keySetTaken c n (keyEntered k s) with
            matcher := { s.matcher with candidate := firstTap k s }
            focus := { s.focus with beliefs := t.focus.beliefs }
            ports := t.ports } ∧
      ∀ m : Computer, toldOf m t = toldPress k s m := by
  obtain ⟨changes, told⟩ := focusKeyPress_told (k := k) (s := setCandidate (firstTap k s) (keyEntered k s)) ready
  have e := exec_pressAlone_notTaken press hl hk ht
  generalize focusKeyPress k (setCandidate (firstTap k s) (keyEntered k s)) = u at changes told e
  obtain ⟨beliefs, ports, rfl⟩ := changes
  exact ⟨_, e, rfl, told⟩

end Sys2Proof.Machine
end


section
/-! ## Releases, and button presses (R23 to R26) -/

namespace Sys2Proof.Machine

/-! ### Key releases (R24) -/

/-- What computer `m` has been told of the release of `k` (R24, R152). -/
def toldKeyRelease (k : Nat) (s : State) (m : Computer) : Belief × Port × Option (Nat × Nat) :=
  if k ∈ s.focus.beliefs[m].keys then
    ({ s.focus.beliefs[m] with keys := setErase k s.focus.beliefs[m].keys },
      s.ports[m].tellReleases s.now [k] (setErase k s.focus.beliefs[m].keys), s.glide.lastAbs[m])
  else toldOf m s

theorem releaseAt_told {k : Nat} {s : State} (n : Computer) : BeliefsAndPorts s (releaseAt k s n) ∧
    toldOf n (releaseAt k s n) = toldKeyRelease k s n ∧ ∀ m, n ≠ m → toldOf m (releaseAt k s n) = toldOf m s := by
  unfold releaseAt toldKeyRelease
  dsimp only
  split
  · exact ⟨beliefsAndPorts_tell n _ _ s, toldOf_tell_self n _ _ s, fun m hm => toldOf_tell_ne hm _ _ s⟩
  · exact ⟨.refl s, rfl, fun _ _ => rfl⟩

theorem toldKeyRelease_congr {k : Nat} {s u : State} {n : Computer} (h : BeliefsAndPorts s u) (told : toldOf n u = toldOf n s) :
    toldKeyRelease k u n = toldKeyRelease k s n := by
  obtain ⟨belief, port, last⟩ := toldOf_eq told
  have now : u.now = s.now := by
    obtain ⟨b, p, rfl⟩ := h
    rfl
  unfold toldKeyRelease
  rw [told, belief, port, last, now]

/-- The releases of a key, in port order. -/
theorem keyReleases_each (k : Nat) (s : State) : EachInTurn (releaseAt k) (BeliefsAndPorts s)
    (fun m u => toldOf m u = toldOf m s) (fun m u => toldOf m u = toldKeyRelease k s m) where
  keeps _ n h := h.trans (releaseAt_told n).1
  makes _ n h told := (releaseAt_told n).2.1.trans (toldKeyRelease_congr h told)
  waits _ n m hne _ told := ((releaseAt_told n).2.2 m hne).trans told
  stays _ n m hne _ told := ((releaseAt_told n).2.2 m hne).trans told

theorem keyReleases_told (k : Nat) (s : State) : BeliefsAndPorts s (computers.foldl (releaseAt k) s) ∧
    ∀ m, toldOf m (computers.foldl (releaseAt k) s) = toldKeyRelease k s m :=
  have each := keyReleases_each k s
  ⟨each.foldl_keeps computers (.refl s), fun m => each.all (.refl s) m rfl⟩

/-! ### The mark where nobody awaits it (R15) -/

theorem markTypeout_unawaited {mark : Bool} {s : State} (h : mark = true → s.typeout.sub ≠ some .waitingRelease) :
    markTypeout mark s = s := by
  cases mark with
  | true =>
    show typeoutMark s = s
    exact if_neg fun e => h rfl e.2
  | false => rfl

/-- The releases of a key where no mark is awaited, in UNLOCKED. -/
theorem lockKeyRelease_unawaited {k : Nat} {mark : Bool} {s : State} (hl : s.lock.state = .unlocked)
    (h : mark = true → noMarkAwaited s) : lockKeyRelease k mark s =
      computers.foldl (releaseAt k) (setCandidate (releaseCandidate k s.matcher.candidate) s) := by
  have unlocked : lockKeyRelease k mark s = matcherRelease k mark s := by
    unfold lockKeyRelease
    rw [hl]
  have idle : markTypeout mark (setCandidate (releaseCandidate k s.matcher.candidate) s) =
      setCandidate (releaseCandidate k s.matcher.candidate) s := markTypeout_unawaited fun hm => (h hm).1
  rw [unlocked, matcherRelease, idle, focusKeyRelease]
  obtain ⟨⟨beliefs, ports, same⟩, -⟩ := keyReleases_told k (setCandidate (releaseCandidate k s.matcher.candidate) s)
  generalize computers.foldl (releaseAt k) (setCandidate (releaseCandidate k s.matcher.candidate) s) = u at same ⊢
  cases mark with
  | false => rfl
  | true =>
    refine focusMark_of_not_held ?_
    rw [same]
    exact (h rfl).2

theorem releaseCandidate_eq (k : Nat) (c : Option Candidate) :
    releaseCandidate k c = c.map fun a => if a.key = k then { a with released := true } else a := by
  cases c <;> rfl

theorem exec_releaseAlone {c : ConsoleNo} {r : KeyInput} {k : Nat} {n : List Nat} {s : State} (h : ReleaseAlone c r k n s) :
    exec (.keyboardReport c r) s = .next (keySetTaken c n (lockKeyRelease k (deskEmpty (keyLeft k s)) (keyLeft k s))) := by
  obtain ⟨o, shown, flight, hp, hon, hno⟩ := h.keyboard
  have releases : keyReleases o n = [k] := by
    unfold keyReleases
    rw [hon]
    cases hm : isModifier k <;> simp [hm]
  have presses : keyPresses o n = [] := by
    unfold keyPresses
    rw [hno]
    rfl
  have alone : heldElsewhere c k s = false := by
    rw [← Bool.not_eq_true, heldElsewhere_iff]
    rintro ⟨d, hd, hx⟩
    exact h.elsewhere d hd hx
  rw [exec_keyboardReport hp h.reduced]
  unfold takeKeySet
  rw [releases, presses]
  simp only [List.foldl, deviceRelease, alone, Bool.false_eq_true, if_false]
  rfl

/-- The third part of O23: a key release (R24). -/
theorem release_reaches {c : ConsoleNo} {r : KeyInput} {k : Nat} {n : List Nat} {s : State} (h : ReleaseAlone c r k n s)
    (hl : s.lock.state = .unlocked)
    (unmarked : noMarkAwaited s ∨ (∃ x ∈ s.console.deskKeys, x ≠ k) ∨ s.console.deskButtons ≠ []) :
    ∃ t, exec (.keyboardReport c r) s = .next t ∧
      t = { keySetTaken c n (keyLeft k s) with
            matcher := { s.matcher with
              candidate := s.matcher.candidate.map fun a => if a.key = k then { a with released := true } else a }
            focus := { s.focus with beliefs := t.focus.beliefs }
            ports := t.ports } ∧
      ∀ m : Computer, toldOf m t = toldKeyRelease k s m := by
  have unawaited : deskEmpty (keyLeft k s) = true → noMarkAwaited (keyLeft k s) := fun empty => by
    obtain ⟨keys, buttons⟩ := (deskEmpty_iff _).1 empty
    rcases unmarked with h | ⟨x, hx, hne⟩ | h
    · exact h
    · exact absurd ((mem_setErase k x _).2 ⟨hx, hne⟩) (by rw [show setErase k s.console.deskKeys = [] from keys]; simp)
    · exact absurd buttons h
  have e := exec_releaseAlone h
  rw [lockKeyRelease_unawaited (s := keyLeft k s) hl unawaited, releaseCandidate_eq] at e
  obtain ⟨changes, told⟩ := keyReleases_told k (setCandidate ((keyLeft k s).matcher.candidate.map fun a =>
    if a.key = k then { a with released := true } else a) (keyLeft k s))
  generalize computers.foldl (releaseAt k) (setCandidate ((keyLeft k s).matcher.candidate.map fun a =>
    if a.key = k then { a with released := true } else a) (keyLeft k s)) = u at changes told e
  obtain ⟨beliefs, ports, rfl⟩ := changes
  exact ⟨_, e, rfl, told⟩

/-! ### A computer told of its buttons (R25, R26) -/

theorem tellButtons_quiet {n : Computer} {s : State} (hr : s.ports[n].link ≠ .ready) (hq : s.ports[n].queuesKeys = false) :
    tellButtons n s = s := by
  unfold tellButtons
  rw [if_neg hr, if_neg (by rw [hq]; decide)]

theorem holdButtons_eq (buttons : List Nat) (p : Port) : p.holdButtons buttons =
    { p with held := some (match p.held with
      | none => ⟨.relative, 0, 0, buttons, 0⟩
      | some q => { q with buttons := buttons }) } := by
  unfold Port.holdButtons
  cases p.held <;> rfl

/-- A computer with a wake under way, told of the buttons of the belief set `v` (R152). -/
theorem tellButtons_queues {n : Computer} {s : State} (v : Belief) (hr : s.ports[n].link ≠ .ready)
    (hq : s.ports[n].queuesKeys = true) : tellButtons n (s.setBelief n v) = (s.setBelief n v).modPort n fun p =>
      { p with held := some (match p.held with
        | none => ⟨.relative, 0, 0, v.buttons, 0⟩
        | some q => { q with buttons := v.buttons }) } := by
  have own : (s.setBelief n v).focus.beliefs[n] = v := State.setBelief_beliefs_self s n v
  have e : tellButtons n (s.setBelief n v) =
      (s.setBelief n v).modPort n (Port.holdButtons (s.setBelief n v).focus.beliefs[n].buttons) :=
    (if_neg hr).trans (if_pos hq)
  rw [e, own, funext (holdButtons_eq _)]

theorem tellButtons_relative {n : Computer} {s : State} (v : Belief) (hr : s.ports[n].link = .ready)
    (hg : ¬ (s.focus.focus = some n ∧ s.focus.mode = .glide)) : tellButtons n (s.setBelief n v) =
      (s.setBelief n v).modPort n (Port.addPointer s.now ⟨.relative, 0, 0, v.buttons, 0⟩) := by
  have own : (s.setBelief n v).focus.beliefs[n] = v := State.setBelief_beliefs_self s n v
  have e : tellButtons n (s.setBelief n v) = (s.setBelief n v).modPort n
      (Port.addPointer s.now (stillReport (s.setBelief n v).focus.beliefs[n].buttons)) := (if_pos hr).trans (if_neg hg)
  rw [e, own]
  rfl

theorem tellButtons_gliding {n : Computer} {s : State} (v : Belief) (hr : s.ports[n].link = .ready)
    (hg : s.focus.focus = some n ∧ s.focus.mode = .glide) : tellButtons n (s.setBelief n v) =
      ((s.setBelief n v).modPort n (Port.addPointer s.now
        ⟨.absolute, (buttonPosition n s).1, (buttonPosition n s).2, v.buttons, 0⟩)).setGlide
        { s.glide with lastAbs := s.glide.lastAbs.set n (some (buttonPosition n s)) } := by
  have own : (s.setBelief n v).focus.beliefs[n] = v := State.setBelief_beliefs_self s n v
  have takes : (s.setBelief n v).ports[n].link.takesReports = true := by
    rw [show (s.setBelief n v).ports[n].link = .ready from hr]
    rfl
  have e : tellButtons n (s.setBelief n v) = handAbsolute n (buttonPosition n s) 0 (s.setBelief n v) :=
    (if_pos hr).trans (if_pos hg)
  have taken : ∀ r, (s.setBelief n v).modPort n (Port.takePointer s.now r) =
      (s.setBelief n v).modPort n (Port.addPointer s.now r) := fun r => by
    unfold State.modPort
    rw [takePointer_of_ready (p := (s.setBelief n v).ports[n]) hr]
  rw [e, ← taken]
  unfold handAbsolute
  dsimp only
  rw [if_pos takes, own]
  rfl

/-! ### Button presses (R25) -/

theorem exec_buttonPressAlone {c : ConsoleNo} {r : PointerInput} {b : Nat} {n : List Nat} {s : State}
    (h : ButtonPressAlone c r b n s) (hl : s.lock.state = .unlocked) : exec (.pointerReport c r) s =
      .next (focusButtonPress b (buttonSetTaken c n (setInsert b s.console.deskButtons) s)) := by
  obtain ⟨o, hp, hon, hno⟩ := h.pointer
  have pressed : deviceButtonPress s b =
      focusButtonPress b (s.setConsole { s.console with deskButtons := setInsert b s.console.deskButtons }) := by
    unfold deviceButtonPress lockButtonPress
    rw [if_neg h.fresh, State.setConsole_lock, hl]
  rw [exec_pointerReport_still hp h.still, h.reduced]
  unfold takeButtons
  rw [hon, hno]
  simp only [List.foldl, reportMotion_none]
  rw [pressed, ← focusButtonPress_lastSets]
  rfl

/-- A button press for the focus computer (R25). -/
theorem focusButtonPress_of {b : Nat} {f : Computer} {s : State} (hf : s.focus.focus = some f) :
    focusButtonPress b s = deliverButton f b (wakeOnInput f s) := by
  unfold focusButtonPress
  rw [hf]

theorem wakeOnInput_awake {f : Computer} {s : State} (h : ¬ (s.ports[f].link = .suspended ∧ s.ports[f].deferred = false ∧
    s.tables.options.wakeOnInput = true)) : wakeOnInput f s = s := if_neg h

theorem deliverButton_idle {f : Computer} {b : Nat} {s : State}
    (h : b ∈ s.focus.beliefs[f].buttons ∨ (s.ports[f].link ≠ .ready ∧ s.ports[f].queuesKeys = false)) :
    deliverButton f b s = s := by
  unfold deliverButton
  dsimp only
  by_cases hb : b ∈ s.focus.beliefs[f].buttons
  · rw [if_pos hb]
  · obtain ⟨hr, hq⟩ := h.resolve_left hb
    rw [if_neg hb, if_neg fun e => e.elim hr fun e => absurd (e.symm.trans hq) (by decide)]

theorem deliverButton_takes {f : Computer} {b : Nat} {s : State} (hb : b ∉ s.focus.beliefs[f].buttons)
    (h : s.ports[f].link = .ready ∨ s.ports[f].queuesKeys = true) : deliverButton f b s =
      tellButtons f (s.setBelief f { s.focus.beliefs[f] with buttons := setInsert b s.focus.beliefs[f].buttons }) := by
  unfold deliverButton
  dsimp only
  rw [if_neg hb, if_pos h]

/-- The press of a button at a port with a wake under way (R25, R152). -/
theorem deliverButton_waits {f : Computer} {b : Nat} {s : State} (hb : b ∉ s.focus.beliefs[f].buttons)
    (hr : s.ports[f].link ≠ .ready) (hq : s.ports[f].queuesKeys = true) : deliverButton f b s =
      ({ s with focus := { s.focus with
        beliefs := s.focus.beliefs.set f
          { s.focus.beliefs[f] with buttons := setInsert b s.focus.beliefs[f].buttons } } }).modPort f fun p =>
        { p with held := some (match p.held with
          | none => ⟨.relative, 0, 0, setInsert b s.focus.beliefs[f].buttons, 0⟩
          | some q => { q with buttons := setInsert b s.focus.beliefs[f].buttons }) } := by
  rw [deliverButton_takes hb (.inr hq), tellButtons_queues _ hr hq]
  rfl

/-- The third part of O23: a button press (R23, R25). -/
theorem buttonPress_reaches {c : ConsoleNo} {r : PointerInput} {b : Nat} {n : List Nat} {s : State} {f : Computer}
    (press : ButtonPressAlone c r b n s) (hl : s.lock.state = .unlocked) (hf : s.focus.focus = some f) :
    exec (.pointerReport c r) s =
      .next (deliverButton f b (wakeOnInput f (buttonSetTaken c n (setInsert b s.console.deskButtons) s))) := by
  rw [exec_buttonPressAlone press hl]
  exact congrArg Host.Outcome.next (focusButtonPress_of hf)

theorem wakeRequest_link {f : Computer} {s : State} (h : s.ports[f].link ≠ .ready) :
    (wakeRequest f s).ports[f].link ≠ .ready := by
  by_cases refused : s.ports[f].link = .suspended ∧ ¬ wakeAllowed f s = true
  · have link : (raise .wake (clearBelief f (s.modPort f Port.refuseWake))).ports[f].link = s.ports[f].link := by
      rw [(noticesOnly_raise _ _).link]
      show (s.modPort f Port.refuseWake).ports[f].link = _
      rw [State.modPort_port, refuseWake_eq]
    rw [wakeRequest_refused refused.1 refused.2, refuseWake, typeoutWakeLost]
    split
    · rw [((calm_endTypeout _ _).wake f).link, link]
      exact h
    · rw [link]
      exact h
  · unfold wakeRequest
    split
    next hs =>
      split
      next =>
        split
        · exact h
        · split
          · rw [State.modPort_port]
            exact h
          · rw [startWake, (noticesOnly_raise _ _).link, State.modPort_port]
            exact LinkState.noConfusion
      next ha => exact absurd ⟨hs, ha⟩ refused
    next => exact h

/-! ### Button releases (R26) -/

/-- Computer `m` told of the buttons of its belief set `v`: that set, its port and the position it was told last (R62, R152). -/
def toldButtons (v : Belief) (s : State) (m : Computer) : Belief × Port × Option (Nat × Nat) :=
  (v,
    if s.ports[m].link = .ready then
      if s.focus.focus = some m ∧ s.focus.mode = .glide then
        s.ports[m].addPointer s.now ⟨.absolute, (buttonPosition m s).1, (buttonPosition m s).2, v.buttons, 0⟩
      else s.ports[m].addPointer s.now ⟨.relative, 0, 0, v.buttons, 0⟩
    else if s.ports[m].queuesKeys = true then
      { s.ports[m] with held := some (match s.ports[m].held with
        | none => ⟨.relative, 0, 0, v.buttons, 0⟩
        | some q => { q with buttons := v.buttons }) }
    else s.ports[m],
    if (s.focus.focus = some m ∧ s.focus.mode = .glide) ∧ s.ports[m].link = .ready then some (buttonPosition m s)
    else s.glide.lastAbs[m])

theorem toldOf_position_self (n : Computer) (v : Belief) (f : Port → Port) (pos) (s : State) :
    toldOf n (((s.setBelief n v).modPort n f).setGlide { s.glide with lastAbs := s.glide.lastAbs.set n pos }) =
      (v, f s.ports[n], pos) := by
  have told := toldOf_tell_self n v f s
  have belief : ((s.setBelief n v).modPort n f).focus.beliefs[n] = v := congrArg Prod.fst told
  have port : ((s.setBelief n v).modPort n f).ports[n] = f s.ports[n] := congrArg (fun x => x.2.1) told
  exact Prod.ext belief (Prod.ext port (Vector.getElem_set_self n.isLt))

theorem toldOf_position_ne {n m : Computer} (h : n ≠ m) (v : Belief) (f : Port → Port) (pos) (s : State) :
    toldOf m (((s.setBelief n v).modPort n f).setGlide { s.glide with lastAbs := s.glide.lastAbs.set n pos }) =
      toldOf m s := by
  obtain ⟨belief, port, -⟩ := toldOf_eq (toldOf_tell_ne h v f s)
  exact Prod.ext belief (Prod.ext port (Vector.getElem_set_ne n.isLt m.isLt fun e => h (Fin.ext e)))

/-- A computer told of buttons, and nothing else. -/
theorem tellButtons_told (n : Computer) (v : Belief) (s : State) :
    BeliefsPortsPositions s (tellButtons n (s.setBelief n v)) ∧
      toldOf n (tellButtons n (s.setBelief n v)) = toldButtons v s n ∧
      ∀ m, n ≠ m → toldOf m (tellButtons n (s.setBelief n v)) = toldOf m s := by
  unfold toldButtons
  by_cases hr : s.ports[n].link = .ready
  · by_cases hg : s.focus.focus = some n ∧ s.focus.mode = .glide
    · rw [tellButtons_gliding v hr hg, if_pos hr, if_pos hg, if_pos ⟨hg, hr⟩]
      exact ⟨⟨_, _, _, rfl⟩, toldOf_position_self n v _ _ s, fun m hm => toldOf_position_ne hm v _ _ s⟩
    · rw [tellButtons_relative v hr hg, if_pos hr, if_neg hg, if_neg (c := (_ ∧ _) ∧ _) fun e => hg e.1]
      exact ⟨(beliefsAndPorts_tell n v _ s).withPositions, toldOf_tell_self n v _ s, fun m hm => toldOf_tell_ne hm v _ s⟩
  · rw [if_neg hr, if_neg (c := (_ ∧ _) ∧ _) fun e => hr e.2]
    by_cases hq : s.ports[n].queuesKeys = true
    · rw [tellButtons_queues v hr hq, if_pos hq]
      exact ⟨(beliefsAndPorts_tell n v _ s).withPositions, toldOf_tell_self n v _ s, fun m hm => toldOf_tell_ne hm v _ s⟩
    · rw [tellButtons_quiet (s := s.setBelief n v) hr (Bool.eq_false_of_not_eq_true hq), if_neg hq]
      exact ⟨⟨_, _, _, rfl⟩, Prod.ext (State.setBelief_beliefs_self s n v) rfl,
        fun m hm => Prod.ext (State.setBelief_beliefs_ne s v hm) rfl⟩

/-- What computer `m` has been told of the release of button `b` (R26). -/
def toldButtonRelease (b : Nat) (s : State) (m : Computer) : Belief × Port × Option (Nat × Nat) :=
  if b ∈ s.focus.beliefs[m].buttons then
    toldButtons { s.focus.beliefs[m] with buttons := setErase b s.focus.beliefs[m].buttons } s m
  else toldOf m s

theorem buttonReleaseAt_told {b : Nat} {s : State} (n : Computer) : BeliefsPortsPositions s (buttonReleaseAt b s n) ∧
    toldOf n (buttonReleaseAt b s n) = toldButtonRelease b s n ∧
    ∀ m, n ≠ m → toldOf m (buttonReleaseAt b s n) = toldOf m s := by
  unfold buttonReleaseAt toldButtonRelease
  dsimp only
  split
  · exact tellButtons_told n _ s
  · exact ⟨⟨_, _, _, rfl⟩, rfl, fun _ _ => rfl⟩

theorem toldButtonRelease_congr {b : Nat} {s u : State} {n : Computer} (h : BeliefsPortsPositions s u)
    (told : toldOf n u = toldOf n s) : toldButtonRelease b u n = toldButtonRelease b s n := by
  obtain ⟨belief, port, last⟩ := toldOf_eq told
  have kept : u.now = s.now ∧ u.focus.focus = s.focus.focus ∧ u.focus.mode = s.focus.mode ∧
      absoluteHere u n = absoluteHere s n := by
    obtain ⟨b, p, l, rfl⟩ := h
    exact ⟨rfl, rfl, rfl, absoluteHere_congr ⟨rfl, fun _ => rfl, fun _ => rfl, fun _ => rfl, fun _ => rfl, rfl, rfl, rfl⟩
      rfl rfl n⟩
  obtain ⟨now, focus, mode, here⟩ := kept
  unfold toldButtonRelease toldButtons buttonPosition
  rw [told, belief, port, last, now, focus, mode, here]

/-- The releases of a button, in port order. -/
theorem buttonReleases_each (b : Nat) (s : State) : EachInTurn (buttonReleaseAt b) (BeliefsPortsPositions s)
    (fun m u => toldOf m u = toldOf m s) (fun m u => toldOf m u = toldButtonRelease b s m) where
  keeps _ n h := h.trans (buttonReleaseAt_told n).1
  makes _ n h told := (buttonReleaseAt_told n).2.1.trans (toldButtonRelease_congr h told)
  waits _ n m hne _ told := ((buttonReleaseAt_told n).2.2 m hne).trans told
  stays _ n m hne _ told := ((buttonReleaseAt_told n).2.2 m hne).trans told

theorem buttonReleases_told (b : Nat) (s : State) : BeliefsPortsPositions s (computers.foldl (buttonReleaseAt b) s) ∧
    ∀ m, toldOf m (computers.foldl (buttonReleaseAt b) s) = toldButtonRelease b s m :=
  have each := buttonReleases_each b s
  have start : BeliefsPortsPositions s s := ⟨_, _, _, rfl⟩
  ⟨each.foldl_keeps computers start, fun m => each.all start m rfl⟩

theorem lockButtonRelease_unawaited {b : Nat} {mark : Bool} {s : State} (hl : s.lock.state = .unlocked)
    (h : mark = true → noMarkAwaited s) : lockButtonRelease b mark s = computers.foldl (buttonReleaseAt b) s := by
  have unlocked : lockButtonRelease b mark s = focusButtonRelease b mark (markTypeout mark s) := by
    unfold lockButtonRelease
    rw [hl]
  rw [unlocked, markTypeout_unawaited fun hm => (h hm).1, focusButtonRelease]
  obtain ⟨⟨beliefs, ports, lastAbs, same⟩, -⟩ := buttonReleases_told b s
  generalize computers.foldl (buttonReleaseAt b) s = u at same ⊢
  cases mark with
  | false => rfl
  | true =>
    refine focusMark_of_not_held ?_
    rw [same]
    exact (h rfl).2

/-- The desk buttons less one, entered. -/
def buttonLeft (b : Nat) (s : State) : State :=
  s.setConsole { s.console with deskButtons := setErase b s.console.deskButtons }

theorem exec_buttonReleaseAlone {c : ConsoleNo} {r : PointerInput} {b : Nat} {n : List Nat} {s : State}
    (h : ButtonReleaseAlone c r b n s) : exec (.pointerReport c r) s =
      .next (modConsolePort c (ConsolePort.setButtons n)
        (lockButtonRelease b (deskEmpty (buttonLeft b s)) (buttonLeft b s))) := by
  obtain ⟨o, hp, hon, hno⟩ := h.pointer
  have alone : buttonElsewhere c b s = false := by
    rw [← Bool.not_eq_true, buttonElsewhere_iff]
    rintro ⟨d, hd, hx⟩
    exact h.elsewhere d hd hx
  rw [exec_pointerReport_still hp h.still, h.reduced]
  unfold takeButtons
  rw [hon, hno]
  simp only [List.foldl, deviceButtonRelease, alone, Bool.false_eq_true, if_false, reportMotion_none]
  rfl

/-- The fourth part of O23: a button release (R26, R62). -/
theorem buttonRelease_reaches {c : ConsoleNo} {r : PointerInput} {b : Nat} {n : List Nat} {s : State}
    (h : ButtonReleaseAlone c r b n s) (hl : s.lock.state = .unlocked)
    (unmarked : noMarkAwaited s ∨ s.console.deskKeys ≠ [] ∨ (∃ x ∈ s.console.deskButtons, x ≠ b)) :
    ∃ t, exec (.pointerReport c r) s = .next t ∧
      t = { buttonSetTaken c n (s.console.deskButtons.filter fun x => decide (x ≠ b)) s with
            focus := { s.focus with beliefs := t.focus.beliefs }
            glide := { s.glide with lastAbs := t.glide.lastAbs }
            ports := t.ports } ∧
      ∀ m : Computer, toldOf m t = toldButtonRelease b s m := by
  have unawaited : deskEmpty (buttonLeft b s) = true → noMarkAwaited (buttonLeft b s) := fun empty => by
    obtain ⟨keys, buttons⟩ := (deskEmpty_iff _).1 empty
    rcases unmarked with h | h | ⟨x, hx, hne⟩
    · exact h
    · exact absurd keys h
    · exact absurd ((mem_setErase b x _).2 ⟨hx, hne⟩) (by rw [show setErase b s.console.deskButtons = [] from buttons]; simp)
  have e := exec_buttonReleaseAlone h
  rw [lockButtonRelease_unawaited (s := buttonLeft b s) hl unawaited] at e
  obtain ⟨changes, told⟩ := buttonReleases_told b (buttonLeft b s)
  generalize computers.foldl (buttonReleaseAt b) (buttonLeft b s) = u at changes told e
  obtain ⟨beliefs, ports, lastAbs, rfl⟩ := changes
  exact ⟨_, e, rfl, told⟩

end Sys2Proof.Machine
end


section
/-! ## Presses and releases: the obligation (R22 to R26) -/

namespace Sys2Proof.Machine

/-- A button press for a focus computer for which no wake is asked. -/
theorem buttonPress_awake {c : ConsoleNo} {r : PointerInput} {b : Nat} {n : List Nat} {s : State} {f : Computer}
    (press : ButtonPressAlone c r b n s) (hl : s.lock.state = .unlocked) (hf : s.focus.focus = some f)
    (awake : ¬ (s.ports[f].link = .suspended ∧ s.ports[f].deferred = false ∧ s.tables.options.wakeOnInput = true)) :
    exec (.pointerReport c r) s =
      .next (deliverButton f b (buttonSetTaken c n (setInsert b s.console.deskButtons) s)) := by
  rw [buttonPress_reaches press hl hf,
    wakeOnInput_awake (s := buttonSetTaken c n (setInsert b s.console.deskButtons) s) awake]

/-- A button press that a READY focus computer takes in. -/
theorem buttonPress_ready {c : ConsoleNo} {r : PointerInput} {b : Nat} {n : List Nat} {s : State} {f : Computer}
    (press : ButtonPressAlone c r b n s) (hl : s.lock.state = .unlocked) (hf : s.focus.focus = some f)
    (hb : b ∉ s.focus.beliefs[f].buttons) (hr : s.ports[f].link = .ready) : exec (.pointerReport c r) s =
      .next (tellButtons f ((buttonSetTaken c n (setInsert b s.console.deskButtons) s).setBelief f
        { s.focus.beliefs[f] with buttons := setInsert b s.focus.beliefs[f].buttons })) := by
  rw [buttonPress_awake press hl hf fun e => absurd (e.1.symm.trans hr) (by decide),
    deliverButton_takes (s := buttonSetTaken c n (setInsert b s.console.deskButtons) s) hb (.inl hr)]
  rfl

theorem queuesKeys_not_ready {p : Port} (h : p.queuesKeys = true) : p.link ≠ .ready := fun hr => by
  rcases (queuesKeys_iff p).1 h with h | ⟨h, -⟩
  · exact absurd (h.symm.trans hr) (by decide)
  · exact absurd (h.symm.trans hr) (by decide)

theorem queuesKeys_eq_false {p : Port} (hw : p.link ≠ .waking) (hs : p.link = .suspended → p.deferred = false) :
    p.queuesKeys = false := by
  refine Bool.eq_false_of_not_eq_true fun h => ?_
  rcases (queuesKeys_iff p).1 h with h | ⟨h, hd⟩
  · exact hw h
  · exact absurd (hd.symm.trans (hs h)) (by decide)

/-- The computers that a press reaches, as the obligation has them (R22). -/
theorem toldPress_cases {k : Nat} {s t : State} {m : Computer} (told : toldOf m t = toldPress k s m) :
    let receives := (s.focus.focus = some m ∨ s.focus.broadcast[m] = true) ∧ s.ports[m].link = .ready ∧
      k ∉ s.focus.beliefs[m].keys
    (receives →
      t.focus.beliefs[m] = { s.focus.beliefs[m] with keys := setInsert k s.focus.beliefs[m].keys } ∧
      t.ports[m] = s.ports[m].addSnapshot s.now (setInsert k s.focus.beliefs[m].keys)) ∧
    (¬ receives → t.focus.beliefs[m] = s.focus.beliefs[m] ∧ t.ports[m] = s.ports[m]) := by
  unfold toldPress at told
  refine ⟨fun ⟨hm, hr, hk⟩ => ?_, fun h => ?_⟩
  · rw [if_pos ⟨hm, hk, hr⟩] at told
    exact ⟨congrArg Prod.fst told, congrArg (fun x => x.2.1) told⟩
  · rw [if_neg fun ⟨hm, hk, hr⟩ => h ⟨hm, hr, hk⟩] at told
    obtain ⟨belief, port, -⟩ := toldOf_eq told
    exact ⟨belief, port⟩

theorem toldKeyRelease_cases {k : Nat} {s t : State} {m : Computer} (told : toldOf m t = toldKeyRelease k s m) :
    let left := s.focus.beliefs[m].keys.filter fun x => decide (x ≠ k)
    (k ∉ s.focus.beliefs[m].keys → t.focus.beliefs[m] = s.focus.beliefs[m] ∧ t.ports[m] = s.ports[m]) ∧
    (k ∈ s.focus.beliefs[m].keys → t.focus.beliefs[m] = { s.focus.beliefs[m] with keys := left } ∧
      t.ports[m] =
        if s.ports[m].link = .ready then s.ports[m].addSnapshot s.now left
        else if s.ports[m].queuesKeys = true then
          { s.ports[m] with pendingKeys := s.ports[m].pendingKeys ++ [.release k] }
        else s.ports[m]) := by
  unfold toldKeyRelease at told
  refine ⟨fun hk => ?_, fun hk => ?_⟩
  · rw [if_neg hk] at told
    obtain ⟨belief, port, -⟩ := toldOf_eq told
    exact ⟨belief, port⟩
  · rw [if_pos hk] at told
    exact ⟨congrArg Prod.fst told, congrArg (fun x => x.2.1) told⟩

/-- The second part of O23: a press during a type-out (R129, R130). -/
theorem press_endsTypeout {c : ConsoleNo} {r : KeyInput} {k : Nat} {n : List Nat} {s : State} (press : PressAlone c r k n s)
    (hl : s.lock.state = .unlocked) (hk : notTaken k s) (ht : s.typeout.state = .typing) :
    let ended := fun (u : State) => raise .typeout { u with typeout := typeoutEnded s.typeout }
    let same := fun (u : State) => exec (.keyboardReport c r) s = exec (.keyboardReport c r) u
    ((∀ pc, s.typeout.pacing = some pc → pc.pressed = none) → same (ended s)) ∧
    ∀ f pc ch, s.typeout.target = some f → s.typeout.pacing = some pc → pc.pressed = some ch → s.ports[f].link = .ready →
      let left := s.focus.beliefs[f].keys.filter fun x => !decide (x = ch.key ∨ (ch.shift = true ∧ x = 225))
      (left = s.focus.beliefs[f].keys → same (ended s)) ∧
      (left ≠ s.focus.beliefs[f].keys →
        same (ended ((s.setBelief f { s.focus.beliefs[f] with keys := left }).modPort f (Port.addSnapshot s.now left)))) := by
  dsimp only
  have e := exec_pressAlone_typing press hl hk ht
  refine ⟨fun h => ?_, fun f pc ch hf hp hc hr => ?_⟩
  · rw [e, endTypeout_unpressed ht h]
  · rw [← setDiff_pressed]
    refine ⟨fun h => ?_, fun h => ?_⟩
    · rw [e, endTypeout_pressed ht hf hp hc, releaseTyped_unbelieved h]
    · rw [e, endTypeout_pressed ht hf hp hc, releaseTyped_ready hr h]

/-- The parts of O23 about a press for the focus computer's port as it is (R23, R25, R62). -/
theorem buttonPress_cases {c : ConsoleNo} {r : PointerInput} {b : Nat} {n : List Nat} {s : State} {f : Computer}
    (press : ButtonPressAlone c r b n s) (hl : s.lock.state = .unlocked) (hf : s.focus.focus = some f) :
    let taken := buttonSetTaken c n (setInsert b s.console.deskButtons)
    let told := (taken s).setBelief f
      { s.focus.beliefs[f] with buttons := setInsert b s.focus.beliefs[f].buttons }
    let asleep := s.ports[f].link = .suspended ∧ s.ports[f].deferred = false
    (b ∈ s.focus.beliefs[f].buttons → ¬ asleep → exec (.pointerReport c r) s = .next (taken s)) ∧
    (b ∉ s.focus.beliefs[f].buttons → s.ports[f].link = .ready → s.focus.mode ≠ .glide →
      exec (.pointerReport c r) s = .next (told.modPort f
        (Port.addPointer s.now ⟨.relative, 0, 0, setInsert b s.focus.beliefs[f].buttons, 0⟩))) ∧
    (b ∉ s.focus.beliefs[f].buttons → s.ports[f].link = .ready → s.focus.mode = .glide →
      exec (.pointerReport c r) s = .next ((told.modPort f (Port.addPointer s.now
        ⟨.absolute, (buttonPosition f s).1, (buttonPosition f s).2, setInsert b s.focus.beliefs[f].buttons, 0⟩)).setGlide
          { s.glide with lastAbs := s.glide.lastAbs.set f (some (buttonPosition f s)) })) ∧
    (s.ports[f].link = .absent ∨ s.ports[f].link = .attaching ∨ s.ports[f].link = .stalled ∨
        (asleep ∧ s.tables.options.wakeOnInput = false) →
      exec (.pointerReport c r) s = .next (taken s)) := by
  have idle : ∀ h, exec (.pointerReport c r) s = .next (deliverButton f b _) := buttonPress_awake press hl hf
  have here : buttonPosition f (buttonSetTaken c n (setInsert b s.console.deskButtons) s) = buttonPosition f s := rfl
  refine ⟨fun hb awake => ?_, fun hb hr hm => ?_, fun hb hr hm => ?_, fun h => ?_⟩
  · rw [idle fun e => awake ⟨e.1, e.2.1⟩, deliverButton_idle (s := buttonSetTaken c n (setInsert b s.console.deskButtons) s) (.inl hb)]
  · rw [buttonPress_ready press hl hf hb hr,
      tellButtons_relative (s := buttonSetTaken c n (setInsert b s.console.deskButtons) s) _ hr fun e => hm e.2]
    rfl
  · rw [buttonPress_ready press hl hf hb hr,
      tellButtons_gliding (s := buttonSetTaken c n (setInsert b s.console.deskButtons) s) _ hr ⟨hf, hm⟩, here]
    rfl
  · have calm : s.ports[f].link ≠ .ready ∧ s.ports[f].link ≠ .waking ∧
        (s.ports[f].link = .suspended → s.ports[f].deferred = false ∧ s.tables.options.wakeOnInput = false) := by
      rcases h with h | h | h | ⟨⟨h, hd⟩, hw⟩
      · rw [h]
        exact ⟨LinkState.noConfusion, LinkState.noConfusion, LinkState.noConfusion⟩
      · rw [h]
        exact ⟨LinkState.noConfusion, LinkState.noConfusion, LinkState.noConfusion⟩
      · rw [h]
        exact ⟨LinkState.noConfusion, LinkState.noConfusion, LinkState.noConfusion⟩
      · rw [h]
        exact ⟨LinkState.noConfusion, LinkState.noConfusion, fun _ => ⟨hd, hw⟩⟩
    obtain ⟨hr, hw, hs⟩ := calm
    have hq := queuesKeys_eq_false hw fun h => (hs h).1
    have awake : ¬ (s.ports[f].link = .suspended ∧ s.ports[f].deferred = false ∧ s.tables.options.wakeOnInput = true) :=
      fun ⟨h, _, h'⟩ => absurd (h'.symm.trans (hs h).2) (by decide)
    rw [idle awake,
      deliverButton_idle (s := buttonSetTaken c n (setInsert b s.console.deskButtons) s) (.inr ⟨hr, hq⟩)]

/-- The parts of O23 about a press for a focus computer with a wake under way, or asleep (R23, R152, R154). -/
theorem buttonPress_waking {c : ConsoleNo} {r : PointerInput} {b : Nat} {n : List Nat} {s : State} {f : Computer}
    (press : ButtonPressAlone c r b n s) (hl : s.lock.state = .unlocked) (hf : s.focus.focus = some f) :
    let taken := buttonSetTaken c n (setInsert b s.console.deskButtons)
    let waits := fun (u : State) =>
      let now := setInsert b u.focus.beliefs[f].buttons
      ({ u with focus := { u.focus with
        beliefs := u.focus.beliefs.set f { u.focus.beliefs[f] with buttons := now } } }).modPort f fun p =>
          { p with held := some (match p.held with
            | none => ⟨.relative, 0, 0, now, 0⟩
            | some q => { q with buttons := now }) }
    (b ∉ s.focus.beliefs[f].buttons → s.ports[f].queuesKeys = true →
      exec (.pointerReport c r) s = .next (taken (waits s))) ∧
    (s.ports[f].link = .suspended ∧ s.ports[f].deferred = false → s.tables.options.wakeOnInput = true →
      ∃ u, exec (.wake (.hotkey 0 0)) (taken s) = .next u ∧
        (u.ports[f].queuesKeys = false ∨ b ∈ u.focus.beliefs[f].buttons → exec (.pointerReport c r) s = .next u) ∧
        (u.ports[f].queuesKeys = true → b ∉ u.focus.beliefs[f].buttons →
          exec (.pointerReport c r) s = .next (waits u))) := by
  refine ⟨fun hb hq => ?_, fun ⟨hs, hd⟩ hw => ⟨wakeRequest f (buttonSetTaken c n (setInsert b s.console.deskButtons) s),
    ?_, ?_⟩⟩
  · have awake : ¬ (s.ports[f].link = .suspended ∧ s.ports[f].deferred = false ∧ s.tables.options.wakeOnInput = true) :=
      fun ⟨h, hd, _⟩ => absurd (hq.symm.trans (queuesKeys_eq_false (by rw [h]; decide) fun _ => hd)) (by decide)
    rw [buttonPress_awake press hl hf awake, deliverButton_waits (s := buttonSetTaken c n (setInsert b s.console.deskButtons) s)
      hb (queuesKeys_not_ready hq) hq]
    rfl
  · rw [exec_wake]
    exact congrArg Host.Outcome.next (actWake_for (k := 0)
      (s := buttonSetTaken c n (setInsert b s.console.deskButtons) s) (.inr ⟨rfl, hf⟩))
  · have asks : wakeOnInput f (buttonSetTaken c n (setInsert b s.console.deskButtons) s) =
        wakeRequest f (buttonSetTaken c n (setInsert b s.console.deskButtons) s) := if_pos ⟨hs, hd, hw⟩
    have asleep : (wakeRequest f (buttonSetTaken c n (setInsert b s.console.deskButtons) s)).ports[f].link ≠ .ready :=
      wakeRequest_link fun h => absurd (hs.symm.trans h) (by decide)
    rw [buttonPress_reaches press hl hf, asks]
    generalize wakeRequest f (buttonSetTaken c n (setInsert b s.console.deskButtons) s) = u at asleep ⊢
    refine ⟨fun h => ?_, fun hq hb => ?_⟩
    · rw [deliverButton_idle (h.symm.imp_right fun hq => ⟨asleep, hq⟩)]
    · exact congrArg Host.Outcome.next (deliverButton_waits hb asleep hq)

theorem toldButtonRelease_cases {b : Nat} {s t : State} {m : Computer} (told : toldOf m t = toldButtonRelease b s m) :
    let held := b ∈ s.focus.beliefs[m].buttons
    let left := s.focus.beliefs[m].buttons.filter fun x => decide (x ≠ b)
    let gliding := s.focus.focus = some m ∧ s.focus.mode = .glide
    let pos := buttonPosition m s
    (¬ held → t.focus.beliefs[m] = s.focus.beliefs[m] ∧ t.ports[m] = s.ports[m]) ∧
    (held → t.focus.beliefs[m] = { s.focus.beliefs[m] with buttons := left } ∧
      (s.ports[m].link = .ready → gliding →
        t.ports[m] = s.ports[m].addPointer s.now ⟨.absolute, pos.1, pos.2, left, 0⟩) ∧
      (s.ports[m].link = .ready → ¬ gliding →
        t.ports[m] = s.ports[m].addPointer s.now ⟨.relative, 0, 0, left, 0⟩) ∧
      (s.ports[m].queuesKeys = true →
        t.ports[m] = { s.ports[m] with held := some (match s.ports[m].held with
          | none => ⟨.relative, 0, 0, left, 0⟩
          | some q => { q with buttons := left }) }) ∧
      (s.ports[m].link ≠ .ready → s.ports[m].queuesKeys = false → t.ports[m] = s.ports[m])) ∧
    t.glide.lastAbs[m] =
      if held ∧ gliding ∧ s.ports[m].link = .ready then some pos else s.glide.lastAbs[m] := by
  dsimp only
  unfold toldButtonRelease at told
  by_cases hb : b ∈ s.focus.beliefs[m].buttons
  · rw [if_pos hb] at told
    unfold toldButtons at told
    have belief := congrArg Prod.fst told
    have port := congrArg (fun x => x.2.1) told
    have last := congrArg (fun x => x.2.2) told
    dsimp only at belief port last
    refine ⟨fun h => absurd hb h, fun _ => ⟨belief, fun hr hg => ?_, fun hr hg => ?_, fun hq => ?_, fun hr hq => ?_⟩, ?_⟩
    · exact port.trans ((if_pos hr).trans (if_pos hg))
    · exact port.trans ((if_pos hr).trans (if_neg hg))
    · exact port.trans ((if_neg (queuesKeys_not_ready hq)).trans (if_pos hq))
    · exact port.trans ((if_neg hr).trans (if_neg (by rw [hq]; decide)))
    · refine last.trans (if_congr ?_ rfl rfl)
      simp only [hb, true_and]
  · rw [if_neg hb] at told
    obtain ⟨belief, port, last⟩ := toldOf_eq told
    refine ⟨fun _ => ⟨belief, port⟩, fun h => absurd h hb, ?_⟩
    rw [if_neg fun h => hb h.1]
    exact last

/-- Settles O23: the presses and releases of keys and buttons, each at every computer. -/
theorem pressReachesReceivers : Obligations.PressReachesReceivers := by
  unfold Obligations.PressReachesReceivers
  refine ⟨fun c r k n s press hl hk => ⟨fun ht ready => ?_, fun ht => press_endsTypeout press hl hk ht⟩,
    fun c r k n s h hl unmarked => ?_, fun c r b n s press hl => ⟨fun hf => ?_, fun f hf => ?_⟩,
    fun c r b n s h hl unmarked => ?_⟩
  · obtain ⟨t, ht, same, told⟩ := press_reaches press hl hk ht ready
    exact ⟨t, ht, same, fun m => toldPress_cases (told m)⟩
  · obtain ⟨t, ht, same, told⟩ := release_reaches h hl unmarked
    exact ⟨t, ht, same, fun m => toldKeyRelease_cases (told m)⟩
  · have nobody : focusButtonPress b (buttonSetTaken c n (setInsert b s.console.deskButtons) s) =
        buttonSetTaken c n (setInsert b s.console.deskButtons) s := by
      unfold focusButtonPress
      rw [show (buttonSetTaken c n (setInsert b s.console.deskButtons) s).focus.focus = none from hf]
    rw [exec_buttonPressAlone press hl, nobody]
  · obtain ⟨believed, still, gliding, discarded⟩ := buttonPress_cases press hl hf
    obtain ⟨waits, wakes⟩ := buttonPress_waking press hl hf
    exact ⟨believed, still, gliding, waits, wakes, discarded⟩
  · obtain ⟨t, ht, same, told⟩ := buttonRelease_reaches h hl unmarked
    exact ⟨t, ht, same, fun m => toldButtonRelease_cases (told m)⟩

end Sys2Proof.Machine
end


section
/-! ## Motion in GLIDE: a crossing and its wake (R52 to R55, R154) -/

namespace Sys2Proof.Machine

/-! ### A wake under way during a focus change -/

/-- The attempt of a port and the events it holds. -/
structure SameCourse (p q : Port) : Prop where
  wake : SameWake p q
  phase : q.phase = p.phase
  timer : q.attemptTimer = p.attemptTimer

theorem SameCourse.refl (p : Port) : SameCourse p p := ⟨.refl p, rfl, rfl⟩

theorem SameCourse.trans {p q r : Port} (h : SameCourse p q) (k : SameCourse q r) : SameCourse p r :=
  ⟨h.wake.trans k.wake, k.phase.trans h.phase, k.timer.trans h.timer⟩

theorem sameCourse_addSnapshot (now keys) (p : Port) :
    SameCourse p (p.addSnapshot now keys) ∧ (p.addSnapshot now keys).pendingKeys = p.pendingKeys := by
  refine ⟨⟨sameWake_addSnapshot now keys p, ?_, ?_⟩, ?_⟩
  all_goals
    unfold Port.addSnapshot
    split <;> rfl

theorem sameCourse_addPointer (now r) (p : Port) :
    SameCourse p (p.addPointer now r) ∧ (p.addPointer now r).pendingKeys = p.pendingKeys := by
  have plain : (p.addPointer now r).phase = p.phase ∧ (p.addPointer now r).attemptTimer = p.attemptTimer ∧
      (p.addPointer now r).pendingKeys = p.pendingKeys := by
    unfold Port.addPointer
    split
    · exact ⟨rfl, rfl, rfl⟩
    · split
      · exact ⟨rfl, rfl, rfl⟩
      · split <;> exact ⟨rfl, rfl, rfl⟩
  obtain ⟨phase, timer, keys⟩ := plain
  exact ⟨⟨sameWake_addPointer now r p, phase, timer⟩, keys⟩

theorem sameCourse_takePointer (now r) (p : Port) :
    SameCourse p (p.takePointer now r) ∧ (p.takePointer now r).pendingKeys = p.pendingKeys := by
  have held : SameCourse p (p.holdReport r) ∧ (p.holdReport r).pendingKeys = p.pendingKeys := by
    refine ⟨⟨sameWake_holdReport r p, ?_, ?_⟩, ?_⟩
    all_goals
      unfold Port.holdReport
      split <;> rfl
  unfold Port.takePointer
  split
  · exact sameCourse_addPointer now r p
  · exact held
  · exact held
  all_goals exact ⟨.refl p, rfl⟩

theorem sameCourse_tellReleases (now released left) (p : Port) : SameCourse p (p.tellReleases now released left) := by
  unfold Port.tellReleases
  split
  · exact (sameCourse_addSnapshot now left p).1
  · split
    · exact ⟨⟨rfl, rfl, rfl, rfl, rfl, rfl, rfl⟩, rfl, rfl⟩
    · exact .refl p

theorem sameCourse_toldRelease (now b) (p : Port) : SameCourse p (toldRelease now b p) := by
  unfold toldRelease
  split
  · have keys : SameCourse p (if b.keys = [] then p else p.addSnapshot now []) := by
      split
      · exact .refl p
      · exact (sameCourse_addSnapshot now [] p).1
    dsimp only
    split
    · exact keys
    · exact keys.trans (sameCourse_addPointer _ _ _).1
  · split
    · exact ⟨⟨rfl, rfl, rfl, rfl, rfl, rfl, rfl⟩, rfl, rfl⟩
    · exact .refl p

/-- An empty release leaves the pending key queue. -/
theorem toldRelease_nothing (now) (p : Port) (h : p.pendingKeys = []) :
    (toldRelease now ⟨[], []⟩ p).pendingKeys = [] := by
  unfold toldRelease
  split
  · exact h
  · split
    · exact (List.append_nil _).trans h
    · exact h

/-- The wake of computer `n` is under way as it was, and nothing was added to what it holds of nothing. -/
structure WakeKept (n : Computer) (s t : State) : Prop where
  course : SameCourse s.ports[n] t.ports[n]
  emptied : s.focus.beliefs[n] = ⟨[], []⟩ → s.ports[n].pendingKeys = [] →
    t.focus.beliefs[n] = ⟨[], []⟩ ∧ t.ports[n].pendingKeys = []

theorem WakeKept.refl (n : Computer) (s : State) : WakeKept n s s := ⟨.refl _, fun h k => ⟨h, k⟩⟩

theorem WakeKept.trans {n : Computer} {s t u : State} (h : WakeKept n s t) (k : WakeKept n t u) : WakeKept n s u :=
  ⟨h.course.trans k.course, fun hb hp => by
    obtain ⟨hb', hp'⟩ := h.emptied hb hp
    exact k.emptied hb' hp'⟩

theorem wakeKept_of_notices {n : Computer} {s t : State} (h : NoticesOnly s t)
    (beliefs : t.focus.beliefs = s.focus.beliefs) : WakeKept n s t := by
  refine ⟨?_, fun hb hp => ⟨by rw [beliefs]; exact hb, ?_⟩⟩
  · rw [h n]
    exact ⟨⟨rfl, rfl, rfl, rfl, rfl, rfl, rfl⟩, rfl, rfl⟩
  · rw [h n]
    exact hp

theorem wakeKept_raise (n : Computer) (e) (s : State) : WakeKept n s (raise e s) :=
  wakeKept_of_notices (noticesOnly_raise e s) rfl

theorem wakeKept_releaseTyped (n m : Computer) (ch : Pressed) (s : State) : WakeKept n s (releaseTyped m ch s) := by
  unfold releaseTyped
  dsimp only
  split
  · exact .refl n s
  next held =>
    by_cases e : m = n
    · subst e
      refine ⟨?_, fun hb => absurd ?_ held⟩
      · rw [State.modPort_port]
        exact sameCourse_tellReleases _ _ _ _
      · rw [hb]
        rfl
    · refine ⟨?_, fun hb hp => ⟨(State.setBelief_beliefs_ne s _ e).trans hb, ?_⟩⟩
      · rw [State.modPort_port_ne _ _ e]
        exact .refl _
      · rw [State.modPort_port_ne _ _ e]
        exact hp

theorem wakeKept_releaseBelief (n m : Computer) (s : State) : WakeKept n s (releaseBelief m s) := by
  rw [releaseBelief_eq]
  by_cases e : m = n
  · subst e
    refine ⟨?_, fun hb hp => ⟨State.setBelief_beliefs_self s m _, ?_⟩⟩
    · rw [State.modPort_port]
      exact sameCourse_toldRelease _ _ _
    · rw [State.modPort_port, hb]
      exact toldRelease_nothing _ _ hp
  · refine ⟨?_, fun hb hp => ⟨(State.setBelief_beliefs_ne s _ e).trans hb, ?_⟩⟩
    · rw [State.modPort_port_ne _ _ e]
      exact .refl _
    · rw [State.modPort_port_ne _ _ e]
      exact hp

theorem wakeKept_endTypeout (n : Computer) (e) (s : State) : WakeKept n s (endTypeout e s) := by
  have released : WakeKept n s (releaseIfPressed s) := by
    unfold releaseIfPressed
    split
    · split
      · exact wakeKept_releaseTyped n _ _ s
      · exact .refl n s
    · exact .refl n s
  unfold endTypeout
  split
  · have ended : WakeKept n (releaseIfPressed s)
        ((releaseIfPressed s).setTypeout ((releaseIfPressed s).typeout.ended e)) :=
      wakeKept_of_notices (noticesOnly_of_eq rfl) rfl
    exact released.trans (ended.trans (wakeKept_raise n .typeout _))
  · exact .refl n s

theorem wakeKept_focusLeft (n : Computer) (s : State) : WakeKept n s (focusLeft s) := by
  refine (wakeKept_endTypeout n .cancelledFocus s).trans ?_
  show WakeKept n _ (releaseOldFocus _)
  unfold releaseOldFocus
  split
  · exact .refl n _
  · split
    · exact .refl n _
    · exact wakeKept_releaseBelief n _ _

theorem wakeKept_considerReport (n : Computer) (wheel) (s : State) : WakeKept n s (considerReport wheel s) := by
  have handed : ∀ m pos, WakeKept n s (handAbsolute m pos wheel s) := fun m pos => by
    unfold handAbsolute
    dsimp only
    split
    · by_cases e : m = n
      · subst e
        have own := State.modPort_port s m
          (Port.takePointer s.now ⟨.absolute, pos.1, pos.2, s.focus.beliefs[m].buttons, wheel⟩)
        obtain ⟨course, keys⟩ := sameCourse_takePointer s.now
          ⟨.absolute, pos.1, pos.2, s.focus.beliefs[m].buttons, wheel⟩ s.ports[m]
        rw [← own] at course keys
        exact ⟨course, fun hb hp => ⟨hb, keys.trans hp⟩⟩
      · have other := State.modPort_port_ne s
          (Port.takePointer s.now ⟨.absolute, pos.1, pos.2, s.focus.beliefs[m].buttons, wheel⟩) e
        refine ⟨?_, fun hb hp => ⟨hb, (congrArg Port.pendingKeys other).trans hp⟩⟩
        show SameCourse s.ports[n] (s.modPort m _).ports[n]
        rw [other]
        exact .refl _
    · exact .refl n s
  unfold considerReport
  split
  · exact .refl n s
  · split
    · split
      · exact .refl n s
      · exact handed _ _
    · split
      · exact handed _ _
      · exact .refl n s

/-! ### The wake asked for by a crossing (R154) -/

/-- A wake request for a port that is SUSPENDED, as a type-out may be under way. -/
theorem wakeRequest_refused_keeps {n : Computer} {s : State} (hs : s.ports[n].link = .suspended)
    (ha : ¬ wakeAllowed n s = true) : (wakeRequest n s).ports[n].link = .suspended ∧ (wakeRequest n s).ports[n].deferred = false ∧
      (wakeRequest n s).ports[n].lastWake = .refused ∧ (wakeRequest n s).ports[n].pendingKeys = [] ∧
      (wakeRequest n s).focus.beliefs[n] = ⟨[], []⟩ ∧ announced .wake (wakeRequest n s) ∧
      (wakeRequest n s).ports[n].remoteWake = s.ports[n].remoteWake := by
  rw [wakeRequest_refused hs ha]
  unfold refuseWake typeoutWakeLost
  have port : (raise .wake (clearBelief n (s.modPort n Port.refuseWake))).ports[n] =
      { s.ports[n].refuseWake with
        notification := (raise .wake (clearBelief n (s.modPort n Port.refuseWake))).ports[n].notification } := by
    have h := noticesOnly_raise .wake (clearBelief n (s.modPort n Port.refuseWake)) n
    rw [show (clearBelief n (s.modPort n Port.refuseWake)).ports[n] = s.ports[n].refuseWake from State.modPort_port s n _] at h
    exact h
  have belief : (raise .wake (clearBelief n (s.modPort n Port.refuseWake))).focus.beliefs[n] = ⟨[], []⟩ :=
    State.setBelief_beliefs_self (s.modPort n Port.refuseWake) n _
  have heard : announced .wake (raise .wake (clearBelief n (s.modPort n Port.refuseWake))) := announced_raise .wake _
  generalize raise .wake (clearBelief n (s.modPort n Port.refuseWake)) = u at port belief heard
  have refused : u.ports[n].link = .suspended ∧ u.ports[n].deferred = false ∧ u.ports[n].lastWake = .refused ∧
      u.ports[n].pendingKeys = [] ∧ u.ports[n].remoteWake = s.ports[n].remoteWake := by
    rw [port, refuseWake_eq]
    exact ⟨hs, rfl, rfl, rfl, rfl⟩
  obtain ⟨link, deferred, lastWake, keys, remote⟩ := refused
  split
  · have k := wakeKept_endTypeout n .cancelledWake u
    obtain ⟨belief', keys'⟩ := k.emptied belief keys
    exact ⟨k.course.wake.link.trans link, k.course.wake.deferred.trans deferred, k.course.wake.lastWake.trans lastWake, keys',
      belief', (calm_endTypeout .cancelledWake u).heard.announced heard, k.course.wake.remoteWake.trans remote⟩
  · exact ⟨link, deferred, lastWake, keys, belief, heard, remote⟩

/-- The state of a crossing once the focus is set, before the wake of R27 step 6 and the announcement. -/
def crossingSet (n : Computer) (handed : Option (Nat × Nat)) (s : State) : State :=
  setFocusTo (some n) (rememberHanded handed (focusLeft s))

theorem focusChangePlaced_eq {n : Computer} {s : State} (handed) (hne : s.focus.focus ≠ some n) :
    focusChangePlaced n handed s = announceFocus (wakeOnFocus (some n) (crossingSet n handed s)) := if_neg hne

/-- What setting the focus in a crossing leaves of the wake of the new focus computer. -/
structure CrossingSet (n : Computer) (s t : State) : Prop where
  kept : WakeKept n s t
  idle : t.typeout.state ≠ .typing
  tables : t.tables = s.tables
  heard : Heard s t

theorem crossingSet_keeps (n : Computer) (handed) (s : State) : CrossingSet n s (crossingSet n handed s) := by
  have calm := calm_focusLeft s
  have left := wakeKept_focusLeft n s
  have placing := placing_rememberHanded handed (focusLeft s)
  have ports : (rememberHanded handed (focusLeft s)).ports = (focusLeft s).ports := by
    unfold rememberHanded
    split <;> rfl
  have set := focusSet_setFocusTo n (rememberHanded handed (focusLeft s))
  unfold crossingSet
  generalize setFocusTo (some n) (rememberHanded handed (focusLeft s)) = t at set
  refine ⟨left.trans ((wakeKept_of_notices (noticesOnly_of_eq ports) placing.beliefs).trans
    (wakeKept_of_notices set.ports (by rw [set.focus]))), ?_, set.tables.trans (placing.tables.trans calm.tables),
    calm.heard.trans (placing.heard.trans set.heard)⟩
  rw [set.typeout, placing.typeout, focusLeft_mailbox]
  exact endTypeout_not_typing _ s

theorem wakeKept_announceFocus (n : Computer) (s : State) : WakeKept n s (announceFocus s) :=
  wakeKept_of_notices (announceFocus_ports s) rfl

theorem wakeAllowed_congr {n : Computer} {s t : State} (hr : t.ports[n].remoteWake = s.ports[n].remoteWake)
    (ht : t.tables = s.tables) : wakeAllowed n t = wakeAllowed n s := by
  unfold wakeAllowed
  rw [hr, ht]

/-- The wake of R27 step 6 where none is asked for. -/
theorem wakeOnFocus_other {n : Computer} {s : State} (h : s.ports[n].link ≠ .suspended) : wakeOnFocus (some n) s = s :=
  if_neg fun e => h e.1

/-- The wake of R27 step 6 after one was asked for: a wake under way, deferred or in an attempt, stays as it is. -/
theorem wakeOnFocus_underWay {n : Computer} {s : State} (h : s.ports[n].link = .suspended → s.ports[n].deferred = true ∧
    wakeAllowed n s = true) : wakeOnFocus (some n) s = s := by
  by_cases hs : s.ports[n].link = .suspended
  · obtain ⟨hd, ha⟩ := h hs
    unfold wakeOnFocus
    dsimp only
    split
    · rw [wakeRequest_allowed hs ha, if_pos hd]
    · rfl
  · exact wakeOnFocus_other hs

theorem wakeRequest_started {n : Computer} {s : State} (hs : s.ports[n].link = .suspended) (ha : wakeAllowed n s = true)
    (hd : s.ports[n].deferred = false) (hw : s.ports[n].settle = none) : wakeRequest n s = startWake n s := by
  rw [wakeRequest_allowed hs ha, hd, if_neg Bool.false_ne_true, hw, if_neg (by decide)]

theorem startWake_port (n : Computer) (s : State) : (startWake n s).ports[n] =
    { s.ports[n].startAttempt s.now 1 with notification := (startWake n s).ports[n].notification } := by
  have h := noticesOnly_raise .link (s.modPort n (Port.startAttempt s.now 1)) n
  rw [State.modPort_port] at h
  exact h

/-- A wake request that is deferred, or merges into a deferred one. -/
theorem wakeRequest_waits {n : Computer} {s : State} (hs : s.ports[n].link = .suspended) (ha : wakeAllowed n s = true)
    (hw : s.ports[n].deferred = true ∨ s.ports[n].settle.isSome = true) :
    wakeRequest n s = s.modPort n fun p => { p with deferred := true } := by
  rw [wakeRequest_allowed hs ha]
  split
  next hd =>
    have same : ({ s.ports[n] with deferred := true } : Port) = s.ports[n] := by rw [← hd]
    unfold State.modPort
    dsimp only
    rw [same]
    exact (congrArg s.setPorts (Vector.set_getElem_self n.isLt)).symm
  next hd => rw [if_pos (hw.resolve_left hd)]

/-- The wake asked for by a crossing to `n` from another focus computer (R27, R154). -/
theorem crossing_wakeAsked {n : Computer} {s : State} (handed) (hne : s.focus.focus ≠ some n) :
    wakeAsked (s.ports[n].link = .suspended) n s (focusChangePlaced n handed (wakeOnGlide n s)) := by
  have other : (wakeOnGlide n s).focus.focus ≠ some n := fun e => hne ((served_wakeOnGlide n s).focused.symm.trans e)
  have tables : (wakeOnGlide n s).tables = s.tables := (served_wakeOnGlide n s).tables
  rw [focusChangePlaced_eq handed other]
  have c := crossingSet_keeps n handed (wakeOnGlide n s)
  generalize crossingSet n handed (wakeOnGlide n s) = x at c
  have last := wakeKept_announceFocus n
  have glide : s.ports[n].link = .suspended → wakeOnGlide n s = wakeRequest n s := fun h => if_pos h
  refine ⟨fun h => ?_, fun hs ha hw => ?_, fun hs ha hd hw => ?_, fun hs ha => ?_⟩
  · have none : wakeOnGlide n s = s := if_neg h
    rw [none] at c
    have k := c.kept.course.wake
    rw [wakeOnFocus_other (by rw [k.link]; exact h)]
    have k := k.trans (last x).course.wake
    exact ⟨k.link, k.deferred, k.attempt, k.lastWake⟩
  · rw [glide hs, wakeRequest_waits hs ((wakeAllowed_iff n s).2 ha) hw] at c
    have port := State.modPort_port s n fun p => { p with deferred := true }
    have k := c.kept.course.wake
    rw [port] at k
    have allowed : wakeAllowed n x = true :=
      (wakeAllowed_congr (s := s) k.remoteWake (c.tables.trans rfl)).trans ((wakeAllowed_iff n s).2 ha)
    rw [wakeOnFocus_underWay fun _ => ⟨k.deferred, allowed⟩]
    have k := k.trans (last x).course.wake
    exact ⟨k.link.trans hs, k.deferred, k.lastWake⟩
  · have started := wakeRequest_started hs ((wakeAllowed_iff n s).2 ha) hd hw
    rw [glide hs, started] at c
    have k := c.kept.course
    rw [startWake_port] at k
    rw [wakeOnFocus_other (by rw [k.wake.link]; exact LinkState.noConfusion)]
    have heard : announced .link (startWake n s) := announced_raise .link (s.modPort n (Port.startAttempt s.now 1))
    have k := k.trans (last x).course
    exact ⟨k.wake.link, k.wake.attempt, k.phase, k.timer,
      (heard_announceFocus x).announced (c.heard.announced heard)⟩
  · have refused : ¬ wakeAllowed n s = true := fun h => ha ((wakeAllowed_iff n s).1 h)
    obtain ⟨link, deferred, lastWake, keys, belief, heard, remote⟩ := wakeRequest_refused_keeps hs refused
    rw [glide hs] at c tables
    obtain ⟨belief', keys'⟩ := c.kept.emptied belief keys
    have k := c.kept.course.wake
    have woken : (wakeOnFocus (some n) x).ports[n].link = .suspended ∧ (wakeOnFocus (some n) x).ports[n].deferred = false ∧
        (wakeOnFocus (some n) x).ports[n].lastWake = .refused ∧ (wakeOnFocus (some n) x).ports[n].pendingKeys = [] ∧
        (wakeOnFocus (some n) x).focus.beliefs[n] = ⟨[], []⟩ ∧ announced .wake (wakeOnFocus (some n) x) := by
      by_cases asks : x.ports[n].link = .suspended ∧ x.tables.options.wakeOnFocus = true
      · have again : ¬ wakeAllowed n x = true := fun h => refused
          ((wakeAllowed_congr (s := s) (k.remoteWake.trans remote) (c.tables.trans tables)).symm.trans h)
        obtain ⟨h1, h2, h3, h4, h5, h6, -⟩ := wakeRequest_refused_keeps asks.1 again
        rw [show wakeOnFocus (some n) x = wakeRequest n x from if_pos asks]
        exact ⟨h1, h2, h3, h4, h5, h6⟩
      · rw [show wakeOnFocus (some n) x = x from if_neg asks]
        exact ⟨k.link.trans link, k.deferred.trans deferred, k.lastWake.trans lastWake, keys', belief',
          c.heard.announced heard⟩
    generalize wakeOnFocus (some n) x = y at woken
    obtain ⟨h1, h2, h3, h4, h5, h6⟩ := woken
    have k := last y
    obtain ⟨h5', h4'⟩ := k.emptied h5 h4
    exact ⟨k.course.wake.link.trans h1, k.course.wake.deferred.trans h2, k.course.wake.lastWake.trans h3, h4', h5',
      (heard_announceFocus y).announced h6⟩

/-- A wake asked for before the pointer's last report is asked for after it. -/
theorem wakeAsked_considerReport {asks : Prop} {n : Computer} {s t : State} (h : wakeAsked asks n s t) (wheel) :
    wakeAsked asks n s (considerReport wheel t) := by
  obtain ⟨calm, waits, starts, refused⟩ := h
  have k := wakeKept_considerReport n wheel t
  have heard := (placing_considerReport wheel t).heard
  have wake := k.course.wake
  unfold wakeAsked
  dsimp only
  rw [wake.link, wake.deferred, wake.attempt, wake.lastWake, k.course.phase, k.course.timer]
  refine ⟨calm, waits, fun ha hl hd hw => ?_, fun ha hl => ?_⟩
  · obtain ⟨h1, h2, h3, h4, h5⟩ := starts ha hl hd hw
    exact ⟨h1, h2, h3, h4, heard.announced h5⟩
  · obtain ⟨h1, h2, h3, h4, h5, h6⟩ := refused ha hl
    obtain ⟨h5', h4'⟩ := k.emptied h5 h4
    exact ⟨h1, h2, h3, h4', h5', heard.announced h6⟩

end Sys2Proof.Machine
end


section
/-! ## Motion in GLIDE: along one axis (R51 to R55, R61) -/

namespace Sys2Proof.Machine

/-! ### A motion along an axis -/

/-- The pointer lies in the tile of its seat, on the desk. -/
structure OnTile (t : Tile) (s : State) : Prop where
  tile : seatTile s = some t
  inside : t.contains (s.glide.px / 16) (s.glide.py / 16) = true
  desk : s.glide.px ≤ 524287 ∧ s.glide.py ≤ 524287

theorem crossingPermitted_iff (n : Computer) (s : State) : crossingPermitted n s = true ↔ mayCross n s := by
  unfold crossingPermitted mayCross
  simp only [Bool.or_eq_true, Bool.and_eq_true, decide_eq_true_eq, List.isEmpty_iff]

theorem moveAxis_stays {a : Axis} {step : Int} {s : State} {t : Tile} (ht : seatTile s = some t)
    (h : t.contains (axisPoint a (moveTarget (axisPos a s) step) s).1 (axisPoint a (moveTarget (axisPos a s) step) s).2 = true) :
    moveAxis a step s = setAxis a (moveTarget (axisPos a s) step) s := by
  unfold moveAxis
  rw [ht]
  exact if_pos h

theorem moveAxis_edge {a : Axis} {step : Int} {s : State} {t : Tile} (ht : seatTile s = some t)
    (h : ¬ t.contains (axisPoint a (moveTarget (axisPos a s) step) s).1 (axisPoint a (moveTarget (axisPos a s) step) s).2 = true)
    (closed : ∀ t1 n, locate s (axisPoint a (moveTarget (axisPos a s) step) s).1
      (axisPoint a (moveTarget (axisPos a s) step) s).2 = some t1 → liveOwner s t1 = some n → ¬ mayCross n s) :
    moveAxis a step s = setAxis a (tileEdge a step t) s := by
  unfold moveAxis
  rw [ht]
  dsimp only
  rw [if_neg h]
  split
  · rfl
  next t1 hl =>
    split
    · rfl
    next n ho => exact if_neg fun e => closed t1 n hl ho ((crossingPermitted_iff n s).1 e)

theorem moveAxis_crosses {a : Axis} {step : Int} {s : State} {t t1 : Tile} {n : Computer} (ht : seatTile s = some t)
    (h : ¬ t.contains (axisPoint a (moveTarget (axisPos a s) step) s).1 (axisPoint a (moveTarget (axisPos a s) step) s).2 = true)
    (hl : locate s (axisPoint a (moveTarget (axisPos a s) step) s).1
      (axisPoint a (moveTarget (axisPos a s) step) s).2 = some t1)
    (ho : liveOwner s t1 = some n) (may : mayCross n s) :
    moveAxis a step s = cross a (moveTarget (axisPos a s) step) t1 n s := by
  unfold moveAxis
  rw [ht]
  dsimp only
  rw [if_neg h, hl]
  dsimp only
  rw [ho]
  exact if_pos ((crossingPermitted_iff n s).2 may)

/-- The three outcomes of a motion along an axis. -/
theorem moveAxis_cases (a : Axis) (step : Int) {s : State} {t : Tile} (ht : seatTile s = some t) :
    let point := axisPoint a (moveTarget (axisPos a s) step) s
    (t.contains point.1 point.2 = true ∧ moveAxis a step s = setAxis a (moveTarget (axisPos a s) step) s) ∨
      (moveAxis a step s = setAxis a (tileEdge a step t) s) ∨
      ∃ t1 n, locate s point.1 point.2 = some t1 ∧ liveOwner s t1 = some n ∧
        moveAxis a step s = cross a (moveTarget (axisPos a s) step) t1 n s := by
  dsimp only
  by_cases h : t.contains (axisPoint a (moveTarget (axisPos a s) step) s).1 (axisPoint a (moveTarget (axisPos a s) step) s).2 = true
  · exact .inl ⟨h, moveAxis_stays ht h⟩
  · by_cases k : ∃ t1 n, locate s (axisPoint a (moveTarget (axisPos a s) step) s).1
        (axisPoint a (moveTarget (axisPos a s) step) s).2 = some t1 ∧ liveOwner s t1 = some n ∧ mayCross n s
    · obtain ⟨t1, n, hl, ho, may⟩ := k
      exact .inr (.inr ⟨t1, n, hl, ho, moveAxis_crosses ht h hl ho may⟩)
    · exact .inr (.inl (moveAxis_edge ht h fun t1 n hl ho may => k ⟨t1, n, hl, ho, may⟩))

/-! ### Crossings (R28, R52) -/

/-- The pointer placed on the tile to which it crosses. -/
def crossed (a : Axis) (p : Nat) (t : Tile) (n : Computer) (s : State) : State :=
  (setAxis a p s).setGlide { (setAxis a p s).glide with seat := some ⟨t.screen, t.quad, n⟩ }

theorem cross_own {a : Axis} {p : Nat} {t : Tile} {n : Computer} {s : State} (h : s.focus.focus = some n) :
    cross a p t n s = crossed a p t n s := if_pos h

theorem cross_other {a : Axis} {p : Nat} {t : Tile} {n : Computer} {s : State} (h : s.focus.focus ≠ some n) :
    cross a p t n s = focusChangePlaced n (some (s.glide.px, s.glide.py)) (wakeOnGlide n (crossed a p t n s)) := if_neg h

/-- The pointer placed on the tile leaves the rest of the state. -/
theorem crossed_keeps (a : Axis) (p : Nat) (t : Tile) (n : Computer) (s : State) : ∃ glide,
    crossed a p t n s = { s with glide := glide } ∧ glide.px = (setAxis a p s).glide.px ∧
      glide.py = (setAxis a p s).glide.py ∧ glide.seat = some ⟨t.screen, t.quad, n⟩ ∧
      glide.remembered = s.glide.remembered ∧ glide.lastAbs = s.glide.lastAbs := by
  cases a <;> exact ⟨_, rfl, rfl, rfl, rfl, rfl, rfl⟩

theorem cross_still (a : Axis) (p : Nat) (t : Tile) (n : Computer) (s : State) :
    DeskStill (crossed a p t n s) (cross a p t n s) := by
  by_cases h : s.focus.focus = some n
  · rw [cross_own h]
    exact .refl _
  · rw [cross_other h]
    exact (served_wakeOnGlide n _).deskStill.trans (focusChangePlaced_still n _ _).1

/-- What a crossing to another computer than the focus computer leaves. -/
structure CrossedOver (n f : Computer) (s t : State) : Prop where
  focused : t.focus.focus = some n
  mode : t.focus.mode = s.focus.mode
  previous : t.focus.previous = some f
  remembered : t.glide.remembered[f] = some (s.glide.px, s.glide.py)
  released : s.focus.broadcast[f] = false → t.focus.beliefs[f] = ⟨[], []⟩
  announced : announced .focus t
  wake : wakeAsked (s.ports[n].link = .suspended) n s t

theorem crossedOver_cross {a : Axis} {p : Nat} {t : Tile} {n f : Computer} {s : State} (hf : s.focus.focus = some f) (hn : n ≠ f) :
    CrossedOver n f s (cross a p t n s) := by
  have hne : s.focus.focus ≠ some n := fun e => hn (Option.some.inj (e.symm.trans hf))
  rw [cross_other hne]
  obtain ⟨glide, e, -⟩ := crossed_keeps a p t n s
  rw [e]
  have asked := crossing_wakeAsked (n := n) (s := { s with glide := glide }) (some (s.glide.px, s.glide.py)) hne
  have served := served_wakeOnGlide n { s with glide := glide }
  generalize wakeOnGlide n { s with glide := glide } = w at asked served
  have hfw : w.focus.focus = some f := served.focused.trans hf
  have hnw : w.focus.focus ≠ some n := fun e => hn (Option.some.inj (e.symm.trans hfw))
  have c := focusChangePlaced_changed (s := w) (some (s.glide.px, s.glide.py)) hnw
  obtain ⟨-, -, mode⟩ := focusChangePlaced_still n (some (s.glide.px, s.glide.py)) w
  have placed := focusChangePlaced_glide (s := w) (some (s.glide.px, s.glide.py)) hnw
  refine ⟨c.focused, mode.trans served.mode, c.previous.trans hfw, ?_, fun hb => c.released f hfw ?_, c.announced, asked⟩
  · have left : (focusLeft w).focus.focus = some f := (calm_focusLeft w).focused.trans hfw
    have kept : rememberHanded (some (s.glide.px, s.glide.py)) (focusLeft w) =
        remember f (s.glide.px, s.glide.py) (focusLeft w) := by
      unfold rememberHanded
      rw [left]
    rw [placed, kept]
    exact Vector.getElem_set_self f.isLt
  · rw [served.broadcast]
    exact hb

/-! ### The pointer stays in the tile of its seat -/

theorem seatTile_setAxis (a : Axis) (p : Nat) (s : State) : seatTile (setAxis a p s) = seatTile s := by
  cases a <;> rfl

theorem setAxis_desk {a : Axis} {p : Nat} {s : State} (h : s.glide.px ≤ 524287 ∧ s.glide.py ≤ 524287) (hp : p ≤ 524287) :
    (setAxis a p s).glide.px ≤ 524287 ∧ (setAxis a p s).glide.py ≤ 524287 := by
  cases a
  · exact ⟨hp, h.2⟩
  · exact ⟨h.1, hp⟩

theorem moveTarget_eq (p : Nat) (step : Int) : moveTarget p step = (max 0 (min 524287 ((p : Int) + step))).toNat := rfl

theorem moveTarget_le (p : Nat) (step : Int) : moveTarget p step ≤ 524287 := by
  rw [moveTarget_eq]
  omega

theorem moveTarget_zero {p : Nat} (h : p ≤ 524287) : moveTarget p 0 = p := by
  rw [moveTarget_eq]
  omega

/-- No motion along an axis. -/
theorem moveAxis_zero (a : Axis) {s : State} {t : Tile} (h : OnTile t s) : moveAxis a 0 s = s := by
  obtain ⟨tile, inside, hx, hy⟩ := h
  have target : moveTarget (axisPos a s) 0 = axisPos a s := by
    cases a
    · exact moveTarget_zero hx
    · exact moveTarget_zero hy
  have e := moveAxis_stays (a := a) (step := 0) tile (by rw [target]; cases a <;> exact inside)
  rw [e, target]
  cases a <;> rfl

theorem tileEdge_le {a : Axis} {step : Int} {t : Tile} (hw : 1 ≤ t.w) (hh : 1 ≤ t.h) (hx : t.x + t.w ≤ 32768) (hy : t.y + t.h ≤ 32768) :
    tileEdge a step t ≤ 524287 := by
  unfold tileEdge
  cases a
  all_goals
    dsimp only
    split <;> omega

theorem seatTile_mem_screen {s : State} {t : Tile} (h : seatTile s = some t) : ∃ sc, t ∈ screenTiles s sc := by
  unfold seatTile at h
  split at h
  · cases h
  next seat _ => exact ⟨seat.screen, List.mem_of_find?_eq_some h⟩

theorem onTile_crossed {a : Axis} {p : Nat} {t : Tile} {n : Computer} {s : State} (ok : DeskOk s.tables)
    (desk : s.glide.px ≤ 524287 ∧ s.glide.py ≤ 524287) (hp : p ≤ 524287)
    (hl : locate s (axisPoint a p s).1 (axisPoint a p s).2 = some t) : OnTile t (crossed a p t n s) := by
  obtain ⟨hm, inside⟩ := locate_some hl
  have desk' := setAxis_desk (a := a) desk hp
  obtain ⟨hx, hy⟩ := setAxis_point a p s
  obtain ⟨glide, e, px, py, seat, -⟩ := crossed_keeps a p t n s
  rw [← hx, ← hy, ← px, ← py] at inside
  rw [← px, ← py] at desk'
  rw [e]
  refine ⟨?_, inside, desk'⟩
  have found := (screenTiles_mem ok (allTiles_mem ok hm)).2.2.2.2.2
  have tile : seatTile { s with glide := glide } =
      (screenTiles s t.screen).find? (fun u => decide (u.quad = t.quad)) := by
    unfold seatTile
    rw [show ({ s with glide := glide } : State).glide.seat = some ⟨t.screen, t.quad, n⟩ from seat]
    rfl
  exact tile.trans found

theorem OnTile.still {t : Tile} {s u : State} (h : OnTile t s) (k : DeskStill s u) : OnTile t u :=
  ⟨k.seatTile.trans h.tile, by rw [k.px, k.py]; exact h.inside, by rw [k.px, k.py]; exact h.desk⟩

/-- A motion leaves the pointer in the tile of its seat (R52, R53). -/
theorem onTile_moveAxis (a : Axis) (step : Int) {s : State} {t : Tile} (ok : DeskOk s.tables) (h : OnTile t s) :
    ∃ t', OnTile t' (moveAxis a step s) := by
  have point := fun p => setAxis_point a p s
  rcases moveAxis_cases a step h.tile with ⟨inside, e⟩ | e | ⟨t1, n, hl, -, e⟩
  · rw [e]
    refine ⟨t, (seatTile_setAxis a _ s).trans h.tile, ?_, setAxis_desk h.desk (moveTarget_le _ _)⟩
    obtain ⟨hx, hy⟩ := point (moveTarget (axisPos a s) step)
    rw [hx, hy]
    exact inside
  · obtain ⟨sc, hm⟩ := seatTile_mem_screen h.tile
    obtain ⟨-, hw, hh, hx, hy, -⟩ := screenTiles_mem ok hm
    rw [e]
    refine ⟨t, (seatTile_setAxis a _ s).trans h.tile, ?_, setAxis_desk h.desk (tileEdge_le hw hh hx hy)⟩
    obtain ⟨ex, ey⟩ := contains_edge hw hh a step h.inside
    obtain ⟨px, py⟩ := point (tileEdge a step t)
    rw [px, py]
    cases a
    · exact ex rfl
    · exact ey rfl
  · rw [e]
    exact ⟨t1, (onTile_crossed ok h.desk (moveTarget_le _ _) hl).still (cross_still a _ t1 n s)⟩

/-! ### The one report of a motion (R61, R63) -/

/-- The report of the pointer at the computer of its seat, where one is due and where its port takes it. -/
theorem considerReport_hands (wheel : Int) {s : State} {seat : Seat} (hs : s.glide.seat = some seat) :
    let m := seat.computer
    let pos := (absoluteHere s m).getD (s.glide.lastAbs[m].getD (16384, 16384))
    let report : PtrReport := ⟨.absolute, pos.1, pos.2, s.focus.beliefs[m].buttons, wheel⟩
    let due := wheel ≠ 0 ∨ ((absoluteHere s m).isSome = true ∧ s.glide.lastAbs[m] ≠ absoluteHere s m)
    (due → considerReport wheel s = handAbsolute m pos wheel s) ∧ (¬ due → considerReport wheel s = s) ∧
      (s.ports[m].link.takesReports = true → (handAbsolute m pos wheel s).glide.lastAbs = s.glide.lastAbs.set m (some pos) ∧
        (handAbsolute m pos wheel s).ports = s.ports.set m (s.ports[m].takePointer s.now report)) := by
  dsimp only
  unfold considerReport
  rw [hs]
  dsimp only
  refine ⟨fun due => ?_, fun calm => ?_, fun takes => ?_⟩
  · cases here : absoluteHere s seat.computer with
    | none =>
      rw [here] at due
      have moved : wheel ≠ 0 := due.resolve_right fun e => by cases e.1
      dsimp only
      rw [if_neg moved]
      rfl
    | some pos =>
      rw [here] at due
      dsimp only
      rw [if_pos (due.symm.imp_left And.right)]
      rfl
  · rw [not_or, not_not] at calm
    obtain ⟨still, same⟩ := calm
    cases here : absoluteHere s seat.computer with
    | none =>
      dsimp only
      rw [if_pos still]
    | some pos =>
      rw [here] at same
      dsimp only
      rw [if_neg fun e => e.elim (fun e => same ⟨rfl, e⟩) (absurd still)]
  · unfold handAbsolute
    dsimp only
    rw [if_pos takes]
    exact ⟨rfl, rfl⟩

/-- The report of the pointer, by the link of the port it is for (R61, R63, R152). -/
theorem considerReport_told (wheel : Int) {s : State} {seat : Seat} (hs : s.glide.seat = some seat) :
    let m := seat.computer
    let pos := (absoluteHere s m).getD (s.glide.lastAbs[m].getD (16384, 16384))
    let report : PtrReport := ⟨.absolute, pos.1, pos.2, s.focus.beliefs[m].buttons, wheel⟩
    let due := wheel ≠ 0 ∨ ((absoluteHere s m).isSome = true ∧ s.glide.lastAbs[m] ≠ absoluteHere s m)
    let asleep := s.ports[m].link = .suspended ∨ s.ports[m].link = .waking
    let u := considerReport wheel s
    (due → s.ports[m].link = .ready ∨ asleep → u.glide.lastAbs = s.glide.lastAbs.set m (some pos)) ∧
    (due → s.ports[m].link = .ready → u.ports = s.ports.set m (s.ports[m].addPointer s.now report)) ∧
    (due → asleep → u.ports = s.ports.set m { s.ports[m] with held := some (match s.ports[m].held with
      | none => report
      | some q => q.merge report) }) ∧
    (¬ due ∨ (s.ports[m].link ≠ .ready ∧ ¬ asleep) → u.glide.lastAbs = s.glide.lastAbs ∧ u.ports = s.ports) := by
  dsimp only
  obtain ⟨hands, calm, told⟩ := considerReport_hands wheel hs
  have takes := takesReports_iff s.ports[seat.computer].link
  refine ⟨fun due hl => ?_, fun due hr => ?_, fun due ha => ?_, fun h => ?_⟩
  · rw [hands due]
    exact (told (takes.2 hl)).1
  · rw [hands due, (told (takes.2 (.inl hr))).2, takePointer_of_ready hr]
  · rw [hands due, (told (takes.2 (.inr ha))).2, takePointer_of_asleep ha]
    unfold heldWith
    rfl
  · by_cases due : wheel ≠ 0 ∨ ((absoluteHere s seat.computer).isSome = true ∧
        s.glide.lastAbs[seat.computer] ≠ absoluteHere s seat.computer)
    · obtain ⟨hr, ha⟩ := h.resolve_left (not_not_intro due)
      have deaf : ¬ s.ports[seat.computer].link.takesReports = true := fun e => (takes.1 e).elim hr ha
      have nothing : ∀ pos, handAbsolute seat.computer pos wheel s = s := fun pos => if_neg deaf
      rw [hands due, nothing]
      exact ⟨rfl, rfl⟩
    · rw [calm due]
      exact ⟨rfl, rfl⟩

/-! ### The report of a pointing device in GLIDE -/

theorem modConsolePort_same {c : ConsoleNo} {n : List Nat} {s : State} (h : s.console.ports[c] = .pointer n) :
    modConsolePort c (ConsolePort.setButtons n) s = s := by
  refine modConsolePort_eq_self ?_
  rw [← Fin.getElem_fin, h]
  rfl

theorem buttonsSame_later {c : ConsoleNo} {r : PointerInput} {s t : State} (h : buttonsSame c r s)
    (code : t.console.ports[c].code = s.console.ports[c].code)
    (buttons : t.console.ports[c].buttons = s.console.ports[c].buttons) : buttonsSame c r t := by
  unfold buttonsSame at h ⊢
  rw [h] at code buttons
  rw [ConsolePort.pointer_of_code code, buttons]
  rfl

/-- What a report of a motion is to the pointer in GLIDE, once it was reduced and clamped. -/
def glideMoved (c : ConsoleNo) (r : PointerInput) (s : State) : State :=
  moveAxis .y (scaleStep s.tables.pointer[c] (clampMotion r.dy)) (moveAxis .x (scaleStep s.tables.pointer[c] (clampMotion r.dx)) s)

/-- In GLIDE, and UNLOCKED, a report without a button change. -/
structure Glides (c : ConsoleNo) (r : PointerInput) (s : State) : Prop where
  unlocked : s.lock.state = .unlocked
  mode : s.focus.mode = .glide
  buttons : buttonsSame c r s

theorem Gliding.glides {c : ConsoleNo} {r : PointerInput} {s : State} {t : Tile} {f : Computer} (h : Gliding c r s t f) :
    Glides c r s := ⟨h.unlocked, h.mode, h.buttons⟩

theorem Gliding.onTile {c : ConsoleNo} {r : PointerInput} {s : State} {t : Tile} {f : Computer} (h : Gliding c r s t f) :
    OnTile t s := ⟨h.tile, h.inside, h.desk⟩

theorem clampInt_eq_zero {b d : Int} (hb : 1 ≤ b) : clampInt (-b) b d = 0 ↔ d = 0 := by
  unfold clampInt
  omega

theorem motionless_iff (r : PointerInput) : motionless r ↔
    clampMotion r.dx = 0 ∧ clampMotion r.dy = 0 ∧ clampWheel r.wheel = 0 := by
  unfold motionless clampMotion clampWheel
  rw [clampInt_eq_zero (by decide), clampInt_eq_zero (by decide), clampInt_eq_zero (by decide)]

theorem quiet_glideMoved (c : ConsoleNo) (r : PointerInput) (s : State) : Quiet s (glideMoved c r s) :=
  (quiet_moveAxis .x _ s).trans (quiet_moveAxis .y _ _)

/-- A report of a motion in GLIDE. -/
theorem exec_glides {c : ConsoleNo} {r : PointerInput} {s : State} (h : Glides c r s) (moves : ¬ motionless r) :
    exec (.pointerReport c r) s = .next (considerReport (clampWheel r.wheel) (glideMoved c r s)) := by
  have moved : reportMotion (clampMotion r.dx) (clampMotion r.dy) (clampWheel r.wheel) c s =
      considerReport (clampWheel r.wheel) (glideMoved c r s) := by
    unfold reportMotion lockMotion
    rw [if_neg fun e => moves ((motionless_iff r).2 e), h.unlocked]
    dsimp only
    unfold motionItem
    rw [h.mode]
    rfl
  have quiet := (quiet_glideMoved c r s).trans (quiet_considerReport (clampWheel r.wheel) _)
  have later := buttonsSame_later h.buttons (quiet.codes c) (quiet.buttons c)
  rw [exec_pointerReport h.buttons, takeButtons_same, moved, modConsolePort_same later]

/-- A report of no motion in GLIDE. -/
theorem exec_motionless {c : ConsoleNo} {r : PointerInput} {s : State} (h : Glides c r s) (still : motionless r) :
    exec (.pointerReport c r) s = .next s := by
  rw [exec_pointerReport_still h.buttons still, takeButtons_none h.buttons]

theorem scaleStep_zero (e : PointerEntry) : scaleStep e 0 = 0 := by
  unfold scaleStep
  simp

/-- A motion along one axis. -/
theorem glideMoved_vertical {c : ConsoleNo} {r : PointerInput} {s : State} {t : Tile} (h : OnTile t s) (hx : r.dx = 0) :
    glideMoved c r s = moveAxis .y (scaleStep s.tables.pointer[c] (clampMotion r.dy)) s := by
  have none : scaleStep s.tables.pointer[c] (clampMotion r.dx) = 0 := by
    rw [hx]
    exact scaleStep_zero _
  unfold glideMoved
  rw [none, moveAxis_zero .x h]

theorem glideMoved_horizontal {c : ConsoleNo} {r : PointerInput} {s : State} {t : Tile} (ok : DeskOk s.tables) (h : OnTile t s)
    (hy : r.dy = 0) : glideMoved c r s = moveAxis .x (scaleStep s.tables.pointer[c] (clampMotion r.dx)) s := by
  have none : scaleStep s.tables.pointer[c] (clampMotion r.dy) = 0 := by
    rw [hy]
    exact scaleStep_zero _
  obtain ⟨t', h'⟩ := onTile_moveAxis .x (scaleStep s.tables.pointer[c] (clampMotion r.dx)) ok h
  unfold glideMoved
  rw [none, moveAxis_zero .y h']

end Sys2Proof.Machine
end


section
/-! ## Motion in GLIDE: the obligation (R51 to R55, R61) -/

namespace Sys2Proof.Machine

/-- The position with the coordinate `p` along an axis. -/
def alongAxis (a : Axis) (p : Nat) (s : State) : Nat × Nat :=
  match a with
  | .x => (p, s.glide.py)
  | .y => (s.glide.px, p)

theorem setAxis_position (a : Axis) (p : Nat) (s : State) :
    ((setAxis a p s).glide.px, (setAxis a p s).glide.py) = alongAxis a p s := by
  cases a <;> rfl

theorem axisPoint_eq (a : Axis) (p : Nat) (s : State) :
    axisPoint a p s = ((alongAxis a p s).1 / 16, (alongAxis a p s).2 / 16) := by
  cases a <;> rfl

/-- What setting a coordinate leaves. -/
theorem setAxis_keeps (a : Axis) (p : Nat) (s : State) : ∃ glide, setAxis a p s = { s with glide := glide } ∧
    glide.seat = s.glide.seat ∧ glide.lastAbs = s.glide.lastAbs := by
  cases a <;> exact ⟨_, rfl, rfl, rfl⟩

/-- The pointer with its coordinate set, and then the report. -/
theorem considerReport_setAxis (a : Axis) (p : Nat) (wheel) (s : State) :
    ((considerReport wheel (setAxis a p s)).glide.px, (considerReport wheel (setAxis a p s)).glide.py) = alongAxis a p s ∧
      (considerReport wheel (setAxis a p s)).glide.seat = s.glide.seat ∧
      (considerReport wheel (setAxis a p s)).focus = s.focus ∧
      (considerReport wheel (setAxis a p s)).typeout = s.typeout := by
  have served := served_considerReport wheel (setAxis a p s)
  have placing := placing_considerReport wheel (setAxis a p s)
  have focus := considerReport_focus wheel (setAxis a p s)
  have position := setAxis_position a p s
  obtain ⟨glide, e, seat, -⟩ := setAxis_keeps a p s
  rw [e] at served placing focus position ⊢
  refine ⟨?_, served.seat.trans seat, focus, placing.typeout⟩
  rw [served.px, served.py]
  exact position

/-- What the report due to the computer of the current tile is, while the focus stays (R61, R63, R64). -/
def ReportDue (wheel : Int) (s u : State) : Prop :=
  ∀ seat, u.glide.seat = some seat →
    let m := seat.computer
    let pos := (absoluteHere u m).getD (s.glide.lastAbs[m].getD (16384, 16384))
    let report : PtrReport := ⟨.absolute, pos.1, pos.2, s.focus.beliefs[m].buttons, wheel⟩
    let due := wheel ≠ 0 ∨ ((absoluteHere u m).isSome = true ∧ s.glide.lastAbs[m] ≠ absoluteHere u m)
    let asleep := s.ports[m].link = .suspended ∨ s.ports[m].link = .waking
    (due → s.ports[m].link = .ready ∨ asleep → u.glide.lastAbs = s.glide.lastAbs.set m (some pos)) ∧
    (due → s.ports[m].link = .ready → u.ports = s.ports.set m (s.ports[m].addPointer s.now report)) ∧
    (due → asleep → u.ports = s.ports.set m { s.ports[m] with held := some (match s.ports[m].held with
      | none => report
      | some q => q.merge report) }) ∧
    (¬ due ∨ (s.ports[m].link ≠ .ready ∧ ¬ asleep) → u.glide.lastAbs = s.glide.lastAbs ∧ u.ports = s.ports)

theorem reportDue_considerReport (wheel : Int) {s v : State} (ports : v.ports = s.ports)
    (beliefs : v.focus.beliefs = s.focus.beliefs) (lastAbs : v.glide.lastAbs = s.glide.lastAbs) (now : v.now = s.now) :
    ReportDue wheel s (considerReport wheel v) := by
  have served := served_considerReport wheel v
  have placing := placing_considerReport wheel v
  intro seat hs
  have told := considerReport_told wheel (served.seat.symm.trans hs)
  dsimp only at told
  rw [ports, beliefs, lastAbs, now, ← served_absoluteHere served placing.channels] at told
  exact told

/-- What a motion leaves that goes to `target`, or else to `edge`, of the tile `t` (R52, R53, R55). -/
structure MovedTo (target edge : Nat × Nat) (t : Tile) (f : Computer) (wheel : Int) (s u : State) : Prop where
  stays : t.contains (target.1 / 16) (target.2 / 16) = true →
    (u.glide.px, u.glide.py) = target ∧ u.glide.seat = s.glide.seat ∧ u.focus = s.focus ∧ u.typeout = s.typeout
  stops : ¬ t.contains (target.1 / 16) (target.2 / 16) = true →
    (∀ t1 n, locate s (target.1 / 16) (target.2 / 16) = some t1 → liveOwner s t1 = some n → ¬ mayCross n s) →
    (u.glide.px, u.glide.py) = edge ∧ u.glide.seat = s.glide.seat ∧ u.focus = s.focus ∧ u.typeout = s.typeout
  crosses : ∀ t1 n, ¬ t.contains (target.1 / 16) (target.2 / 16) = true →
    locate s (target.1 / 16) (target.2 / 16) = some t1 → liveOwner s t1 = some n → mayCross n s →
    (u.glide.px, u.glide.py) = target ∧ u.glide.seat = some ⟨t1.screen, t1.quad, n⟩ ∧ u.focus.focus = some n ∧
    u.focus.mode = .glide ∧
    (n = f → u.focus = s.focus) ∧
    (n ≠ f → u.focus.previous = some f ∧ u.glide.remembered[f] = some (s.glide.px, s.glide.py) ∧
      (s.focus.broadcast[f] = false → u.focus.beliefs[f] = ⟨[], []⟩) ∧ announced .focus u ∧
      wakeAsked (s.ports[n].link = .suspended) n s u)
  report : u.focus.focus = some f → ReportDue wheel s u

theorem crossed_position (a : Axis) (p : Nat) (t : Tile) (n : Computer) (s : State) :
    ((cross a p t n s).glide.px, (cross a p t n s).glide.py) = alongAxis a p s ∧
      (cross a p t n s).glide.seat = some ⟨t.screen, t.quad, n⟩ := by
  have still := cross_still a p t n s
  obtain ⟨glide, e, px, py, seat, -⟩ := crossed_keeps a p t n s
  rw [e] at still
  rw [still.px, still.py, still.seat]
  refine ⟨?_, seat⟩
  rw [px, py]
  exact setAxis_position a p s

/-- A motion along an axis and its report. -/
theorem movedTo_moveAxis (a : Axis) (step wheel : Int) {s : State} {t : Tile} {f : Computer} (ht : seatTile s = some t)
    (hm : s.focus.mode = .glide) (hf : s.focus.focus = some f) :
    MovedTo (alongAxis a (moveTarget (axisPos a s) step) s) (alongAxis a (tileEdge a step t) s) t f wheel s
      (considerReport wheel (moveAxis a step s)) := by
  have point := axisPoint_eq a (moveTarget (axisPos a s) step) s
  refine ⟨fun inside => ?_, fun outside closed => ?_, fun t1 n outside hl ho may => ?_, fun hu => ?_⟩
  · rw [moveAxis_stays ht (by rw [point]; exact inside)]
    exact considerReport_setAxis a _ wheel s
  · rw [moveAxis_edge ht (by rw [point]; exact outside) (by rw [point]; exact closed)]
    exact considerReport_setAxis a _ wheel s
  · rw [moveAxis_crosses ht (by rw [point]; exact outside) (by rw [point]; exact hl) ho may]
    obtain ⟨position, seat⟩ := crossed_position a (moveTarget (axisPos a s) step) t1 n s
    have served := served_considerReport wheel (cross a (moveTarget (axisPos a s) step) t1 n s)
    have placing := placing_considerReport wheel (cross a (moveTarget (axisPos a s) step) t1 n s)
    have focus := considerReport_focus wheel (cross a (moveTarget (axisPos a s) step) t1 n s)
    have asked : wakeAsked (s.ports[n].link = .suspended) n s (cross a (moveTarget (axisPos a s) step) t1 n s) →
        wakeAsked (s.ports[n].link = .suspended) n s
          (considerReport wheel (cross a (moveTarget (axisPos a s) step) t1 n s)) := fun k => wakeAsked_considerReport k wheel
    rw [focus, served.px, served.py, served.seat, served.remembered]
    by_cases hn : n = f
    · subst hn
      have own : (cross a (moveTarget (axisPos a s) step) t1 n s).focus = s.focus := by
        obtain ⟨glide, e, -⟩ := crossed_keeps a (moveTarget (axisPos a s) step) t1 n s
        rw [cross_own hf, e]
      rw [own]
      exact ⟨position, seat, hf, hm, fun _ => rfl, fun h => absurd rfl h⟩
    · have entered := crossedOver_cross (a := a) (p := moveTarget (axisPos a s) step) (t := t1) hf hn
      exact ⟨position, seat, entered.focused, entered.mode.trans hm, fun h => absurd h hn, fun _ =>
        ⟨entered.previous, entered.remembered, entered.released, placing.heard.announced entered.announced, asked entered.wake⟩⟩
  · rw [considerReport_focus] at hu
    have plain : (moveAxis a step s).ports = s.ports ∧ (moveAxis a step s).focus.beliefs = s.focus.beliefs ∧
        (moveAxis a step s).glide.lastAbs = s.glide.lastAbs := by
      have set : ∀ p, (setAxis a p s).ports = s.ports ∧ (setAxis a p s).focus.beliefs = s.focus.beliefs ∧
          (setAxis a p s).glide.lastAbs = s.glide.lastAbs := fun p => by
        obtain ⟨glide, e, -, lastAbs⟩ := setAxis_keeps a p s
        rw [e]
        exact ⟨rfl, rfl, lastAbs⟩
      rcases moveAxis_cases a step ht with ⟨-, e⟩ | e | ⟨t1, n, -, -, e⟩
      · rw [e]
        exact set _
      · rw [e]
        exact set _
      · rw [e] at hu ⊢
        by_cases hn : n = f
        · subst hn
          obtain ⟨glide, e, -, -, -, -, lastAbs⟩ := crossed_keeps a (moveTarget (axisPos a s) step) t1 n s
          rw [cross_own hf, e]
          exact ⟨rfl, rfl, lastAbs⟩
        · have entered := crossedOver_cross (a := a) (p := moveTarget (axisPos a s) step) (t := t1) hf hn
          exact absurd (Option.some.inj (entered.focused.symm.trans hu)) hn
    obtain ⟨ports, beliefs, lastAbs⟩ := plain
    exact reportDue_considerReport wheel ports beliefs lastAbs (quiet_moveAxis a step s).now

/-- What a report leaves of the desk and the position told. -/
structure ReportKept (s u : State) : Prop where
  quiet : Quiet s u
  told : positionTold u

/-- The first part of O30: a motion along one axis. -/
theorem glide_oneAxis {c : ConsoleNo} {r : PointerInput} {s : State} {t : Tile} {f : Computer} (h : Gliding c r s t f)
    (vertical : Bool) (other : (if vertical then r.dx else r.dy) = 0) :
    let a : Axis := if vertical then .y else .x
    let step := scaleStep s.tables.pointer[c] (clampMotion (if vertical then r.dy else r.dx))
    ∃ u, exec (.pointerReport c r) s = .next u ∧ ReportKept s u ∧
      MovedTo (alongAxis a (moveTarget (axisPos a s) step) s) (alongAxis a (tileEdge a step t) s) t f (clampWheel r.wheel) s u := by
  have kept : ReportKept s (considerReport (clampWheel r.wheel) (glideMoved c r s)) :=
    ⟨(quiet_glideMoved c r s).trans (quiet_considerReport _ _), positionTold_considerReport⟩
  refine ⟨_, exec_glides h.glides h.moves, kept, ?_⟩
  cases vertical with
  | true =>
    rw [glideMoved_vertical h.onTile other]
    exact movedTo_moveAxis .y _ _ h.tile h.mode h.focus
  | false =>
    rw [glideMoved_horizontal h.tables.deskOk h.onTile other]
    exact movedTo_moveAxis .x _ _ h.tile h.mode h.focus

theorem stepOf_eq (e : PointerEntry) (d : Int) : stepOf e d = scaleStep e d := rfl

/-- The first part of O30, as the obligation has it. -/
theorem glide_along {c : ConsoleNo} {r : PointerInput} {s : State} {t : Tile} {f : Computer} (vertical : Bool)
    (h : Gliding c r s t f) (other : (if vertical then r.dx else r.dy) = 0) :
    let step := stepOf s.tables.pointer[c] (max (-2047) (min 2047 (if vertical then r.dy else r.dx)))
    let wheel := max (-127) (min 127 r.wheel)
    let start := if vertical then s.glide.py else s.glide.px
    let moved := fun (p : Nat) => if vertical then (s.glide.px, p) else (p, s.glide.py)
    let low := if vertical then t.y else t.x
    let size := if vertical then t.h else t.w
    ∃ u, exec (.pointerReport c r) s = .next u ∧ ReportKept s u ∧
      MovedTo (moved (max 0 (min 524287 ((start : Int) + step))).toNat)
        (moved (if step < 0 then 16 * low else 16 * (low + size) - 1)) t f wheel s u := by
  obtain ⟨u, hu, kept, moved⟩ := glide_oneAxis h vertical other
  refine ⟨u, hu, kept, ?_⟩
  cases vertical <;> exact moved

end Sys2Proof.Machine
end


section
/-! ## Motion in GLIDE along both axes (R52) -/

namespace Sys2Proof.Machine

/-! ### What steers a motion -/

/-- The records that steer a motion are the same: of the pointer all but the positions told last, of the ports the wake fields. -/
structure Steers (s t : State) : Prop where
  focus : t.focus = s.focus
  typeout : t.typeout = s.typeout
  glide : t.glide = { s.glide with lastAbs := t.glide.lastAbs }
  tables : t.tables = s.tables
  screens : screensKept s t
  buttons : t.console.deskButtons = s.console.deskButtons
  wake : WakeStill s t

theorem Steers.refl (s : State) : Steers s s := ⟨rfl, rfl, rfl, rfl, screensKept_refl s, rfl, .refl s⟩

theorem screensKept_symm {s t : State} (h : screensKept s t) : screensKept t s := fun sc => by
  obtain ⟨h1, h2, h3, h4, h5, h6, h7⟩ := h sc
  exact ⟨h1.symm, h2.symm, h3.symm, h4.symm, h5.symm, h6.symm, h7.symm⟩

theorem SameWake.symm {p q : Port} (h : SameWake p q) : SameWake q p :=
  ⟨h.link.symm, h.remoteWake.symm, h.settle.symm, h.deferred.symm, h.attempt.symm, h.lastWake.symm, h.indicators.symm⟩

theorem Steers.symm {s t : State} (h : Steers s t) : Steers t s :=
  ⟨h.focus.symm, h.typeout.symm, by rw [h.glide], h.tables.symm, screensKept_symm h.screens, h.buttons.symm,
    fun m => (h.wake m).symm⟩

theorem Steers.trans {s t u : State} (h : Steers s t) (k : Steers t u) : Steers s u :=
  ⟨k.focus.trans h.focus, k.typeout.trans h.typeout, by rw [k.glide, h.glide], k.tables.trans h.tables,
    screensKept_trans h.screens k.screens, k.buttons.trans h.buttons, h.wake.trans k.wake⟩

theorem Steers.px {s t : State} (h : Steers s t) : t.glide.px = s.glide.px := by rw [h.glide]
theorem Steers.py {s t : State} (h : Steers s t) : t.glide.py = s.glide.py := by rw [h.glide]
theorem Steers.seat {s t : State} (h : Steers s t) : t.glide.seat = s.glide.seat := by rw [h.glide]
theorem Steers.remembered {s t : State} (h : Steers s t) : t.glide.remembered = s.glide.remembered := by rw [h.glide]

theorem Steers.still {s t : State} (h : Steers s t) : DeskStill s t :=
  ⟨by rw [h.tables], fun c => by rw [h.tables], fun n => by rw [h.tables], fun sc => (h.screens sc).1,
    fun sc => (h.screens sc).2.2.2.1, h.px, h.py, h.seat⟩

/-- Operations whose outcome in these records they alone determine. -/
def Steered (f : State → State) : Prop :=
  ∀ s t, Steers s t → Steers (f s) (f t)

theorem Steered.comp {f g : State → State} (hg : Steered g) (hf : Steered f) : Steered fun s => g (f s) :=
  fun s t h => hg _ _ (hf s t h)

/-- An operation that leaves these records. -/
theorem steered_of_leaves {f : State → State} (h : ∀ s, Steers s (f s)) : Steered f :=
  fun s t k => (h s).symm.trans (k.trans (h t))

/-! ### Operations that leave what steers a motion -/

theorem steers_considerReport (wheel) (s : State) : Steers s (considerReport wheel s) := by
  have served := served_considerReport wheel s
  have placing := placing_considerReport wheel s
  refine ⟨considerReport_focus wheel s, placing.typeout, served.glide, served.tables, fun sc => ?_,
    (quiet_considerReport wheel s).deskButtons, placing.wake⟩
  rw [served.screens]
  exact screensKept_refl s sc

theorem steers_raise (e) (s : State) : Steers s (raise e s) :=
  ⟨rfl, rfl, rfl, rfl, screensKept_refl s, rfl, (noticesOnly_raise e s).wakeStill⟩

theorem steers_announceFocus (s : State) : Steers s (announceFocus s) :=
  ⟨rfl, rfl, rfl, rfl, screensKept_recomputeFrames (raise .focus s), rfl, (announceFocus_ports s).wakeStill⟩

/-! ### Operations that these records determine -/

theorem steers_setBelief {s t : State} (h : Steers s t) (n : Computer) (b : Belief) :
    Steers (s.setBelief n b) (t.setBelief n b) := by
  refine ⟨?_, h.typeout, h.glide, h.tables, h.screens, h.buttons, h.wake⟩
  show ({ t.focus with beliefs := t.focus.beliefs.set n b } : FocusCtl) = { s.focus with beliefs := s.focus.beliefs.set n b }
  rw [h.focus]

theorem steers_modPort {s t : State} (h : Steers s t) {n : Computer} {f g : Port → Port}
    (k : SameWake (f s.ports[n]) (g t.ports[n])) : Steers (s.modPort n f) (t.modPort n g) := by
  refine ⟨h.focus, h.typeout, h.glide, h.tables, h.screens, h.buttons, fun m => ?_⟩
  by_cases e : n = m
  · subst e
    rw [State.modPort_port, State.modPort_port]
    exact k
  · rw [State.modPort_port_ne s f e, State.modPort_port_ne t g e]
    exact h.wake m

/-- Changes of a port that leave its wake fields. -/
theorem steers_tellPort {s t : State} (h : Steers s t) {n : Computer} {f g : Port → Port} (hf : ∀ p, SameWake p (f p))
    (hg : ∀ p, SameWake p (g p)) : Steers (s.modPort n f) (t.modPort n g) :=
  steers_modPort h ((hf _).symm.trans ((h.wake n).trans (hg _)))

theorem steers_setTypeout {s t : State} (h : Steers s t) (m : Typeout) : Steers (s.setTypeout m) (t.setTypeout m) :=
  ⟨h.focus, rfl, h.glide, h.tables, h.screens, h.buttons, h.wake⟩

theorem steered_releaseTyped (n : Computer) (ch : Pressed) : Steered (releaseTyped n ch) := fun s t h => by
  unfold releaseTyped
  dsimp only
  rw [h.focus]
  split
  · exact h
  · exact steers_tellPort (steers_setBelief h n _) (fun p => sameWake_tellReleases _ _ _ p)
      fun p => sameWake_tellReleases _ _ _ p

theorem steered_releaseIfPressed : Steered releaseIfPressed := fun s t h => by
  by_cases k : ∃ f pc ch, s.typeout.target = some f ∧ s.typeout.pacing = some pc ∧ pc.pressed = some ch
  · obtain ⟨f, pc, ch, hf, hp, hc⟩ := k
    rw [releaseIfPressed_pressed hf hp hc, releaseIfPressed_pressed (s := t) (by rw [h.typeout]; exact hf)
      (by rw [h.typeout]; exact hp) hc]
    exact steered_releaseTyped f ch s t h
  · have none : ∀ f pc ch, s.typeout.target = some f → s.typeout.pacing = some pc → pc.pressed ≠ some ch :=
      fun f pc ch hf hp hc => k ⟨f, pc, ch, hf, hp, hc⟩
    rw [releaseIfPressed_unpressed none, releaseIfPressed_unpressed (s := t) (by rw [h.typeout]; exact none)]
    exact h

theorem steered_endTypeout (e : TypeEnd) : Steered (endTypeout e) := fun s t h => by
  by_cases k : s.typeout.state = .typing
  · have ended : ∀ u : State, u.typeout.state = .typing →
        endTypeout e u = raise .typeout ((releaseIfPressed u).setTypeout ((releaseIfPressed u).typeout.ended e)) :=
      fun u hu => by
        unfold endTypeout
        rw [if_pos hu]
    have released := steered_releaseIfPressed s t h
    rw [ended s k, ended t (by rw [h.typeout]; exact k), released.typeout]
    exact steered_of_leaves (steers_raise .typeout) _ _ (steers_setTypeout released _)
  · rw [endTypeout_idle k, endTypeout_idle (s := t) (by rw [h.typeout]; exact k)]
    exact h

theorem steered_releaseBelief (n : Computer) : Steered (releaseBelief n) := fun s t h => by
  rw [releaseBelief_eq, releaseBelief_eq]
  exact steers_tellPort (steers_setBelief h n _) (fun p => sameWake_toldRelease _ _ p) fun p => sameWake_toldRelease _ _ p

theorem steered_focusLeft : Steered focusLeft := fun s t h => by
  have ended := steered_endTypeout .cancelledFocus s t h
  show Steers (releaseOldFocus (endTypeout .cancelledFocus s)) (releaseOldFocus (endTypeout .cancelledFocus t))
  unfold releaseOldFocus
  rw [ended.focus]
  split
  · exact ended
  · split
    · exact ended
    · exact steered_releaseBelief _ _ _ ended

/-! ### Wake requests -/

theorem steered_refuseWake (n : Computer) : Steered (refuseWake n) := fun s t h => by
  have refused : SameWake s.ports[n].refuseWake t.ports[n].refuseWake := by
    have k := h.wake n
    rw [refuseWake_eq, refuseWake_eq]
    exact ⟨k.link, k.remoteWake, k.settle, rfl, k.attempt, rfl, k.indicators⟩
  have told : Steers (raise .wake (clearBelief n (s.modPort n Port.refuseWake)))
      (raise .wake (clearBelief n (t.modPort n Port.refuseWake))) :=
    steered_of_leaves (steers_raise .wake) _ _ (steers_setBelief (steers_modPort h refused) n _)
  unfold refuseWake typeoutWakeLost
  rw [told.typeout]
  split
  · exact steered_endTypeout _ _ _ told
  · exact told

theorem steered_startWake (n : Computer) : Steered (startWake n) := fun s t h => by
  have started : SameWake (s.ports[n].startAttempt s.now 1) (t.ports[n].startAttempt t.now 1) :=
    have k := h.wake n
    ⟨rfl, k.remoteWake, k.settle, k.deferred, rfl, k.lastWake, k.indicators⟩
  exact steered_of_leaves (steers_raise .link) _ _ (steers_modPort h started)

theorem steered_wakeRequest (n : Computer) : Steered (wakeRequest n) := fun s t h => by
  have k := h.wake n
  have allowed := wakeAllowed_congr (n := n) (s := s) (t := t) k.remoteWake h.tables
  unfold wakeRequest
  rw [k.link, k.deferred, k.settle, allowed]
  split
  · split
    · split
      · exact h
      · split
        · exact steers_modPort h ⟨k.link, k.remoteWake, k.settle, rfl, k.attempt, k.lastWake, k.indicators⟩
        · exact steered_startWake n s t h
    · exact steered_refuseWake n s t h
  · exact h

theorem steered_wakeOnGlide (n : Computer) : Steered (wakeOnGlide n) := fun s t h => by
  unfold wakeOnGlide
  rw [(h.wake n).link]
  split
  · exact steered_wakeRequest n s t h
  · exact h

theorem steered_wakeOnFocus (n : Computer) : Steered (wakeOnFocus (some n)) := fun s t h => by
  unfold wakeOnFocus
  dsimp only
  rw [(h.wake n).link, h.tables]
  split
  · exact steered_wakeRequest n s t h
  · exact h

/-! ### Focus changes and crossings -/

theorem steered_rememberHanded (handed) : Steered (rememberHanded handed) := fun s t h => by
  unfold rememberHanded
  rw [h.focus]
  split
  · refine ⟨h.focus, h.typeout, ?_, h.tables, h.screens, h.buttons, h.wake⟩
    show ({ t.glide with remembered := t.glide.remembered.set _ _ } : Glide) = _
    rw [h.glide]
    rfl
  · exact h

theorem steered_setFocusTo (n : Computer) : Steered (setFocusTo (some n)) := fun s t h => by
  have hs := focusSet_setFocusTo n s
  have ht := focusSet_setFocusTo n t
  have qs := quiet_setFocusTo (some n) s
  have qt := quiet_setFocusTo (some n) t
  refine ⟨by rw [hs.focus, ht.focus, h.focus], by rw [hs.typeout, ht.typeout, h.typeout], ?_,
    by rw [hs.tables, ht.tables, h.tables], screensKept_trans (screensKept_symm hs.screens) (screensKept_trans h.screens ht.screens),
    by rw [qs.deskButtons, qt.deskButtons, h.buttons], fun m => ?_⟩
  · rw [hs.glide, ht.glide]
    exact h.glide
  · exact (hs.ports.wakeStill m).symm.trans ((h.wake m).trans (ht.ports.wakeStill m))

theorem steered_focusChangePlaced (n : Computer) (handed) : Steered (focusChangePlaced n handed) := fun s t h => by
  by_cases hf : s.focus.focus = some n
  · rw [show focusChangePlaced n handed s = s from if_pos hf,
      show focusChangePlaced n handed t = t from if_pos (by rw [h.focus]; exact hf)]
    exact h
  · rw [focusChangePlaced_eq handed hf, focusChangePlaced_eq handed (by rw [h.focus]; exact hf)]
    exact steered_of_leaves steers_announceFocus _ _ (steered_wakeOnFocus n _ _ (steered_setFocusTo n _ _
      (steered_rememberHanded handed _ _ (steered_focusLeft _ _ h))))

theorem steered_setAxis (a : Axis) (p : Nat) : Steered (setAxis a p) := fun s t h => by
  cases a
  all_goals
    refine ⟨h.focus, h.typeout, ?_, h.tables, h.screens, h.buttons, h.wake⟩
    unfold setAxis
    dsimp only [State.setGlide]
    rw [h.glide]

theorem steered_crossed (a : Axis) (p : Nat) (tile : Tile) (n : Computer) : Steered (crossed a p tile n) := fun s t h => by
  have k := steered_setAxis a p s t h
  refine ⟨k.focus, k.typeout, ?_, k.tables, k.screens, k.buttons, k.wake⟩
  unfold crossed
  dsimp only [State.setGlide]
  rw [k.glide]

theorem steered_cross (a : Axis) (p : Nat) (tile : Tile) (n : Computer) : Steered (cross a p tile n) := fun s t h => by
  have k := steered_crossed a p tile n s t h
  by_cases hf : s.focus.focus = some n
  · rw [cross_own hf, cross_own (s := t) (by rw [h.focus]; exact hf)]
    exact k
  · rw [cross_other hf, cross_other (s := t) (by rw [h.focus]; exact hf), h.px, h.py]
    exact steered_focusChangePlaced n _ _ _ (steered_wakeOnGlide n _ _ k)

theorem crossingPermitted_congr {s t : State} (h : Steers s t) (n : Computer) : crossingPermitted n t = crossingPermitted n s := by
  unfold crossingPermitted
  rw [h.focus, h.buttons, (h.wake n).link, h.tables]

/-- A motion along an axis is determined by what steers it (R52). -/
theorem steered_moveAxis (a : Axis) (step : Int) : Steered (moveAxis a step) := fun s t h => by
  have position : axisPos a t = axisPos a s := by
    cases a
    · exact h.px
    · exact h.py
  have point : ∀ p, axisPoint a p t = axisPoint a p s := fun p => by
    unfold axisPoint
    rw [h.px, h.py]
  unfold moveAxis
  rw [h.still.seatTile, position]
  cases seatTile s with
  | none => exact h
  | some tile =>
    dsimp only
    rw [point]
    split
    · exact steered_setAxis a _ s t h
    · rw [h.still.locate]
      split
      · exact steered_setAxis a _ s t h
      · rw [h.still.liveOwner]
        split
        · exact steered_setAxis a _ s t h
        · rw [crossingPermitted_congr h]
          split
          · exact steered_cross a _ _ _ s t h
          · exact steered_setAxis a _ s t h

theorem steered_glideMoved (c : ConsoleNo) (r : PointerInput) : Steered (glideMoved c r) := fun s t h => by
  unfold glideMoved
  rw [h.tables]
  exact steered_moveAxis .y _ _ _ (steered_moveAxis .x _ s t h)

/-! ### A motion along both axes, and its parts -/

/-- A report in GLIDE comes to what its motion comes to, in the records that steer a motion. -/
theorem exec_glides_steers {c : ConsoleNo} {r : PointerInput} {s : State} {t : Tile} (ok : DeskOk s.tables) (h : Glides c r s)
    (on : OnTile t s) : ∃ u, exec (.pointerReport c r) s = .next u ∧ Steers (glideMoved c r s) u ∧ Quiet s u := by
  by_cases still : motionless r
  · have none : glideMoved c r s = s := by
      rw [glideMoved_horizontal ok on still.2.1, still.1]
      exact (congrArg (fun step => moveAxis .x step s) (scaleStep_zero _)).trans (moveAxis_zero .x on)
    exact ⟨s, exec_motionless h still, by rw [none]; exact .refl s, .refl s⟩
  · exact ⟨_, exec_glides h still, steers_considerReport _ _,
      (quiet_glideMoved c r s).trans (quiet_considerReport _ _)⟩

/-- A crossing leaves the mode (R28). -/
theorem moveAxis_mode (a : Axis) (step : Int) {s : State} {t : Tile} (ht : seatTile s = some t) :
    (moveAxis a step s).focus.mode = s.focus.mode := by
  have set : ∀ p, (setAxis a p s).focus = s.focus := fun p => (setAxis_deskOk a p s).2.2.1
  rcases moveAxis_cases a step ht with ⟨-, e⟩ | e | ⟨t1, n, -, -, e⟩
  · rw [e, set]
  · rw [e, set]
  · obtain ⟨glide, ec, -⟩ := crossed_keeps a (moveTarget (axisPos a s) step) t1 n s
    rw [e]
    by_cases hf : s.focus.focus = some n
    · rw [cross_own hf, ec]
    · rw [cross_other hf, (focusChangePlaced_still n _ _).2.2, (served_wakeOnGlide n _).mode, ec]

/-- The second part of O30: the x part of a motion, and then its y part (R52). -/
theorem glide_bothAxes {c : ConsoleNo} {r : PointerInput} {s : State} {t : Tile} {f : Computer} (h : Gliding c r s t f) :
    ∃ u v w, exec (.pointerReport c r) s = .next u ∧
      exec (.pointerReport c { r with dy := 0, wheel := 0 }) s = .next v ∧
      exec (.pointerReport c { r with dx := 0, wheel := 0 }) v = .next w ∧ Steers u w ∧ positionTold u := by
  have ok := h.tables.deskOk
  obtain ⟨t1, on1⟩ := onTile_moveAxis .x (scaleStep s.tables.pointer[c] (clampMotion r.dx)) ok h.onTile
  have mode1 := moveAxis_mode .x (scaleStep s.tables.pointer[c] (clampMotion r.dx)) h.tile
  obtain ⟨v, hv, steers1, quiet1⟩ := exec_glides_steers (r := { r with dy := 0, wheel := 0 }) ok
    ⟨h.unlocked, h.mode, h.buttons⟩ h.onTile
  rw [glideMoved_horizontal ok h.onTile (show ({ r with dy := 0, wheel := 0 } : PointerInput).dy = 0 from rfl)] at steers1
  have on2 : OnTile t1 v := on1.still steers1.still
  have glides2 : Glides c { r with dx := 0, wheel := 0 } v :=
    ⟨by rw [quiet1.lock]; exact h.unlocked, by rw [steers1.focus]; exact mode1.trans h.mode,
      buttonsSame_later h.buttons (quiet1.codes c) (quiet1.buttons c)⟩
  obtain ⟨w, hw, steers2, -⟩ := exec_glides_steers (by rw [quiet1.tables]; exact ok) glides2 on2
  rw [glideMoved_vertical on2 (show ({ r with dx := 0, wheel := 0 } : PointerInput).dx = 0 from rfl), quiet1.tables] at steers2
  have both := steered_moveAxis .y (scaleStep s.tables.pointer[c] (clampMotion r.dy)) _ _ steers1
  exact ⟨_, v, w, exec_glides h.glides h.moves, hv, hw,
    (steers_considerReport _ _).symm.trans (both.trans steers2), positionTold_considerReport⟩

/-- Settles O30: a motion along one axis by its three outcomes and its report; the parts of a motion along both, each steered
by the same records. -/
theorem pointerGlidesAndCrosses : Obligations.PointerGlidesAndCrosses := by
  unfold Obligations.PointerGlidesAndCrosses
  refine ⟨fun vertical c r s t f h other => ?_, fun c r s t f h => ?_⟩
  · obtain ⟨u, hu, kept, moved⟩ := glide_along vertical h other
    exact ⟨u, hu, kept.quiet.tables, kept.quiet.channels, kept.quiet.lock, kept.quiet.deskKeys, kept.quiet.deskButtons,
      kept.told, moved.stays, moved.stops, moved.crosses, moved.report⟩
  · obtain ⟨u, v, w, hu, hv, hw, steers, told⟩ := glide_bothAxes h
    exact ⟨u, v, w, hu, hv, hw, steers.px.symm, steers.py.symm, steers.seat.symm, steers.remembered.symm, steers.focus.symm,
      steers.typeout.symm, told⟩

end Sys2Proof.Machine
end


section
/-! ## What the owners do is independent of the reply slots (R160, R161) -/

namespace Sys2Proof.Machine

variable {p : Computer} {v : ReplySlot} {s : State}

/-! ### The ports -/

theorem setSlot_port (n : Computer) :
    (setSlot p v s).ports[n] = { s.ports[n] with slot := ((setSlot p v s).ports[n]).slot } := by
  unfold setSlot
  by_cases h : p = n
  · subst h
    rw [State.modPort_port]
  · rw [State.modPort_port_ne _ _ h]

theorem setSlot_link (n : Computer) : (setSlot p v s).ports[n].link = s.ports[n].link := by rw [setSlot_port]
theorem setSlot_deferred (n : Computer) : (setSlot p v s).ports[n].deferred = s.ports[n].deferred := by rw [setSlot_port]
theorem setSlot_settle (n : Computer) : (setSlot p v s).ports[n].settle = s.ports[n].settle := by rw [setSlot_port]
theorem setSlot_remoteWake (n : Computer) : (setSlot p v s).ports[n].remoteWake = s.ports[n].remoteWake := by rw [setSlot_port]
theorem setSlot_indicators (n : Computer) : (setSlot p v s).ports[n].indicators = s.ports[n].indicators := by rw [setSlot_port]

/-- A change of a port that reads and writes no slot. -/
def SlotFree (f : Port → Port) : Prop :=
  ∀ (q : Port) (w : ReplySlot), f { q with slot := w } = { f q with slot := w }

theorem modPort_setSlot {n : Computer} {f : Port → Port} (hf : SlotFree f) :
    (setSlot p v s).modPort n f = setSlot p v (s.modPort n f) := by
  have ports : ((setSlot p v s).modPort n f).ports = (setSlot p v (s.modPort n f)).ports := by
    refine Vector.ext fun i hi => ?_
    have at_i : ∀ m : Computer, ((setSlot p v s).modPort n f).ports[m] = (setSlot p v (s.modPort n f)).ports[m] := fun m => by
      unfold setSlot
      by_cases hm : n = m
      · subst hm
        rw [State.modPort_port]
        by_cases hp : p = n
        · subst hp
          rw [State.modPort_port, State.modPort_port, State.modPort_port]
          exact hf _ v
        · rw [State.modPort_port_ne _ _ hp, State.modPort_port_ne _ _ hp, State.modPort_port]
      · rw [State.modPort_port_ne _ _ hm]
        by_cases hp : p = m
        · subst hp
          rw [State.modPort_port, State.modPort_port, State.modPort_port_ne _ _ hm]
        · rw [State.modPort_port_ne _ _ hp, State.modPort_port_ne _ _ hp, State.modPort_port_ne _ _ hm]
    exact at_i ⟨i, hi⟩
  exact congrArg s.setPorts ports

theorem slotFree_addSnapshot (now keys) : SlotFree (Port.addSnapshot now keys) := fun q w => by
  unfold Port.addSnapshot
  dsimp only
  split <;> rfl

theorem slotFree_addPointer (now r) : SlotFree (Port.addPointer now r) := fun q w => by
  unfold Port.addPointer
  dsimp only
  split
  · rfl
  · split
    · rfl
    · split <;> rfl

theorem slotFree_takePointer (now r) : SlotFree (Port.takePointer now r) := fun q w => by
  have held : Port.holdReport r { q with slot := w } = { q.holdReport r with slot := w } := by
    unfold Port.holdReport
    dsimp only
    split <;> rfl
  unfold Port.takePointer
  dsimp only
  split
  · exact slotFree_addPointer now r q w
  · exact held
  · exact held
  all_goals rfl

theorem slotFree_tellReleases (now released left) : SlotFree (Port.tellReleases now released left) := fun q w => by
  unfold Port.tellReleases
  show (if q.link = .ready then _ else if q.queuesKeys = true then _ else _) = _
  split
  · exact slotFree_addSnapshot now left q w
  · split <;> rfl

theorem slotFree_toldRelease (now b) : SlotFree (toldRelease now b) := fun q w => by
  unfold toldRelease
  dsimp only
  show (if q.link = .ready then _ else if q.queuesKeys = true then _ else _) = _
  split
  · have keys : (if b.keys = [] then { q with slot := w } else Port.addSnapshot now [] { q with slot := w }) =
        { if b.keys = [] then q else q.addSnapshot now [] with slot := w } := by
      split
      · rfl
      · exact slotFree_addSnapshot now [] q w
    rw [keys]
    split
    · rfl
    · exact slotFree_addPointer now _ _ w
  · split <;> rfl

theorem slotFree_refuseWake : SlotFree Port.refuseWake := fun q w => by
  rw [refuseWake_eq, refuseWake_eq]

/-! ### Events, lamps and frame kinds -/

theorem announce_slot (a b : EventSet) (g : Nat) : SlotFree (Port.announce a b g) := fun q w => by
  unfold Port.announce
  dsimp only
  split <;> rfl

theorem raise_setSlot (e : EventKind) : raise e (setSlot p v s) = setSlot p v (raise e s) := by
  have told : ∀ (u : State) (m : Computer), (raise e u).ports[m] = u.ports[m].announce
      (u.mgmt.summaries[m] &&& u.mgmt.masks[m]) (summaryAfter e u m &&& u.mgmt.masks[m]) u.mgmt.generation := fun u m => by
    simp [raise]
  have at_m : ∀ m : Computer, (raise e (setSlot p v s)).ports[m] = (setSlot p v (raise e s)).ports[m] := fun m => by
    rw [told]
    unfold setSlot
    by_cases hp : p = m
    · subst hp
      rw [State.modPort_port, State.modPort_port, told]
      exact announce_slot _ _ _ _ v
    · rw [State.modPort_port_ne _ _ hp, State.modPort_port_ne _ _ hp, told]
      rfl
  exact congrArg (raise e s).setPorts (Vector.ext fun i hi => at_m ⟨i, hi⟩)

theorem recomputeFrames_setSlot : recomputeFrames (setSlot p v s) = setSlot p v (recomputeFrames s) := rfl

theorem setAlertList_setSlot (l) : setAlertList l (setSlot p v s) = setSlot p v (setAlertList l s) := by
  by_cases h : l = s.alerts.list
  · rw [show setAlertList l s = s from if_pos h]
    exact if_pos h
  · rw [setAlertList_changed h, setAlertList_changed (s := setSlot p v s) h]
    exact congrArg recomputeFrames (raise_setSlot (s := s.setAlerts { s.alerts with list := l }) .alert)

theorem freshEvaluate_setSlot (n : Computer) : freshEvaluate n (setSlot p v s) = setSlot p v (freshEvaluate n s) := by
  have list : freshList (setSlot p v s) n = freshList s n := by
    unfold freshList
    rw [setSlot_indicators]
    rfl
  have source : freshSource (setSlot p v s) n = freshSource s n := by
    unfold freshSource
    rw [setSlot_indicators]
    rfl
  unfold freshEvaluate
  rw [list, source]
  exact setAlertList_setSlot (s := setSource n (freshSource s n) s) _

theorem dropAlert_setSlot (n : Computer) : dropAlert n (setSlot p v s) = setSlot p v (dropAlert n s) :=
  setAlertList_setSlot _

theorem syncMirror_setSlot : syncMirror (setSlot p v s) = setSlot p v (syncMirror s) := by
  have lamps : mirrorSource (setSlot p v s) = mirrorSource s := by
    unfold mirrorSource
    rw [show (setSlot p v s).focus = s.focus from rfl]
    cases s.focus.focus with
    | none => rfl
    | some n => exact setSlot_indicators n
  unfold syncMirror
  rw [lamps]
  by_cases h : mirrorSource s = s.console.mirrored
  · rw [if_pos h]
    exact if_pos h
  · rw [if_neg h]
    exact if_neg h

/-! ### Belief sets and type-outs -/

theorem releaseBelief_setSlot (n : Computer) : releaseBelief n (setSlot p v s) = setSlot p v (releaseBelief n s) := by
  rw [releaseBelief_eq, releaseBelief_eq]
  exact modPort_setSlot (s := clearBelief n s) (slotFree_toldRelease s.now s.focus.beliefs[n])

theorem releaseTyped_setSlot (n : Computer) (ch : Pressed) :
    releaseTyped n ch (setSlot p v s) = setSlot p v (releaseTyped n ch s) := by
  by_cases h : s.focus.beliefs[n].keys.filter (fun k => decide (k ∈ ch.keys)) = []
  · rw [show releaseTyped n ch s = s from if_pos h]
    exact if_pos h
  · unfold releaseTyped
    dsimp only
    rw [if_neg h]
    exact (if_neg h).trans (modPort_setSlot (s := s.setBelief n _) (slotFree_tellReleases _ _ _))

theorem releaseIfPressed_setSlot : releaseIfPressed (setSlot p v s) = setSlot p v (releaseIfPressed s) := by
  by_cases h : ∃ f pc ch, s.typeout.target = some f ∧ s.typeout.pacing = some pc ∧ pc.pressed = some ch
  · obtain ⟨f, pc, ch, hf, hp, hc⟩ := h
    rw [releaseIfPressed_pressed hf hp hc, ← releaseTyped_setSlot]
    exact releaseIfPressed_pressed (s := setSlot p v s) hf hp hc
  · have none : ∀ f pc ch, s.typeout.target = some f → s.typeout.pacing = some pc → pc.pressed ≠ some ch :=
      fun f pc ch hf hp hc => h ⟨f, pc, ch, hf, hp, hc⟩
    rw [releaseIfPressed_unpressed none]
    exact releaseIfPressed_unpressed (s := setSlot p v s) none

theorem endTypeout_setSlot (e : TypeEnd) : endTypeout e (setSlot p v s) = setSlot p v (endTypeout e s) := by
  by_cases h : s.typeout.state = .typing
  · unfold endTypeout
    rw [if_pos h, releaseIfPressed_setSlot]
    exact (if_pos h).trans (raise_setSlot
      (s := (releaseIfPressed s).setTypeout ((releaseIfPressed s).typeout.ended e)) .typeout)
  · rw [endTypeout_idle h]
    exact endTypeout_idle h

theorem releaseOldFocus_setSlot : releaseOldFocus (setSlot p v s) = setSlot p v (releaseOldFocus s) := by
  unfold releaseOldFocus
  rw [show (setSlot p v s).focus = s.focus from rfl]
  cases s.focus.focus with
  | none => rfl
  | some f =>
    dsimp only
    split
    · rfl
    · exact releaseBelief_setSlot f

theorem focusLeft_setSlot : focusLeft (setSlot p v s) = setSlot p v (focusLeft s) := by
  unfold focusLeft
  rw [endTypeout_setSlot, releaseOldFocus_setSlot]

/-! ### Wake requests -/

theorem refuseWake_setSlot (n : Computer) : refuseWake n (setSlot p v s) = setSlot p v (refuseWake n s) := by
  have told : raise .wake (clearBelief n ((setSlot p v s).modPort n Port.refuseWake)) =
      setSlot p v (raise .wake (clearBelief n (s.modPort n Port.refuseWake))) := by
    rw [modPort_setSlot slotFree_refuseWake]
    exact raise_setSlot (s := clearBelief n (s.modPort n Port.refuseWake)) .wake
  unfold refuseWake typeoutWakeLost
  rw [told]
  generalize raise .wake (clearBelief n (s.modPort n Port.refuseWake)) = u
  show (if u.typeout.sub = some .waitingWake ∧ u.typeout.target = some n then _ else _) = _
  split
  · exact endTypeout_setSlot _
  · rfl

theorem startWake_setSlot (n : Computer) : startWake n (setSlot p v s) = setSlot p v (startWake n s) := by
  unfold startWake
  rw [show (setSlot p v s).now = s.now from rfl, modPort_setSlot (fun _ _ => rfl), raise_setSlot]

theorem wakeRequest_setSlot (n : Computer) : wakeRequest n (setSlot p v s) = setSlot p v (wakeRequest n s) := by
  have allowed : wakeAllowed n (setSlot p v s) = wakeAllowed n s := wakeAllowed_congr (setSlot_remoteWake n) rfl
  unfold wakeRequest
  rw [setSlot_link, setSlot_deferred, setSlot_settle, allowed]
  split
  · split
    · split
      · rfl
      · split
        · exact modPort_setSlot fun _ _ => rfl
        · exact startWake_setSlot n
    · exact refuseWake_setSlot n
  · rfl

theorem wakeOnFocus_setSlot (n : Option Computer) : wakeOnFocus n (setSlot p v s) = setSlot p v (wakeOnFocus n s) := by
  unfold wakeOnFocus
  cases n with
  | none => rfl
  | some n =>
    dsimp only
    rw [setSlot_link]
    show (if s.ports[n].link = .suspended ∧ s.tables.options.wakeOnFocus then _ else _) = _
    split
    · exact wakeRequest_setSlot n
    · rfl

/-! ### The pointer -/

theorem handAbsolute_setSlot (n : Computer) (pos wheel) :
    handAbsolute n pos wheel (setSlot p v s) = setSlot p v (handAbsolute n pos wheel s) := by
  unfold handAbsolute
  dsimp only
  rw [setSlot_link]
  split
  · rw [show (setSlot p v s).focus.beliefs[n] = s.focus.beliefs[n] from rfl, show (setSlot p v s).now = s.now from rfl,
      modPort_setSlot (slotFree_takePointer _ _)]
    rfl
  · rfl

theorem considerReport_setSlot (wheel) : considerReport wheel (setSlot p v s) = setSlot p v (considerReport wheel s) := by
  have here : ∀ n, absoluteHere (setSlot p v s) n = absoluteHere s n := fun _ => rfl
  have withheld : ∀ n, withheldPosition (setSlot p v s) n = withheldPosition s n := fun _ => rfl
  unfold considerReport
  rw [show (setSlot p v s).glide = s.glide from rfl]
  cases s.glide.seat with
  | none => rfl
  | some seat =>
    dsimp only
    rw [here, withheld]
    split
    · split
      · rfl
      · exact handAbsolute_setSlot _ _ _
    · split
      · exact handAbsolute_setSlot _ _ _
      · rfl

theorem considerPosition_setSlot : considerPosition (setSlot p v s) = setSlot p v (considerPosition s) := by
  unfold considerPosition
  show (if s.focus.mode = .glide then _ else _) = _
  split
  · exact considerReport_setSlot 0
  · rfl

theorem setMode_setSlot (m) : setMode m (setSlot p v s) = setSlot p v (setMode m s) := by
  cases m <;> rfl

theorem rememberHere_setSlot : rememberHere (setSlot p v s) = setSlot p v (rememberHere s) := by
  have owner : seatOwner (setSlot p v s) = seatOwner s := rfl
  unfold rememberHere
  rw [owner, show (setSlot p v s).focus = s.focus from rfl]
  cases s.focus.focus with
  | none => rfl
  | some f =>
    dsimp only
    split <;> rfl

theorem rememberHanded_setSlot (handed) :
    rememberHanded handed (setSlot p v s) = setSlot p v (rememberHanded handed s) := by
  unfold rememberHanded
  rw [show (setSlot p v s).focus = s.focus from rfl]
  cases s.focus.focus with
  | none => rfl
  | some f => cases handed <;> rfl

theorem seatFor_setSlot (n : Option Computer) : seatFor n (setSlot p v s) = setSlot p v (seatFor n s) := by
  have owner : seatOwner (setSlot p v s) = seatOwner s := rfl
  have remembered : ∀ m, rememberedTile (setSlot p v s) m = rememberedTile s m := fun _ => rfl
  have live : ∀ m, firstLiveOf (setSlot p v s) m = firstLiveOf s m := fun _ => rfl
  unfold seatFor
  cases n with
  | none => rfl
  | some n =>
    dsimp only
    rw [owner, remembered, live]
    split
    · rfl
    · split
      · rfl
      · split <;> rfl

/-! ### Focus changes and re-seats -/

theorem setFocusTo_setSlot (n : Option Computer) : setFocusTo n (setSlot p v s) = setSlot p v (setFocusTo n s) := by
  have mirrored : syncMirror (focusMade n (setSlot p v s)) = setSlot p v (syncMirror (focusMade n s)) :=
    syncMirror_setSlot (s := focusMade n s)
  cases n with
  | none => exact mirrored
  | some n =>
    rw [setFocusTo_eq, setFocusTo_eq, mirrored]
    exact setAlertList_setSlot _

theorem announceFocus_setSlot : announceFocus (setSlot p v s) = setSlot p v (announceFocus s) := by
  unfold announceFocus
  rw [raise_setSlot, recomputeFrames_setSlot]

theorem focusChange_setSlot (n : Option Computer) : focusChange n (setSlot p v s) = setSlot p v (focusChange n s) := by
  by_cases h : s.focus.focus = n
  · rw [show focusChange n s = s from if_pos h]
    exact if_pos h
  · have e : ∀ u : State, u.focus.focus ≠ n → focusChange n u = announceFocus (wakeOnFocus n (considerPosition
        (seatFor n (setFocusTo n (rememberHere (focusLeft u)))))) := fun u hu => if_neg hu
    rw [e s h, e (setSlot p v s) h, focusLeft_setSlot, rememberHere_setSlot, setFocusTo_setSlot, seatFor_setSlot,
      considerPosition_setSlot, wakeOnFocus_setSlot, announceFocus_setSlot]

theorem focusChangePlaced_setSlot (n : Computer) (handed) :
    focusChangePlaced n handed (setSlot p v s) = setSlot p v (focusChangePlaced n handed s) := by
  by_cases h : s.focus.focus = some n
  · rw [show focusChangePlaced n handed s = s from if_pos h]
    exact if_pos h
  · rw [focusChangePlaced_eq handed h, focusChangePlaced_eq (s := setSlot p v s) handed h]
    unfold crossingSet
    rw [focusLeft_setSlot, rememberHanded_setSlot, setFocusTo_setSlot, wakeOnFocus_setSlot, announceFocus_setSlot]

theorem actOnReseat_setSlot (o) : actOnReseat o (setSlot p v s) = setSlot p v (actOnReseat o s) := by
  cases o with
  | same => rfl
  | unseated => exact setMode_setSlot .detached
  | moved n =>
    unfold actOnReseat
    dsimp only
    show (if s.focus.focus = some n then _ else if deskEmpty s then _ else _) = _
    split
    · exact setMode_setSlot _
    · split
      · rw [focusChangePlaced_setSlot, setMode_setSlot]
      · exact setMode_setSlot _

theorem reseat_setSlot : reseat (setSlot p v s) = setSlot p v (reseat s) := by
  have stay : stayTile (setSlot p v s) = stayTile s := rfl
  have new : newTile (setSlot p v s) = newTile s := rfl
  have placed : reseatPlace (setSlot p v s) = (setSlot p v (reseatPlace s).1, (reseatPlace s).2) := by
    unfold reseatPlace
    rw [stay, new]
    split
    · rfl
    · split <;> rfl
  unfold reseat
  rw [placed]
  dsimp only
  rw [actOnReseat_setSlot, considerPosition_setSlot]

theorem removeBroadcast_setSlot (n : Computer) :
    removeBroadcast n (setSlot p v s) = setSlot p v (removeBroadcast n s) := by
  have set : ∀ u : State, setBroadcast n false (setSlot p v u) = setSlot p v (setBroadcast n false u) := fun u =>
    raise_setSlot (s := broadcastSet n false u) .focus
  by_cases hb : s.focus.broadcast[n] = true
  · by_cases hf : s.focus.focus = some n
    · rw [removeBroadcast_focused hb hf, removeBroadcast_focused (s := setSlot p v s) hb hf, set]
    · rw [removeBroadcast_member hb hf, removeBroadcast_member (s := setSlot p v s) hb hf, releaseBelief_setSlot, set]
  · have hb := Bool.eq_false_of_not_eq_true hb
    rw [removeBroadcast_stranger hb, removeBroadcast_stranger (s := setSlot p v s) hb]

theorem parkSteps_setSlot (n : Computer) : parkSteps n (setSlot p v s) = setSlot p v (parkSteps n s) := by
  have left : ∀ u : State, leaveParked n (setSlot p v u) = setSlot p v (leaveParked n u) := fun u => by
    have eligible : reachable (setSlot p v u) = reachable u := funext fun m => by
      unfold reachable
      rw [setSlot_link]
      rfl
    unfold leaveParked
    rw [eligible]
    show (if u.focus.focus = some n then focusChange ((nextOrder u.focus.focus).find? (reachable u)) (setSlot p v u) else _) = _
    split
    · exact focusChange_setSlot _
    · rfl
  unfold parkSteps
  rw [removeBroadcast_setSlot, left, dropAlert_setSlot]

end Sys2Proof.Machine
end


section
/-! ## The consequences of a table write are independent of the reply slots (R160, R166) -/

namespace Sys2Proof.Machine

variable {p : Computer} {v : ReplySlot}

theorem foldl_setSlot {α : Type} {f : State → α → State} (hf : ∀ s a, f (setSlot p v s) a = setSlot p v (f s a)) (l : List α) :
    ∀ s : State, l.foldl f (setSlot p v s) = setSlot p v (l.foldl f s) := by
  induction l with
  | nil => exact fun _ => rfl
  | cons a l ih =>
    intro s
    rw [List.foldl_cons, List.foldl_cons, hf, ih]

variable {s : State}

theorem changeTables_setSlot (tb) : changeTables tb (setSlot p v s) = setSlot p v (changeTables tb s) :=
  raise_setSlot (s := (s.setTables tb).setMgmt { s.mgmt with generation := nextGeneration s.mgmt.generation }) .table

theorem afterParked_setSlot (old) (s : State) (n : Computer) :
    afterParked old (setSlot p v s) n = setSlot p v (afterParked old s n) := by
  unfold afterParked
  rw [show (setSlot p v s).tables = s.tables from rfl]
  split
  · split
    · exact parkSteps_setSlot n
    · exact freshEvaluate_setSlot n
  · rfl

theorem afterSource_setSlot (old) (s : State) (n : Computer) :
    afterSource old (setSlot p v s) n = setSlot p v (afterSource old s n) := by
  unfold afterSource
  rw [show (setSlot p v s).tables = s.tables from rfl]
  split
  · exact freshEvaluate_setSlot n
  · rfl

theorem afterComputer_setSlot (old) : afterComputer old (setSlot p v s) = setSlot p v (afterComputer old s) := by
  unfold afterComputer
  rw [show (setSlot p v s).tables = s.tables from rfl]
  dsimp only
  rw [foldl_setSlot (afterParked_setSlot old)]
  split
  · rw [reseat_setSlot, foldl_setSlot (afterSource_setSlot old), recomputeFrames_setSlot]
  · rw [foldl_setSlot (afterSource_setSlot old)]

theorem afterLayout_setSlot (old) : afterLayout old (setSlot p v s) = setSlot p v (afterLayout old s) :=
  reseat_setSlot (s := s.setScreens (Vector.ofFn (layoutScreen old s)))

theorem setRequested_setSlot (sc : ScreenNo) (a) : setRequested sc a (setSlot p v s) = setSlot p v (setRequested sc a s) := by
  unfold setRequested assignScreen
  rw [show (setSlot p v s).screens = s.screens from rfl]
  cases s.screens[sc].peek with
  | some pk => rfl
  | none =>
    dsimp only
    split
    · rfl
    · exact reseat_setSlot (s := putDisplayed sc a s)

theorem afterAssignment_setSlot (w) : afterAssignment w (setSlot p v s) = setSlot p v (afterAssignment w s) :=
  foldl_setSlot (fun _ _ => setRequested_setSlot _ _) _ s

theorem afterChannel_setSlot (old) : afterChannel old (setSlot p v s) = setSlot p v (afterChannel old s) := by
  unfold afterChannel
  rw [show (setSlot p v s).tables = s.tables from rfl]
  split
  · rw [recomputeFrames_setSlot, reseat_setSlot]
  · rfl

theorem afterUnlock_setSlot : afterUnlock (setSlot p v s) = setSlot p v (afterUnlock s) := by
  unfold afterUnlock
  rw [show (setSlot p v s).lock = s.lock from rfl]
  split <;> rfl

theorem afterWrite_setSlot (w old) : afterWrite w old (setSlot p v s) = setSlot p v (afterWrite w old s) := by
  unfold afterWrite
  cases w.table with
  | computer => exact afterComputer_setSlot old
  | options =>
    dsimp only
    rw [show (setSlot p v s).tables = s.tables from rfl]
    split <;> rfl
  | layout => exact afterLayout_setSlot old
  | assignment => exact afterAssignment_setSlot w
  | channel => exact afterChannel_setSlot old
  | unlock => exact afterUnlock_setSlot
  | hotkey => rfl
  | preset => rfl
  | pointer => rfl
  | translation => rfl

/-! ### A write that passes the checks (R165) -/

/-- The outcome of a write, for the slot of port `p` and without it. -/
theorem writeTable_setSlot (r : Request) (w : WriteArgs) :
    writeTable r w (setSlot p v s) = (setSlot p v (writeTable r w s).1, (writeTable r w s).2) := by
  have tables : resultingTables w (setSlot p v s) = resultingTables w s := rfl
  unfold writeTable
  rw [tables]
  show (if s.mgmt.saving.isSome then _ else if isFrozen w.table s then _ else if isStale r s then _ else
    if (!indexInside w) = true then _ else _) = _
  split
  · rfl
  · split
    · rfl
    · split
      · rfl
      · split
        · rfl
        · cases resultingTables w s with
          | none => rfl
          | some o =>
            dsimp only
            rw [changeTables_setSlot, show (setSlot p v s).tables = s.tables from rfl, afterWrite_setSlot]

/-- A write request that the frame and authority checks pass is answered with what the write finds (R161, R165). -/
theorem exec_tableWrite {r : Request} {s : State} {w : WriteArgs} (taken : takesRequests s r.port)
    (manager : s.tables.computer[r.port].manager = true) (fits : frameFits r 0 r.params.length = true)
    (args : writeArgs r = some w) :
    exec (.tableWrite r) s = .next (replied 3 r (writeTable r w s).2 [] (writeTable r w s).1) := by
  have formed : (frameFits r 0 r.params.length && (writeArgs r).isSome) = true := by
    rw [fits, args]
    rfl
  have body : writeBody r (setSlot r.port .empty s) =
      (setSlot r.port .empty (writeTable r w s).1, some ((writeTable r w s).2, [])) := by
    unfold writeBody
    rw [args]
    dsimp only
    rw [writeTable_setSlot]
  show Host.Outcome.next (serve 3 r (frameFits r 0 r.params.length && (writeArgs r).isSome) .manager (writeBody r) s) = _
  rw [formed, serve_taken (a := .manager) taken manager, body]
  exact congrArg Host.Outcome.next (putReply_setSlot _ _ _ _ _ _ _)

/-- A formed write of `entries` to a table from index `first` on, that passes the checks ahead of the owner's own (R165). -/
structure WriteCall (table : TableId) (first : Byte) (entries : List (List Byte)) (r : Request) (s : State) : Prop where
  taken : takesRequests s r.port
  manager : s.tables.computer[r.port].manager = true
  noSave : s.mgmt.saving = none
  notStale : ¬ (bit r.flags 0 = true ∧ r.expected.toNat ≠ s.mgmt.generation)
  agrees : r.length.toNat = r.params.length
  low : 1 ≤ entries.length
  high : entries.length ≤ 4
  inside : 1 ≤ first.toNat ∧ first.toNat + entries.length ≤ table.count + 1
  params : r.params = byte table.code :: first :: byte entries.length :: entries.flatten
  thawed : s.mgmt.freezeSet.getLsbD (table.code - 1) = false
  sized : ∀ e ∈ entries, e.length = table.size

theorem flatten_length {size : Nat} {l : List (List Byte)} (h : ∀ e ∈ l, e.length = size) :
    l.flatten.length = l.length * size := by
  rw [List.length_flatten, List.map_congr_left h, List.map_const', List.sum_replicate, smul_eq_mul]

theorem chunks_flatten {size : Nat} {l : List (List Byte)} (h : ∀ e ∈ l, e.length = size) :
    chunks size l.length l.flatten = l := by
  induction l with
  | nil => rfl
  | cons e l ih =>
    have he := h e List.mem_cons_self
    rw [List.flatten_cons, List.length_cons, chunks, List.take_left' he, List.drop_left' he,
      ih fun x hx => h x (List.mem_cons_of_mem e hx)]

theorem tableOf_code (t : TableId) : tableOf (byte t.code) = some t := by
  cases t <;> rfl

theorem TableId.size_le (t : TableId) : t.size ≤ 18 := by
  cases t <;> decide

namespace WriteCall

variable {table : TableId} {first : Byte} {entries : List (List Byte)} {r : Request} {s : State}

theorem args (h : WriteCall table first entries r s) : writeArgs r = some ⟨table, first.toNat, entries⟩ := by
  have count : (byte entries.length).toNat = entries.length := byte_toNat (by have := h.high; omega)
  have length := flatten_length h.sized
  unfold writeArgs
  rw [h.params]
  dsimp only
  rw [tableOf_code]
  dsimp only
  rw [count, if_pos ⟨h.low, h.high, length⟩, chunks_flatten h.sized]

theorem fits (h : WriteCall table first entries r s) : frameFits r 0 r.params.length = true := by
  have length : r.params.length = entries.length * table.size + 3 := by
    rw [h.params, List.length_cons, List.length_cons, List.length_cons, flatten_length h.sized]
  have bound : entries.length * table.size ≤ 4 * 18 := Nat.mul_le_mul h.high table.size_le
  have agrees := h.agrees
  refine (frameFits_iff _ _ _).2 ⟨⟨by omega, by omega⟩, by omega⟩

theorem checked (h : WriteCall table first entries r s) : writeTable r ⟨table, first.toNat, entries⟩ s =
    match resultingTables ⟨table, first.toNat, entries⟩ s with
    | none => (s, .badValue)
    | some (tb, clamped) => (afterWrite ⟨table, first.toNat, entries⟩ s.tables (changeTables tb s),
        if clamped then .okAdjusted else .ok) := by
  have stale : isStale r s = false := by
    have := h.notStale
    simpa [isStale] using this
  have inside : indexInside ⟨table, first.toNat, entries⟩ = true := decide_eq_true h.inside
  unfold writeTable
  rw [h.noSave, show isFrozen table s = false from h.thawed, stale, inside]
  rfl

/-- The owner's validation passes: the tables are replaced, with the consequences (R165, R166). -/
theorem accepted (h : WriteCall table first entries r s) {tb : Tables} {clamped : Bool}
    (ht : resultingTables ⟨table, first.toNat, entries⟩ s = some (tb, clamped)) :
    exec (.tableWrite r) s = .next (replied 3 r (if clamped then .okAdjusted else .ok) []
      (afterWrite ⟨table, first.toNat, entries⟩ s.tables (changeTables tb s))) := by
  rw [exec_tableWrite h.taken h.manager h.fits h.args, h.checked, ht]

/-- The owner's validation refuses the write (R165). -/
theorem refused (h : WriteCall table first entries r s)
    (ht : resultingTables ⟨table, first.toNat, entries⟩ s = none) :
    exec (.tableWrite r) s = .next (replied 3 r .badValue [] s) := by
  rw [exec_tableWrite h.taken h.manager h.fits h.args, h.checked, ht]

end WriteCall

end Sys2Proof.Machine
end


section
/-! ## Table entries as bytes, parsed (11.2, R165) -/

namespace Sys2Proof.Machine

/-! ### Fields -/

theorem word_byte {n : Nat} (h : n < 65536) : word (byte n) (byte (n / 256)) = n := by
  unfold word byte
  rw [BitVec.toNat_ofNat, BitVec.toNat_ofNat]
  omega

theorem bytes2_eq (n : Nat) : bytes2 n = [byte n, byte (n / 256)] := rfl

theorem inRange_within {lo hi n : Nat} (hl : lo ≤ n) (hh : n ≤ hi) : inRange lo hi n = some n := if_pos ⟨hl, hh⟩

theorem boolOf_boolByte (b : Bool) : boolOf (boolByte b) = some b := by cases b <;> rfl

theorem indicatorOf_code (i : Option Indicator) : indicatorOf (indicatorCode i) = some i := by
  cases i with
  | none => rfl
  | some i => cases i <;> rfl

theorem senseOf_code (x : Sense) : senseOf x.code = some x := by cases x <;> rfl
theorem alertKindOf_code (x : AlertKind) : alertKindOf x.code = some x := by cases x <;> rfl
theorem policyOf_code (x : AlertPolicy) : policyOf x.code = some x := by cases x <;> rfl
theorem fitOf_code (x : Fit) : fitOf x.code = some x := by cases x <;> rfl
theorem hotkeyKindOf_code (x : HotkeyKind) : hotkeyKindOf x.code = some x := by cases x <;> rfl
theorem requirementOf_code (x : Requirement) : requirementOf x.code = some x := by cases x <;> rfl
theorem actionOf_code (x : Action) : actionOf x.code = some x := by cases x <;> rfl

theorem computerOf_numByte (c : Option Computer) : computerOf (numByte c) = some c := by
  cases c with
  | none => rfl
  | some c =>
    revert c
    decide

theorem channelOf_numByte (c : Option Channel) : channelOf (numByte c) = some c := by
  cases c with
  | none => rfl
  | some c =>
    revert c
    decide

theorem nativeOf_within {n : Nat} (h : nativeOk n) : nativeOf n = some n := by
  unfold nativeOf
  split
  · next hn => rw [hn]
  · next hn =>
    obtain ⟨hl, hh⟩ := h.resolve_left hn
    exact inRange_within hl hh

theorem nativeOk_lt {n : Nat} (h : nativeOk n) : n < 65536 := by
  unfold nativeOk at h
  omega

/-! ### Entries -/

theorem parseComputer_bytes {e : ComputerEntry} (h : e.Ok) : parseComputer e.bytes = some e := by
  obtain ⟨hw, hh, hp⟩ := h
  simp [parseComputer, ComputerEntry.bytes, bytes2_eq, boolOf_boolByte, word_byte (show e.desktopWidth < 65536 by omega),
    word_byte (show e.desktopHeight < 65536 by omega), inRange_within (Nat.zero_le _) hw, inRange_within (Nat.zero_le _) hh,
    indicatorOf_code, senseOf_code, alertKindOf_code, byte_toNat (show e.alertPriority ≤ 255 by omega),
    inRange_within (Nat.zero_le _) hp]

theorem parseLayout_bytes {e : LayoutEntry} (h : e.Ok) : parseLayout e.bytes = some e := by
  obtain ⟨hx, hy, ⟨hw, hw'⟩, ⟨hh, hh'⟩, hnw, hnh, both⟩ := h
  simp [parseLayout, LayoutEntry.bytes, bytes2_eq, boolOf_boolByte, fitOf_code, word_byte (show e.x < 65536 by omega),
    word_byte (show e.y < 65536 by omega), word_byte (show e.w < 65536 by omega), word_byte (show e.h < 65536 by omega),
    word_byte (nativeOk_lt hnw), word_byte (nativeOk_lt hnh), nativeOf_within hnw, nativeOf_within hnh,
    inRange_within (Nat.zero_le _) hx, inRange_within (Nat.zero_le _) hy, inRange_within hw hw', inRange_within hh hh', both]

theorem parseAssignment_bytes (a : Assignment) : parseAssignment a.bytes = some a := by
  have empty : channelOf 0#8 = some none := rfl
  cases a with
  | single c => simp [parseAssignment, Assignment.bytes, channelOf_numByte, empty]
  | quad c1 c2 c3 c4 => simp [parseAssignment, Assignment.bytes, channelOf_numByte]

theorem parseChannel_bytes {e : ChannelEntry} (h : e.Ok) : parseChannel e.bytes = some e := by
  obtain ⟨hx, hy⟩ := h
  simp [parseChannel, ChannelEntry.bytes, bytes2_eq, computerOf_numByte, word_byte (show e.hx < 65536 by omega),
    word_byte (show e.hy < 65536 by omega), inRange_within (Nat.zero_le _) hx, inRange_within (Nat.zero_le _) hy]

theorem byte_ne_zero {n : Nat} (hl : 1 ≤ n) (hh : n ≤ 255) : byte n ≠ 0#8 := fun h => by
  have := congrArg BitVec.toNat h
  rw [byte_toNat hh] at this
  exact absurd this (by simp; omega)

theorem parsePointer_bytes {e : PointerEntry} (h : e.Ok) : parsePointer e.bytes = some e := by
  obtain ⟨⟨hl, hh⟩, ht, ha⟩ := h
  simp [parsePointer, PointerEntry.bytes, byte_ne_zero hl hh, byte_toNat hh, byte_toNat ht, byte_toNat ha]

theorem parseHotkey_bytes {e : HotkeyEntry} (h : e.Ok) : parseHotkey e.bytes = some e := by
  obtain ⟨hk, h1, h2, keyed⟩ := h
  have key : ¬ (e.enabled = true ∧ byte e.key = 0#8) := fun ⟨on, zero⟩ =>
    byte_ne_zero (Nat.one_le_iff_ne_zero.2 (keyed on)) hk zero
  simp [parseHotkey, HotkeyEntry.bytes, boolOf_boolByte, hotkeyKindOf_code, requirementOf_code, actionOf_code, key,
    byte_toNat hk, byte_toNat h1, byte_toNat h2]

theorem parseTranslation_bytes {e : TransEntry} (h : e.key ≤ 255) : parseTranslation e.bytes = some e := by
  simp [parseTranslation, TransEntry.bytes, boolOf_boolByte, byte_toNat h]

theorem parseUnlock_sequence {q : List Nat} (h : sequenceOk q) (rest : List Byte) :
    parseUnlock (byte q.length :: q.map byte ++ rest) = some (some q) := by
  obtain ⟨low, high, keys⟩ := h
  have length : (byte q.length).toNat = q.length := byte_toNat (by omega)
  have took : (q.map byte ++ rest).take q.length = q.map byte := List.take_left' (List.length_map _)
  have back : (q.map byte).map BitVec.toNat = q := by
    rw [List.map_map]
    exact (List.map_congr_left fun k hk => byte_toNat (keys k hk).2).trans (List.map_id q)
  have nonzero : (0 : Byte) ∉ q.map byte := fun hm => by
    obtain ⟨k, hk, hz⟩ := List.mem_map.1 hm
    exact byte_ne_zero (keys k hk).1 (keys k hk).2 hz
  rw [List.cons_append, parseUnlock, length, took, back, if_neg (show byte q.length ≠ 0 from byte_ne_zero (by omega) (by omega)),
    if_neg (by omega), if_neg nonzero]

/-! ### Tables with entries replaced (R165) -/

theorem parseAll_map {α : Type} {parse : List Byte → Option α} {bytes : α → List Byte} {l : List α}
    (h : ∀ a ∈ l, parse (bytes a) = some a) : parseAll parse (l.map bytes) = some l := by
  induction l with
  | nil => rfl
  | cons a l ih =>
    rw [List.map_cons, parseAll, h a List.mem_cons_self, ih fun x hx => h x (List.mem_cons_of_mem a hx)]

theorem setEntries_getElem {α : Type} {n : Nat} (l : List α) (v : Vector α n) (i : Nat) (j : Fin n) :
    (setEntries v i l)[j] = if i ≤ j.val then (l[j.val - i]?).getD v[j] else v[j] := by
  induction l generalizing v i with
  | nil => simp [setEntries]
  | cons a l ih =>
    rw [setEntries, ih]
    rcases Nat.lt_trichotomy i j.val with h | h | h
    · have e : j.val - i = j.val - (i + 1) + 1 := by omega
      rw [if_pos (show i + 1 ≤ j.val from h), if_pos h.le, e, List.getElem?_cons_succ]
      simp [h.ne]
    · rw [if_neg (by omega), if_pos h.le, h]
      simp
    · rw [if_neg (by omega), if_neg (by omega)]
      simp [h.ne']

theorem setEntries_rewritten {α : Type} {n : Nat} {first : Byte} {l : List α} {v w : Vector α n} (hf : 1 ≤ first.toNat)
    (h : rewritten first l v w) : setEntries v (first.toNat - 1) l = w := by
  refine Vector.ext fun i hi => ?_
  have e := setEntries_getElem l v (first.toNat - 1) ⟨i, hi⟩
  have hw := h ⟨i, hi⟩
  have index : i - (first.toNat - 1) = i + 1 - first.toNat := by omega
  have side : first.toNat - 1 ≤ i ↔ first.toNat ≤ i + 1 := by omega
  dsimp only [num] at e hw
  rw [index] at e
  simp only [side] at e
  exact e.trans hw.symm

/-- Valid entries written from index `first` on give the rewritten table (R165). -/
theorem writeEntries_rewritten {α : Type} {n : Nat} {parse : List Byte → Option α} {bytes : α → List Byte} {table : TableId}
    {first : Byte} {l : List α} {v w : Vector α n} (hp : ∀ a ∈ l, parse (bytes a) = some a) (hf : 1 ≤ first.toNat)
    (h : rewritten first l v w) : writeEntries parse v ⟨table, first.toNat, l.map bytes⟩ = some w := by
  unfold writeEntries
  rw [parseAll_map hp]
  exact congrArg some (setEntries_rewritten hf h)

end Sys2Proof.Machine
end


section
/-! ## Writes with few consequences: presets, pointer devices, translations, hotkeys, the unlock sequence (R165, R166) -/

namespace Sys2Proof.Machine

variable {first : Byte} {r : Request} {s : State}

theorem sized_map {α : Type} {bytes : α → List Byte} {size : Nat} (h : ∀ a, (bytes a).length = size) (l : List α) :
    ∀ e ∈ l.map bytes, e.length = size := fun e he => by
  obtain ⟨a, -, rfl⟩ := List.mem_map.1 he
  exact h a

theorem ComputerEntry.bytes_length (e : ComputerEntry) : e.bytes.length = 12 := rfl
theorem Options.bytes_length (o : Options) : o.bytes.length = 18 := rfl
theorem LayoutEntry.bytes_length (e : LayoutEntry) : e.bytes.length = 14 := rfl
theorem Assignment.bytes_length (a : Assignment) : a.bytes.length = 5 := by cases a <;> rfl
theorem ChannelEntry.bytes_length (e : ChannelEntry) : e.bytes.length = 5 := rfl
theorem PointerEntry.bytes_length (e : PointerEntry) : e.bytes.length = 3 := rfl
theorem HotkeyEntry.bytes_length (e : HotkeyEntry) : e.bytes.length = 10 := rfl
theorem TransEntry.bytes_length (e : TransEntry) : e.bytes.length = 2 := rfl

theorem write_preset {l : List Assignment} {w : Vector Assignment 32}
    (h : WriteCall .preset first (l.map Assignment.bytes) r s) (hw : rewritten first l s.tables.preset w) :
    exec (.tableWrite r) s = .next (replied 3 r .ok [] (changeTables { s.tables with preset := w } s)) :=
  h.accepted (clamped := false) (by
    have e := writeEntries_rewritten (table := .preset) (fun a _ => parseAssignment_bytes a) h.inside.1 hw
    exact congrArg (Option.map fun v => ({ s.tables with preset := v }, false)) e)

theorem write_pointer {l : List PointerEntry} {w : Vector PointerEntry 4} (ok : ∀ e ∈ l, e.Ok)
    (h : WriteCall .pointer first (l.map PointerEntry.bytes) r s) (hw : rewritten first l s.tables.pointer w) :
    exec (.tableWrite r) s = .next (replied 3 r .ok [] (changeTables { s.tables with pointer := w } s)) :=
  h.accepted (clamped := false) (by
    have e := writeEntries_rewritten (table := .pointer) (fun a ha => parsePointer_bytes (ok a ha)) h.inside.1 hw
    exact congrArg (Option.map fun v => ({ s.tables with pointer := v }, false)) e)

theorem write_translation {l : List TransEntry} {w : Vector TransEntry 97} (ok : ∀ e ∈ l, e.key ≤ 255)
    (h : WriteCall .translation first (l.map TransEntry.bytes) r s) (hw : rewritten first l s.tables.translation w) :
    exec (.tableWrite r) s = .next (replied 3 r .ok [] (changeTables { s.tables with translation := w } s)) :=
  h.accepted (clamped := false) (by
    have e := writeEntries_rewritten (table := .translation) (fun a ha => parseTranslation_bytes (ok a ha)) h.inside.1 hw
    exact congrArg (Option.map fun v => ({ s.tables with translation := v }, false)) e)

theorem write_hotkey {l : List HotkeyEntry} {w : Vector HotkeyEntry 32} (ok : ∀ e ∈ l, e.Ok)
    (h : WriteCall .hotkey first (l.map HotkeyEntry.bytes) r s) (hw : rewritten first l s.tables.hotkey w) :
    exec (.tableWrite r) s =
      .next (replied 3 r .ok [] (setCandidate none (changeTables { s.tables with hotkey := w } s))) :=
  h.accepted (clamped := false) (by
    have e := writeEntries_rewritten (table := .hotkey) (fun a ha => parseHotkey_bytes (ok a ha)) h.inside.1 hw
    exact congrArg (Option.map fun v => ({ s.tables with hotkey := v }, false)) e)

/-- A written unlock sequence takes progress to 0 in LOCKED (R114). -/
theorem afterUnlock_eq (s : State) : afterUnlock s =
    s.setLock { s.lock with progress := if s.lock.state = .locked then 0 else s.lock.progress } := by
  unfold afterUnlock
  split
  · rfl
  · rfl

theorem write_unlock {q : List Nat} {rest : List Byte} (ok : sequenceOk q)
    (h : WriteCall .unlock first [byte q.length :: q.map byte ++ rest] r s) :
    exec (.tableWrite r) s = .next (replied 3 r .ok [] (afterUnlock (changeTables { s.tables with unlock := some q } s))) :=
  h.accepted (clamped := false) (by
    unfold resultingTables
    dsimp only
    rw [parseUnlock_sequence ok])

/-- An empty sequence takes the stored one away, while the console is UNLOCKED (R114). -/
theorem write_unlock_empty {rest : List Byte} (h : WriteCall .unlock first [0 :: rest] r s)
    (unlocked : s.lock.state = .unlocked) :
    exec (.tableWrite r) s = .next (replied 3 r .ok [] (changeTables { s.tables with unlock := none } s)) := by
  have tables : resultingTables ⟨.unlock, first.toNat, [0 :: rest]⟩ s =
      some ({ s.tables with unlock := none }, false) := if_pos unlocked
  have idle : afterUnlock (changeTables { s.tables with unlock := none } s) =
      changeTables { s.tables with unlock := none } s :=
    if_neg fun locked => absurd (unlocked.symm.trans locked) (by decide)
  rw [← idle]
  exact h.accepted tables

/-! ### The desk options (R163) -/

theorem clampNat_within {lo hi x : Nat} (hl : lo ≤ x) (hh : x ≤ hi) : clampNat lo hi x = x := by
  unfold clampNat
  omega

theorem numOr0_ofNum {n k : Nat} (h : k ≤ n) : numOr0 (ofNum n k) = k := by
  unfold ofNum
  split
  · simp only [numOr0]
    omega
  · simp only [numOr0]
    omega

theorem ofNum_numOr0 {n : Nat} (i : Option (Fin n)) : ofNum n (numOr0 i) = i := by
  cases i with
  | none => rfl
  | some i => simp [ofNum, numOr0]

theorem numOr0_le {n : Nat} (i : Option (Fin n)) : numOr0 i ≤ n := by
  cases i with
  | none => exact Nat.zero_le n
  | some i => exact i.isLt

theorem parseOptions_bytes {o : Options} (h : o.Ok) : parseOptions o.bytes = some (o, false) := by
  obtain ⟨⟨d, d'⟩, ⟨c, c'⟩, ⟨p, p'⟩, ⟨a, a'⟩, ⟨w, w'⟩, g, ⟨t, t'⟩⟩ := h
  have focus : numOr0 o.initialFocus ≤ 8 := numOr0_le _
  simp [parseOptions, Options.bytes, bytes2_eq, numByte, boolOf_boolByte, policyOf_code,
    word_byte (show o.doubleTapWindow < 65536 by omega), word_byte (show o.commandTimeout < 65536 by omega),
    word_byte (show o.wakeWindow < 65536 by omega), word_byte (show o.wakeAllStagger < 65536 by omega),
    byte_toNat (show o.peekDuration ≤ 255 by omega), byte_toNat (show o.wakeAttempts ≤ 255 by omega),
    byte_toNat (show o.typePacing ≤ 255 by omega), byte_toNat (show numOr0 o.initialFocus ≤ 255 by omega),
    clampNat_within d d', clampNat_within c c', clampNat_within p p', clampNat_within a a', clampNat_within w w',
    clampNat_within (Nat.zero_le _) g, clampNat_within t t', clampNat_within (Nat.zero_le _) focus, ofNum_numOr0]

theorem boolOf_some {b : Byte} (h : b.toNat ≤ 1) : ∃ x, boolOf b = some x ∧ boolByte x = b := by
  revert b
  decide

theorem boolOf_none {b : Byte} (h : ¬ b.toNat ≤ 1) : boolOf b = none := by
  revert b
  decide

theorem policyOf_some {b : Byte} (h : b.toNat ≤ 2) : ∃ x, policyOf b = some x ∧ x.code = b := by
  have codes : b = 0 ∨ b = 1 ∨ b = 2 := by bv_omega
  rcases codes with rfl | rfl | rfl
  · exact ⟨.oldest, rfl, rfl⟩
  · exact ⟨.priority, rfl, rfl⟩
  · exact ⟨.rotate, rfl, rfl⟩

theorem policyOf_none {b : Byte} (h : ¬ b.toNat ≤ 2) : policyOf b = none :=
  List.getElem?_eq_none (not_le.1 h)

theorem byte_eq_iff {n : Nat} {b : Byte} (h : n ≤ 255) : byte n = b ↔ n = b.toNat := by
  rw [← BitVec.toNat_inj, byte_toNat h]

theorem word_eq_iff {n : Nat} {lo hi : Byte} (h : n < 65536) : byte n = lo ∧ byte (n / 256) = hi ↔ n = word lo hi := by
  rw [byte_eq_iff (b := hi) (by omega), ← BitVec.toNat_inj (x := byte n), byte, BitVec.toNat_ofNat]
  have := lo.isLt
  have := hi.isLt
  unfold word
  omega

theorem clampNat_le {lo hi x : Nat} (h : lo ≤ hi) : clampNat lo hi x ≤ hi := by
  unfold clampNat
  omega

end Sys2Proof.Machine
end


section
/-! ## Writes of the desk options (R163, R165) -/

namespace Sys2Proof.Machine

variable {first : Byte} {r : Request} {s : State}

theorem boolOf_le {b : Byte} {x : Bool} (h : boolOf b = some x) : b.toNat ≤ 1 := by
  by_contra hn
  rw [boolOf_none hn] at h
  cases h

theorem policyOf_le {b : Byte} {x : AlertPolicy} (h : policyOf b = some x) : b.toNat ≤ 2 := by
  by_contra hn
  rw [policyOf_none hn] at h
  cases h

/-- An options record as a write gives it, in the order of 11.2. -/
structure OptionBytes where
  (d0 d1 c0 c1 pd wa w0 w1 s0 s1 tp wf wg wi ap ff fc sl : Byte)

namespace OptionBytes

/-- The record as parameter bytes. -/
def list (x : OptionBytes) : List Byte :=
  [x.d0, x.d1, x.c0, x.c1, x.pd, x.wa, x.w0, x.w1, x.s0, x.s1, x.tp, x.wf, x.wg, x.wi, x.ap, x.ff, x.fc, x.sl]

/-- Every code of the record is one of its field's values. -/
def Coded (x : OptionBytes) : Prop := x.ap.toNat ≤ 2 ∧ ∀ b ∈ [x.wf, x.wg, x.wi, x.ff, x.sl], b.toNat ≤ 1

/-- The options that the record gives, its numbers clamped and its codes as they are (R163). -/
structure Gives (x : OptionBytes) (o : Options) : Prop where
  doubleTapWindow : o.doubleTapWindow = clampNat 150 1000 (word x.d0 x.d1)
  commandTimeout : o.commandTimeout = clampNat 500 10000 (word x.c0 x.c1)
  peekDuration : o.peekDuration = clampNat 1 60 x.pd.toNat
  wakeAttempts : o.wakeAttempts = clampNat 1 8 x.wa.toNat
  wakeWindow : o.wakeWindow = clampNat 100 2000 (word x.w0 x.w1)
  wakeAllStagger : o.wakeAllStagger = clampNat 0 2000 (word x.s0 x.s1)
  typePacing : o.typePacing = clampNat 8 128 x.tp.toNat
  initialFocus : numOr0 o.initialFocus = clampNat 0 8 x.fc.toNat
  wakeOnFocus : boolByte o.wakeOnFocus = x.wf
  wakeOnGlide : boolByte o.wakeOnGlide = x.wg
  wakeOnInput : boolByte o.wakeOnInput = x.wi
  alertPolicy : o.alertPolicy.code = x.ap
  focusFrame : boolByte o.focusFrame = x.ff
  startLocked : boolByte o.startLocked = x.sl

/-- No number of the record lies outside its range. -/
def Unclamped (x : OptionBytes) (o : Options) : Prop :=
  o.doubleTapWindow = word x.d0 x.d1 ∧ o.commandTimeout = word x.c0 x.c1 ∧ o.peekDuration = x.pd.toNat ∧
    o.wakeAttempts = x.wa.toNat ∧ o.wakeWindow = word x.w0 x.w1 ∧ o.wakeAllStagger = word x.s0 x.s1 ∧
    o.typePacing = x.tp.toNat ∧ numOr0 o.initialFocus = x.fc.toNat

theorem parse_uncoded {x : OptionBytes} (h : ¬ x.Coded) : parseOptions x.list = none := by
  cases hp : parseOptions x.list with
  | none => rfl
  | some o =>
    simp only [parseOptions, list, Option.bind_eq_bind, Option.bind_eq_some_iff] at hp
    obtain ⟨_, wf, _, wg, _, wi, _, ap, _, ff, _, sl, -⟩ := hp
    refine absurd ⟨policyOf_le ap, ?_⟩ h
    simp only [List.forall_mem_cons]
    exact ⟨boolOf_le wf, boolOf_le wg, boolOf_le wi, boolOf_le ff, boolOf_le sl, fun _ hb => absurd hb List.not_mem_nil⟩

theorem parse_coded {x : OptionBytes} (h : x.Coded) :
    ∃ (o : Options) (clamped : Bool), parseOptions x.list = some (o, clamped) ∧ x.Gives o ∧
      (clamped = false ↔ x.Unclamped o) := by
  obtain ⟨ap, codes⟩ := h
  simp only [List.forall_mem_cons] at codes
  obtain ⟨wf, wg, wi, ff, sl, -⟩ := codes
  obtain ⟨onFocus, wf, wf'⟩ := boolOf_some wf
  obtain ⟨onGlide, wg, wg'⟩ := boolOf_some wg
  obtain ⟨onInput, wi, wi'⟩ := boolOf_some wi
  obtain ⟨policy, ap, ap'⟩ := policyOf_some ap
  obtain ⟨frame, ff, ff'⟩ := boolOf_some ff
  obtain ⟨locked, sl, sl'⟩ := boolOf_some sl
  have focus : numOr0 (ofNum 8 (clampNat 0 8 x.fc.toNat)) = clampNat 0 8 x.fc.toNat :=
    numOr0_ofNum (clampNat_le (by decide))
  unfold parseOptions list
  simp only [wf, wg, wi, ap, ff, sl, Option.bind_eq_bind, Option.bind_some]
  refine ⟨_, _, rfl, ⟨rfl, rfl, rfl, rfl, rfl, rfl, rfl, focus, wf', wg', wi', ap', ff', sl'⟩, ?_⟩
  simp [Unclamped, focus]

/-- The options read back as the record when no number was clamped (R163). -/
theorem Gives.bytes_eq_iff {x : OptionBytes} {o : Options} (h : x.Gives o) : o.bytes = x.list ↔ x.Unclamped o := by
  have bound : ∀ {k lo hi n : Nat}, k = clampNat lo hi n → lo ≤ hi → k ≤ hi := fun hk hl => hk ▸ clampNat_le hl
  have d := bound h.doubleTapWindow (by decide)
  have c := bound h.commandTimeout (by decide)
  have w := bound h.wakeWindow (by decide)
  have g := bound h.wakeAllStagger (by decide)
  have p := bound h.peekDuration (by decide)
  have a := bound h.wakeAttempts (by decide)
  have t := bound h.typePacing (by decide)
  have f := bound h.initialFocus (by decide)
  unfold Unclamped
  rw [← word_eq_iff (by omega), ← word_eq_iff (by omega), ← word_eq_iff (by omega), ← word_eq_iff (by omega),
    ← byte_eq_iff (by omega), ← byte_eq_iff (by omega), ← byte_eq_iff (by omega), ← byte_eq_iff (by omega)]
  simp only [Options.bytes, list, bytes2_eq, List.cons_append, List.nil_append, List.cons.injEq, numByte, h.wakeOnFocus,
    h.wakeOnGlide, h.wakeOnInput, h.alertPolicy, h.focusFrame, h.startLocked, true_and, and_true, and_assoc]

end OptionBytes

/-- What a write of the options `o` leaves: with the focus frame option changed the frame kinds are computed anew (R89). -/
def optionsWritten (o : Options) (s : State) : State :=
  if s.tables.options.focusFrame = o.focusFrame then changeTables { s.tables with options := o } s
  else recomputeFrames (changeTables { s.tables with options := o } s)

theorem write_options {o : Options} {clamped : Bool} {l : List Byte} (h : WriteCall .options first [l] r s)
    (hp : parseOptions l = some (o, clamped)) :
    exec (.tableWrite r) s = .next (replied 3 r (if clamped then .okAdjusted else .ok) [] (optionsWritten o s)) :=
  h.accepted (by
    unfold resultingTables
    dsimp only
    rw [hp])

theorem write_options_uncoded {l : List Byte} (h : WriteCall .options first [l] r s) (hp : parseOptions l = none) :
    exec (.tableWrite r) s = .next (replied 3 r .badValue [] s) :=
  h.refused (by
    unfold resultingTables
    dsimp only
    rw [hp])

theorem optionsWritten_same {o : Options} (h : o.focusFrame = s.tables.options.focusFrame) :
    optionsWritten o s = changeTables { s.tables with options := o } s := if_pos h.symm

theorem optionsWritten_framed {o : Options} (h : o.focusFrame ≠ s.tables.options.focusFrame) :
    optionsWritten o s = recomputeFrames (changeTables { s.tables with options := o } s) := if_neg (Ne.symm h)

/-- What a write of the options leaves of the state with the tables replaced. -/
structure OptionsFollow (o : Options) (s t : State) : Prop where
  kept : t = { changeTables { s.tables with options := o } s with screens := t.screens }
  screens : screensKept s t
  same : o.focusFrame = s.tables.options.focusFrame → t.screens = s.screens
  framed : o.focusFrame ≠ s.tables.options.focusFrame → framesAnew t

theorem optionsFollow (o : Options) (s : State) : OptionsFollow o s (optionsWritten o s) := by
  by_cases h : o.focusFrame = s.tables.options.focusFrame
  · rw [optionsWritten_same h]
    exact ⟨rfl, screensKept_refl s, fun _ => rfl, fun hne => absurd h hne⟩
  · rw [optionsWritten_framed h]
    exact ⟨rfl, screensKept_recomputeFrames (changeTables { s.tables with options := o } s), fun he => absurd he h,
      fun _ => framesAnew_recomputeFrames _⟩

end Sys2Proof.Machine
end


section
/-! ## Writes of the channel and layout tables (R72, R92, R166) -/

namespace Sys2Proof.Machine

/-! ### Frame kinds across a re-seat -/

/-- A re-seat leaves the focus computer or makes another one the focus computer (R37). -/
theorem answerReseat_focused (o : ReseatOutcome) (s : State) : (answerReseat o s).focus.focus = s.focus.focus ∨
    ∃ n : Computer, (answerReseat o s).focus.focus = some n ∧ s.focus.focus ≠ some n := by
  have modeOnly : ∀ m, (considerPosition (setMode m s)).focus.focus = s.focus.focus := fun m =>
    ((placing_setMode m s).trans (placing_considerPosition _)).focused
  unfold answerReseat actOnReseat
  cases o with
  | same => exact .inl (placing_considerPosition s).focused
  | unseated => exact .inl (modeOnly .detached)
  | moved n =>
    dsimp only
    split
    · exact .inl (modeOnly .glide)
    next hne =>
      split
      · exact .inr ⟨n, (answered_focusChange hne).2.focused, hne⟩
      · exact .inl (modeOnly .held)

theorem reseat_focused (s : State) : (reseat s).focus.focus = s.focus.focus ∨
    ∃ n : Computer, (reseat s).focus.focus = some n ∧ s.focus.focus ≠ some n := by
  rw [reseat_eq]
  have same := reseatPlace_samePointer s
  have h := answerReseat_focused (reseatPlace s).2 (reseatPlace s).1
  rw [same.focus] at h
  exact h

theorem screenAnew_congr {s t : State} {sc : ScreenNo} (h : screenAnew sc s) (hs : t.screens = s.screens)
    (ht : t.tables = s.tables) (hf : t.focus.focus = s.focus.focus) (ha : t.alerts.list = s.alerts.list) :
    screenAnew sc t := by
  have kinds := tileKinds_congr (s := s) (t := t) (sc := sc) (by rw [hs]) ht hf ha
  unfold screenAnew
  rw [kinds, hs]
  exact h

/-- A re-seat keeps the frame kinds computed: it leaves the focus computer, or computes them for the new one (R89). -/
theorem screenAnew_reseat {s : State} {sc : ScreenNo} (h : screenAnew sc s) : screenAnew sc (reseat s) := by
  have r := reseats_reseat s
  obtain hf | ⟨n, hn, hne⟩ := reseat_focused s
  · obtain ⟨screens, alerts, -⟩ := r.stays hf
    exact screenAnew_congr h screens (quiet_reseat s).tables hf (by rw [alerts])
  · exact (r.moves n hn hne).1 sc

theorem framesAnew_reseat {s : State} (h : framesAnew s) : framesAnew (reseat s) := fun sc => screenAnew_reseat (h sc)

/-! ### The channel table (R72) -/

variable {first : Byte} {r : Request} {s : State}

/-- What a table write that re-seats the pointer leaves of the state before it. -/
structure WriteReseats (tb : Tables) (s t : State) : Prop where
  tables : t.tables = tb
  generation : t.mgmt.generation = if 63 ≤ s.mgmt.generation then 1 else s.mgmt.generation + 1
  announced : announced .table t
  law : reseated s t
  told : positionTold t
  lock : t.lock = s.lock
  channels : t.channels = s.channels
  deskKeys : t.console.deskKeys = s.console.deskKeys

theorem sameButPointer_changeTables (tb : Tables) (s : State) : SameButPointer s (changeTables tb s) :=
  ⟨rfl, rfl, rfl, rfl, rfl⟩

theorem changeTables_glide (tb : Tables) (s : State) : (changeTables tb s).glide = s.glide := rfl

theorem SameButPointer.trans {s t u : State} (h : SameButPointer s t) (k : SameButPointer t u) : SameButPointer s u :=
  ⟨k.focus.trans h.focus, k.deskKeys.trans h.deskKeys, k.deskButtons.trans h.deskButtons, k.typeout.trans h.typeout,
    k.remembered.trans h.remembered⟩

/-- A re-seat after a change of the tables and of the screens' records alone. -/
theorem writeReseats (tb : Tables) (s : State) (screens : Vector Screen 8) :
    WriteReseats tb s (reseat ((changeTables tb s).setScreens screens)) := by
  have table := changeTables_announced tb s
  have same := sameButPointer_changeTables tb s
  have glide := changeTables_glide tb s
  have kept : ∀ u, Quiet (changeTables tb s) u → ChangeKept tb s u := fun _ q => q.changeKept
  generalize changeTables tb s = d at table same glide kept
  have r := reseats_reseat (d.setScreens screens)
  have k := kept _ ((quiet_setScreens d screens).trans (quiet_reseat (d.setScreens screens)))
  exact ⟨k.tables, k.generation, r.heard.announced ((heard_of_eq rfl rfl : Heard d (d.setScreens screens)).announced table),
    reseated_before r.law glide (same.trans ⟨rfl, rfl, rfl, rfl, rfl⟩), r.told, k.lock, k.channels, k.deskKeys⟩

theorem write_channel {l : List ChannelEntry} {w : Vector ChannelEntry 16} (ok : ∀ e ∈ l, e.Ok)
    (h : WriteCall .channel first (l.map ChannelEntry.bytes) r s) (hw : rewritten first l s.tables.channel w) :
    exec (.tableWrite r) s =
      .next (replied 3 r .ok [] (afterChannel s.tables (changeTables { s.tables with channel := w } s))) :=
  h.accepted (clamped := false) (by
    have e := writeEntries_rewritten (table := .channel) (fun a ha => parseChannel_bytes (ok a ha)) h.inside.1 hw
    exact congrArg (Option.map fun v => ({ s.tables with channel := v }, false)) e)

theorem afterChannel_same {old : Tables} (h : ∀ c : Channel, s.tables.channel[c].owner = old.channel[c].owner) :
    afterChannel old s = s := by
  refine if_neg fun any => ?_
  obtain ⟨c, -, hc⟩ := List.any_eq_true.1 any
  exact (of_decide_eq_true hc) (h c).symm

theorem afterChannel_owned {old : Tables} (h : ∃ c : Channel, s.tables.channel[c].owner ≠ old.channel[c].owner) :
    afterChannel old s = reseat (recomputeFrames s) := by
  obtain ⟨c, hc⟩ := h
  exact if_pos (List.any_eq_true.2 ⟨c, (by decide : ∀ c : Channel, c ∈ channelNos) c, decide_eq_true (Ne.symm hc)⟩)

theorem channelWritten (tb : Tables) (s : State) :
    WriteReseats tb s (reseat (recomputeFrames (changeTables tb s))) := writeReseats tb s _

theorem screensKept_reseatFramed (s : State) : screensKept s (reseat (recomputeFrames s)) :=
  screensKept_trans (screensKept_recomputeFrames s) (reseats_reseat (recomputeFrames s)).screens

theorem framesAnew_reseatFramed (s : State) : framesAnew (reseat (recomputeFrames s)) :=
  framesAnew_reseat (framesAnew_recomputeFrames s)

/-! ### The layout table (R92) -/

theorem write_layout {l : List LayoutEntry} {w : Vector LayoutEntry 8} (ok : ∀ e ∈ l, e.Ok)
    (h : WriteCall .layout first (l.map LayoutEntry.bytes) r s) (hw : rewritten first l s.tables.layout w)
    (valid : layoutValid w = true) : exec (.tableWrite r) s =
      .next (replied 3 r .ok [] (afterLayout s.tables (changeTables { s.tables with layout := w } s))) :=
  h.accepted (clamped := false) (by
    have e := writeEntries_rewritten (table := .layout) (fun a ha => parseLayout_bytes (ok a ha)) h.inside.1 hw
    unfold resultingTables
    dsimp only
    rw [e]
    dsimp only
    rw [valid]
    rfl)

/-- The screens after a write of the layout table, before its re-seat (R91, R92). -/
def layoutScreens (old : Tables) (s : State) : State := s.setScreens (Vector.ofFn (layoutScreen old s))

theorem layoutScreens_screen (old : Tables) (s : State) (x : ScreenNo) :
    (layoutScreens old s).screens[x] = layoutScreen old s x := by
  simp [layoutScreens]

/-- What a write of the layout table leaves of the record `r` of screen `x`. -/
structure LayoutFollows (old : Tables) (x : ScreenNo) (s t : State) : Prop where
  native : t.screens[x].native = nativeSize s.tables.layout[x] s.screens[x].reported
  attached : t.screens[x].attached = s.screens[x].attached
  displayed : t.screens[x].displayed = s.screens[x].displayed
  pending : t.screens[x].pendingAssignment = s.screens[x].pendingAssignment
  peek : t.screens[x].peek = s.screens[x].peek
  turned : s.tables.layout[x].enabled ≠ old.layout[x].enabled → screenAnew x t
  kept : s.tables.layout[x].enabled = old.layout[x].enabled → t.focus.focus = s.focus.focus → framesKept x s t

theorem layoutFollows_screens (old : Tables) (x : ScreenNo) (s : State) : LayoutFollows old x s (layoutScreens old s) := by
  have screen := layoutScreens_screen old s x
  by_cases he : old.layout[x].enabled = s.tables.layout[x].enabled
  · have e : layoutScreen old s x =
        { s.screens[x] with native := nativeSize s.tables.layout[x] s.screens[x].reported } := if_pos he
    rw [e] at screen
    refine ⟨by rw [screen], by rw [screen], by rw [screen], by rw [screen], by rw [screen], fun hne => absurd he.symm hne,
      fun _ _ => ?_⟩
    unfold framesKept
    rw [screen]
    exact ⟨rfl, rfl⟩
  · have e : layoutScreen old s x = Screen.takeKinds (kindsFor s x s.screens[x].displayed)
        { s.screens[x] with native := nativeSize s.tables.layout[x] s.screens[x].reported } := if_neg he
    obtain ⟨attached, -, native, displayed, pending, peek, -⟩ := takeKinds_keeps (kindsFor s x s.screens[x].displayed)
      { s.screens[x] with native := nativeSize s.tables.layout[x] s.screens[x].reported }
    rw [← e, ← screen] at attached native displayed pending peek
    refine ⟨native, attached, displayed, pending, peek, fun _ => ?_, fun same => absurd same.symm he⟩
    have kinds : tileKinds (layoutScreens old s) x (layoutScreens old s).screens[x].displayed =
        kindsFor s x s.screens[x].displayed := by
      rw [displayed, kindsFor_eq_tileKinds]
      exact tileKinds_congr peek rfl rfl rfl _
    unfold screenAnew
    rw [kinds, screen, e]
    unfold Screen.takeKinds
    split
    next h => exact ⟨fun _ => rfl, fun e => absurd (e.symm.trans h) (by decide)⟩
    next h => exact ⟨fun e => absurd e h, fun _ => ⟨rfl, rfl⟩⟩

theorem LayoutFollows.reseat {old : Tables} {x : ScreenNo} {s u : State} (h : LayoutFollows old x s u)
    (focus : u.focus.focus = s.focus.focus) : LayoutFollows old x s (reseat u) := by
  have r := reseats_reseat u
  obtain ⟨attached, -, native, displayed, pending, peek, -⟩ := r.screens x
  refine ⟨native.trans h.native, attached.trans h.attached, displayed.trans h.displayed, pending.trans h.pending,
    peek.trans h.peek, fun hne => screenAnew_reseat (h.turned hne), fun he hf => ?_⟩
  have kept := h.kept he focus
  obtain ⟨screens, -⟩ := r.stays (hf.trans focus.symm)
  unfold framesKept at kept ⊢
  rw [screens]
  exact kept

theorem layoutFollows (old : Tables) (x : ScreenNo) (s : State) : LayoutFollows old x s (afterLayout old s) :=
  (layoutFollows_screens old x s).reseat rfl

theorem layoutWritten (tb : Tables) (s : State) : WriteReseats tb s (afterLayout s.tables (changeTables tb s)) :=
  writeReseats tb s _

end Sys2Proof.Machine
end


section
/-! ## Writes of the assignment table (R82, R166) -/

namespace Sys2Proof.Machine

/-- A fold takes its steps in order, when each is one that the law names from any state the fold can be in. -/
theorem inOrder_foldl {α : Type} {law : α → State → State → Prop} {f : State → α → State} {P : State → Prop}
    (h : ∀ (a : α) (s : State), P s → law a s (f s a) ∧ P (f s a)) (l : List α) :
    ∀ s : State, P s → inOrder law l s (l.foldl f s) := by
  induction l with
  | nil => exact fun _ _ => rfl
  | cons a l ih => exact fun s hs => ⟨f s a, (h a s hs).1, ih _ (h a s hs).2⟩

theorem putDisplayed_screen (sc : ScreenNo) (a : Assignment) (s : State) : (putDisplayed sc a s).screens[sc] =
    { s.screens[sc] with displayed := a, frames := kindsFor s sc a, pendingFrames := none } :=
  State.modScreen_screen s sc _

theorem putDisplayed_anew {sc : ScreenNo} {s : State} (a : Assignment) (h : s.screens[sc].attached = false) :
    screenAnew sc (putDisplayed sc a s) := by
  have screen := putDisplayed_screen sc a s
  have kinds : tileKinds (putDisplayed sc a s) sc a = kindsFor s sc a := by
    rw [kindsFor_eq_tileKinds]
    have peek : (putDisplayed sc a s).screens[sc].peek = s.screens[sc].peek := by rw [screen]
    exact tileKinds_congr peek rfl rfl rfl a
  unfold screenAnew
  rw [screen]
  dsimp only
  rw [kinds]
  exact ⟨fun ha => absurd (ha.symm.trans h) (by decide), fun _ => ⟨rfl, rfl⟩⟩

theorem setRequested_shown {sc : ScreenNo} {a : Assignment} {s : State} (hp : s.screens[sc].peek = none)
    (ha : s.screens[sc].attached = false) : setRequested sc a s = reseat (putDisplayed sc a s) := by
  unfold setRequested
  rw [hp]
  exact if_neg (by rw [ha]; decide)

theorem requestedAt_setRequested (sc : ScreenNo) (a : Assignment) (s : State) : requestedAt sc a s (setRequested sc a s) := by
  refine ⟨fun p hp => ?_, fun hp ha => ?_, fun hp ha => ?_⟩
  · unfold setRequested
    rw [hp]
  · unfold setRequested
    rw [hp]
    exact if_pos ha
  · rw [setRequested_shown hp ha]
    have r := reseats_reseat (putDisplayed sc a s)
    have q : Quiet s (reseat (putDisplayed sc a s)) := (quiet_modScreen sc _ s).trans (quiet_reseat _)
    have anew := screenAnew_reseat (putDisplayed_anew a ha)
    have screen := putDisplayed_screen sc a s
    have others : ∀ x, x ≠ sc → (putDisplayed sc a s).screens[x] = s.screens[x] := fun x hx =>
      State.modScreen_screen_ne s _ hx
    have law : reseated s (reseat (putDisplayed sc a s)) := reseated_before r.law rfl ⟨rfl, rfl, rfl, rfl, rfl⟩
    generalize putDisplayed sc a s = u at r screen others law anew q
    obtain ⟨-, -, -, displayed, pending, peek, -⟩ := r.screens sc
    rw [screen] at displayed pending peek
    refine ⟨displayed, pending, peek.trans hp, anew, law, r.told, fun x => ?_, q.tables, q.generation, q.channels, q.lock,
      q.deskKeys, q.deskButtons⟩
    obtain ⟨attached, -, -, displayed, pending, peek, -⟩ := r.screens x
    by_cases hx : x = sc
    · subst hx
      rw [screen] at attached
      exact ⟨attached, fun hne => absurd rfl hne⟩
    · rw [others x hx] at attached displayed pending peek
      exact ⟨attached, fun _ => ⟨displayed, pending, peek⟩⟩

theorem heard_setRequested (sc : ScreenNo) (a : Assignment) (s : State) : Heard s (setRequested sc a s) := by
  unfold setRequested assignScreen
  split
  · exact heard_of_eq rfl rfl
  · split
    · exact heard_of_eq rfl rfl
    · exact (heard_of_eq rfl rfl : Heard s (putDisplayed sc a s)).trans (reseats_reseat _).heard

variable {first : Byte} {r : Request} {s : State}

theorem write_assignment {l : List Assignment} {w : Vector Assignment 8}
    (h : WriteCall .assignment first (l.map Assignment.bytes) r s) (hw : rewritten first l s.tables.assignment w) :
    exec (.tableWrite r) s = .next (replied 3 r .ok [] (afterAssignment ⟨.assignment, first.toNat, l.map Assignment.bytes⟩
      (changeTables { s.tables with assignment := w } s))) :=
  h.accepted (clamped := false) (by
    have e := writeEntries_rewritten (table := .assignment) (fun a _ => parseAssignment_bytes a) h.inside.1 hw
    exact congrArg (Option.map fun v => ({ s.tables with assignment := v }, false)) e)

theorem afterAssignment_heard (w : WriteArgs) (s : State) : Heard s (afterAssignment w s) :=
  heard_foldl (fun _ _ => heard_setRequested _ _ _) _ s

/-- The written entries are requested screen by screen (R166). -/
theorem afterAssignment_inOrder (w : WriteArgs) (v : Vector Assignment 8) (hs : s.tables.assignment = v) :
    inOrder (fun sc => requestedAt sc v[sc])
      (screenNos.filter fun sc => decide (w.first ≤ num sc ∧ num sc < w.first + w.entries.length)) s (afterAssignment w s) := by
  refine inOrder_foldl (P := fun u => u.tables.assignment = v) (fun sc u hu => ⟨?_, ?_⟩) _ s hs
  · rw [hu]
    exact requestedAt_setRequested sc _ u
  · rw [(quiet_setRequested _ _ u).tables]
    exact hu

end Sys2Proof.Machine
end


section
/-! ## Writes of the computer table (R32, R33, R134, R166) -/

namespace Sys2Proof.Machine

variable {first : Byte} {r : Request} {s : State} {old : Tables}

theorem hasManager_of {v : Vector ComputerEntry 8} {n : Computer} (h : v[n].manager = true) : hasManager v = true :=
  List.any_eq_true.2 ⟨v[n], by simp, h⟩

theorem write_computer {l : List ComputerEntry} {w : Vector ComputerEntry 8} (ok : ∀ e ∈ l, e.Ok)
    (h : WriteCall .computer first (l.map ComputerEntry.bytes) r s) (hw : rewritten first l s.tables.computer w)
    {n : Computer} (manager : w[n].manager = true) : exec (.tableWrite r) s =
      .next (replied 3 r .ok [] (afterComputer s.tables (changeTables { s.tables with computer := w } s))) :=
  h.accepted (clamped := false) (by
    have e := writeEntries_rewritten (table := .computer) (fun a ha => parseComputer_bytes (ok a ha)) h.inside.1 hw
    unfold resultingTables
    dsimp only
    rw [e]
    dsimp only
    rw [hasManager_of manager]
    rfl)

/-! ### The parked fields (R32, R33) -/

/-- A parked field differs between two tables. -/
def ParksChange (old new : Tables) : Prop := ∃ n : Computer, new.computer[n].parked ≠ old.computer[n].parked

theorem parkedChanged_iff (old new : Tables) (n : Computer) :
    parkedChanged old new n = true ↔ new.computer[n].parked ≠ old.computer[n].parked := by
  unfold parkedChanged
  rw [bne_iff_ne, ne_comm]

theorem parksChange_iff (old new : Tables) : computers.any (parkedChanged old new) = true ↔ ParksChange old new := by
  rw [List.any_eq_true]
  exact ⟨fun ⟨n, _, h⟩ => ⟨n, (parkedChanged_iff old new n).1 h⟩,
    fun ⟨n, h⟩ => ⟨n, mem_computers n, (parkedChanged_iff old new n).2 h⟩⟩

theorem afterParked_kept {n : Computer} (h : s.tables.computer[n].parked = old.computer[n].parked) :
    afterParked old s n = s := if_neg fun changed => (parkedChanged_iff _ _ _).1 changed h

theorem afterParked_parked {n : Computer} (ho : old.computer[n].parked = false) (hn : s.tables.computer[n].parked = true) :
    afterParked old s n = parkSteps n s :=
  (if_pos ((parkedChanged_iff _ _ _).2 (by rw [ho, hn]; decide))).trans (if_pos hn)

theorem afterParked_unparked {n : Computer} (ho : old.computer[n].parked = true) (hn : s.tables.computer[n].parked = false) :
    afterParked old s n = freshEvaluate n s :=
  (if_pos ((parkedChanged_iff _ _ _).2 (by rw [ho, hn]; decide))).trans (if_neg (by rw [hn]; decide))

theorem parkedFollows_afterParked (old : Tables) (n : Computer) (s : State) : parkedFollows old n s (afterParked old s n) := by
  refine ⟨fun h => afterParked_kept h.symm, fun ho hn => ?_, fun ho hn => ?_⟩
  · rw [afterParked_parked ho hn]
    exact withdrawn_parkSteps n hn
  · rw [afterParked_unparked ho hn]
    exact evaluatedAnew_freshEvaluate n s

theorem quiet_afterParked (old : Tables) (s : State) (n : Computer) : Quiet s (afterParked old s n) := by
  unfold afterParked
  split
  · split
    · exact quiet_parkSteps n s
    · exact quiet_freshEvaluate n s
  · exact .refl s

/-- The state once every changed parked field has had its steps. -/
def parksFollowed (old : Tables) (s : State) : State := computers.foldl (afterParked old) s

theorem inOrder_parksFollowed (old : Tables) (s : State) :
    inOrder (parkedFollows old) computers s (parksFollowed old s) :=
  inOrder_foldl (P := fun _ => True) (fun n u _ => ⟨parkedFollows_afterParked old n u, trivial⟩) computers s trivial

theorem parksFollowed_tables (old : Tables) (s : State) : (parksFollowed old s).tables = s.tables :=
  foldl_keeps (P := fun u => u.tables = s.tables) (fun u n hu => ((quiet_afterParked old u n).tables).trans hu) computers rfl

/-! ### The alert sources (R134) -/

/-- The alert indicator or the alert sense of computer `n` differs between two tables. -/
def AnewIn (old new : Tables) (n : Computer) : Prop :=
  new.computer[n].alertIndicator ≠ old.computer[n].alertIndicator ∨
    new.computer[n].alertSense ≠ old.computer[n].alertSense


theorem sourceChanged_iff (old new : Tables) (n : Computer) : sourceChanged old new n = true ↔ AnewIn old new n := by
  unfold sourceChanged AnewIn
  rw [decide_eq_true_iff, ne_comm, ne_comm (a := old.computer[n].alertSense)]

theorem afterSource_kept {n : Computer} (h : ¬ AnewIn old s.tables n) : afterSource old s n = s :=
  if_neg fun changed => h ((sourceChanged_iff _ _ _).1 changed)

theorem afterSource_anew {n : Computer} (h : AnewIn old s.tables n) : afterSource old s n = freshEvaluate n s :=
  if_pos ((sourceChanged_iff _ _ _).2 h)

/-- The evaluations of a list of computers are those of its computers with a changed source. -/
theorem foldl_afterSource (old : Tables) {tb : Tables} (l : List Computer) : ∀ s : State, s.tables = tb →
    l.foldl (afterSource old) s = (l.filter (sourceChanged old tb)).foldl (fun u n => freshEvaluate n u) s := by
  induction l with
  | nil => exact fun _ _ => rfl
  | cons n l ih =>
    intro s hs
    rw [List.foldl_cons]
    by_cases h : AnewIn old s.tables n
    · have changed : sourceChanged old tb n = true := hs ▸ (sourceChanged_iff old s.tables n).2 h
      rw [afterSource_anew h, List.filter_cons_of_pos changed, List.foldl_cons]
      exact ih _ ((quiet_freshEvaluate n s).tables.trans hs)
    · have kept : ¬ sourceChanged old tb n = true := fun changed => h ((sourceChanged_iff old s.tables n).1 (hs.symm ▸ changed))
      rw [afterSource_kept h, List.filter_cons_of_neg kept]
      exact ih s hs

/-- The state once every changed alert source has been evaluated. -/
def sourcesFollowed (old : Tables) (s : State) : State := computers.foldl (afterSource old) s

theorem inOrder_sourcesFollowed (old : Tables) (s : State) :
    inOrder evaluatedAnew (computers.filter (sourceChanged old s.tables)) s (sourcesFollowed old s) := by
  rw [sourcesFollowed, foldl_afterSource old computers s rfl]
  exact inOrder_foldl (P := fun _ => True) (fun n u _ => ⟨evaluatedAnew_freshEvaluate n u, trivial⟩) _ s trivial

/-! ### The consequences as a whole -/

theorem afterComputer_parking (h : ParksChange old s.tables) :
    afterComputer old s = recomputeFrames (sourcesFollowed old (reseat (parksFollowed old s))) := by
  have any := (parksChange_iff old s.tables).2 h
  unfold afterComputer
  dsimp only
  rw [any]
  rfl

theorem afterComputer_unparking (h : ¬ ParksChange old s.tables) :
    afterComputer old s = sourcesFollowed old (parksFollowed old s) := by
  have any : computers.any (parkedChanged old s.tables) = false :=
    Bool.eq_false_of_not_eq_true fun changed => h ((parksChange_iff old s.tables).1 changed)
  unfold afterComputer
  dsimp only
  rw [any]
  rfl

/-- A write of the computer table in the order of R166: the parked fields, the re-seat, the alert sources, the frame kinds. -/
theorem computerWritten (old : Tables) (s : State) : ∃ a b c t : State, afterComputer old s = t ∧
    inOrder (parkedFollows old) computers s a ∧ (¬ ParksChange old s.tables → b = a) ∧
    (ParksChange old s.tables → reseated a b ∧ positionTold b ∧ b.tables = a.tables) ∧
    inOrder evaluatedAnew (computers.filter (sourceChanged old s.tables)) b c ∧
    (¬ ParksChange old s.tables → t = c) ∧
    (ParksChange old s.tables → t = { c with screens := t.screens } ∧ screensKept c t ∧ framesAnew t) := by
  have parks := inOrder_parksFollowed old s
  have tables := parksFollowed_tables old s
  by_cases h : ParksChange old s.tables
  · rw [afterComputer_parking h]
    generalize parksFollowed old s = a at parks tables
    have r := reseats_reseat a
    have placed := (quiet_reseat a).tables
    generalize reseat a = b at r placed
    have sources := inOrder_sourcesFollowed old b
    rw [placed.trans tables] at sources
    exact ⟨a, b, sourcesFollowed old b, _, rfl, parks, fun hn => absurd h hn, fun _ => ⟨r.law, r.told, placed⟩, sources,
      fun hn => absurd h hn, fun _ => ⟨rfl, screensKept_recomputeFrames _, framesAnew_recomputeFrames _⟩⟩
  · rw [afterComputer_unparking h]
    generalize parksFollowed old s = a at parks tables
    have sources := inOrder_sourcesFollowed old a
    rw [tables] at sources
    exact ⟨a, a, sourcesFollowed old a, _, rfl, parks, fun _ => rfl, fun hp => absurd hp h, sources, fun _ => rfl,
      fun hp => absurd hp h⟩

/-! ### One entry -/

theorem foldl_idle {α : Type} {f : State → α → State} {l : List α} {s : State} (h : ∀ m ∈ l, f s m = s) : l.foldl f s = s := by
  induction l with
  | nil => rfl
  | cons m l ih =>
    rw [List.foldl_cons, h m List.mem_cons_self]
    exact ih fun k hk => h k (List.mem_cons_of_mem m hk)

/-- A fold in which only the step of `n` acts is that step. -/
theorem foldl_only {α : Type} {f : State → α → State} {P : State → Prop} {n : α} (idle : ∀ u m, P u → m ≠ n → f u m = u)
    {l : List α} (nodup : l.Nodup) (mem : n ∈ l) {s : State} (hs : P s) (hn : P (f s n)) : l.foldl f s = f s n := by
  induction l with
  | nil => cases mem
  | cons m l ih =>
    obtain ⟨fresh, nodup⟩ := List.nodup_cons.1 nodup
    rw [List.foldl_cons]
    by_cases hm : m = n
    · subst hm
      exact foldl_idle fun k hk => idle _ k hn fun e => fresh (e ▸ hk)
    · rw [idle s m hs hm]
      exact ih nodup ((List.mem_cons.1 mem).resolve_left (Ne.symm hm))

end Sys2Proof.Machine
end


section
/-! ## A write of one computer entry (R132, R134, R166) -/

namespace Sys2Proof.Machine

variable {first : Byte} {r : Request} {s : State} {old : Tables} {n : Computer} {e : ComputerEntry}

/-- The tables with the entry of computer `n` replaced. -/
def withEntry (n : Computer) (e : ComputerEntry) (tb : Tables) : Tables := { tb with computer := tb.computer.set n e }

theorem withEntry_self (tb : Tables) : (withEntry n e tb).computer[n] = e := by
  simp [withEntry]

theorem withEntry_other {m : Computer} (tb : Tables) (h : m ≠ n) : (withEntry n e tb).computer[m] = tb.computer[m] := by
  have hv : ¬ n.val = m.val := fun hv => h (Fin.ext hv).symm
  simp [withEntry, hv]

theorem rewritten_one {v : Vector ComputerEntry 8} (hf : first.toNat = num n) : rewritten first [e] v (v.set n e) := by
  intro i
  rw [hf]
  unfold num
  rcases Nat.lt_trichotomy n.val i.val with h | h | h
  · have index : [e][i.val + 1 - (n.val + 1)]? = none := List.getElem?_eq_none (by simp; omega)
    rw [if_pos (by omega), index]
    simp [h.ne]
  · obtain rfl : n = i := Fin.ext h
    simp
  · rw [if_neg (by omega)]
    simp [h.ne']

/-- A write of one entry that leaves a manager (R162). -/
theorem write_entry (ok : e.Ok) (h : WriteCall .computer first [e.bytes] r s) (hf : first.toNat = num n)
    (manager : e.manager = true ∨ ∃ m : Computer, m ≠ n ∧ s.tables.computer[m].manager = true) : exec (.tableWrite r) s =
      .next (replied 3 r .ok [] (afterComputer s.tables (changeTables (withEntry n e s.tables) s))) := by
  have written := rewritten_one (e := e) (v := s.tables.computer) hf
  have all : ∀ x ∈ [e], x.Ok := List.forall_mem_singleton.2 ok
  obtain own | ⟨m, hm, other⟩ := manager
  · exact write_computer (l := [e]) all h written (n := n) (by rw [← own]; exact congrArg _ (withEntry_self s.tables))
  · exact write_computer (l := [e]) all h written (n := m) (by rw [← other]; exact congrArg _ (withEntry_other s.tables hm))

/-! ### Consequences of one entry -/

section One

variable (one : ∀ m : Computer, m ≠ n → s.tables.computer[m] = old.computer[m])
include one

theorem parksFollowed_one : parksFollowed old s = afterParked old s n := by
  refine foldl_only (P := fun u => u.tables = s.tables) (fun u m hu hm => afterParked_kept ?_) computers_nodup
    (mem_computers n) rfl (quiet_afterParked old s n).tables
  rw [hu, one m hm]

theorem sourcesFollowed_one : sourcesFollowed old s = afterSource old s n := by
  refine foldl_only (P := fun u => u.tables = s.tables) (fun u m hu hm => afterSource_kept ?_) computers_nodup
    (mem_computers n) rfl ?_
  · unfold AnewIn
    rw [hu, one m hm]
    exact fun h => h.elim (fun h => h rfl) fun h => h rfl
  · unfold afterSource
    split
    · exact (quiet_freshEvaluate n s).tables
    · rfl

/-- An entry that keeps its parked field (R166). -/
theorem afterComputer_one (same : s.tables.computer[n].parked = old.computer[n].parked) :
    afterComputer old s = afterSource old s n := by
  have kept : ¬ ParksChange old s.tables := fun ⟨m, hm⟩ => by
    by_cases h : m = n
    · exact hm (h ▸ same)
    · exact hm (by rw [one m h])
  rw [afterComputer_unparking kept, parksFollowed_one one, afterParked_kept same, sourcesFollowed_one one]

/-- An entry with a changed parked field (R166). -/
theorem afterComputer_turned (turned : s.tables.computer[n].parked ≠ old.computer[n].parked) :
    afterComputer old s = recomputeFrames (afterSource old (reseat (afterParked old s n)) n) := by
  have tables := (quiet_afterParked old s n).tables.symm.trans (quiet_reseat (afterParked old s n)).tables.symm
  rw [afterComputer_parking ⟨n, turned⟩, parksFollowed_one one, sourcesFollowed_one]
  rw [← tables]
  exact one

end One

end Sys2Proof.Machine
end


section
/-! ## What a write of one computer entry leaves (R32, R33, R134) -/

namespace Sys2Proof.Machine

variable {n : Computer} {e : ComputerEntry} {s u : State}

/-- The alert sources of `s` after an evaluation of computer `n` by the entry `e` (R134). -/
def judgedSources (n : Computer) (e : ComputerEntry) (s : State) : Vector AlertSource 8 :=
  s.alerts.sources.set n ⟨s.alerts.sources[n].known, lampCalls e s.alerts.sources[n].known s.ports[n].indicators⟩

/-- The list `l` after an evaluation of computer `n` by the entry `e` and what `s` knows of its lamps (R134). -/
def judgedList (n : Computer) (e : ComputerEntry) (s : State) (l : List AlertEntry) : List AlertEntry :=
  freshEntries n e s.alerts.sources[n].known s.ports[n].indicators l

theorem judgedList_twice (n : Computer) (e : ComputerEntry) (s : State) (l : List AlertEntry) :
    judgedList n e s (judgedList n e s l) = judgedList n e s l := by
  unfold judgedList freshEntries
  split
  · split
    · exact if_neg fun h => h.2 ⟨n, e.alertKind, .indicator⟩ (List.mem_append_right _ (List.mem_singleton.2 rfl)) rfl
    · rfl
  · rw [List.filter_filter]
    simp

/-- `u` has the lamps and the knowledge of computer `n` that `s` has, and the entry `e` for it. -/
structure JudgedBy (n : Computer) (e : ComputerEntry) (s u : State) : Prop where
  entry : u.tables.computer[n] = e
  known : u.alerts.sources[n].known = s.alerts.sources[n].known
  lamps : u.ports[n].indicators = s.ports[n].indicators

theorem JudgedBy.evaluated (h : JudgedBy n e s u) : (freshEvaluate n u).alerts =
    { u.alerts with
      sources := u.alerts.sources.set n ⟨s.alerts.sources[n].known,
        lampCalls e s.alerts.sources[n].known s.ports[n].indicators⟩
      list := judgedList n e s u.alerts.list } := by
  rw [freshEvaluate_alerts, h.entry, h.known, h.lamps]
  rfl

theorem judgedBy_changeTables (n : Computer) (e : ComputerEntry) (s : State) :
    JudgedBy n e s (changeTables (withEntry n e s.tables) s) :=
  ⟨withEntry_self s.tables, rfl, (changeTables_ports (withEntry n e s.tables) s).wakeStill n |>.indicators⟩

/-! ### A source evaluated afresh alone -/

/-- What a write of an entry with a changed alert source leaves (R134). -/
structure SourceWritten (n : Computer) (e : ComputerEntry) (s t : State) : Prop where
  kept : t = { changeTables (withEntry n e s.tables) s with
    alerts := t.alerts, screens := t.screens, mgmt := t.mgmt, ports := t.ports }
  mgmt : t.mgmt = { (changeTables (withEntry n e s.tables) s).mgmt with summaries := t.mgmt.summaries }
  table : announced .table t
  screens : screensKept s t
  alerts : t.alerts = { s.alerts with sources := judgedSources n e s, list := judgedList n e s s.alerts.list }
  changed : judgedList n e s s.alerts.list ≠ s.alerts.list → announced .alert t ∧ framesAnew t
  same : judgedList n e s s.alerts.list = s.alerts.list → t.screens = s.screens

theorem heard_freshEvaluate (n : Computer) (s : State) : Heard s (freshEvaluate n s) :=
  (afterReseat_freshEvaluate n s).heard

/-- An evaluation that changes the alert list raises ALERT and computes the frame kinds anew; one that does not leaves the
screens (R89, R134, R135). -/
theorem freshEvaluate_changed {n : Computer} {s : State} (h : (freshEvaluate n s).alerts.list ≠ s.alerts.list) :
    announced .alert (freshEvaluate n s) ∧ framesAnew (freshEvaluate n s) := by
  have list : (freshEvaluate n s).alerts.list = freshList s n := by rw [freshEvaluate, (setAlertList_sets _ _).alerts]
  rw [list] at h
  have changed : freshList s n ≠ (setSource n (freshSource s n) s).alerts.list := h
  refine ⟨announced_setAlertList changed, ?_⟩
  rw [freshEvaluate, setAlertList_changed changed]
  exact framesAnew_recomputeFrames _

theorem freshEvaluate_same {n : Computer} {s : State} (h : (freshEvaluate n s).alerts.list = s.alerts.list) :
    freshEvaluate n s = setSource n (freshSource s n) s := by
  have list : (freshEvaluate n s).alerts.list = freshList s n := by rw [freshEvaluate, (setAlertList_sets _ _).alerts]
  exact setAlertList_same (s := setSource n (freshSource s n) s) (list.symm.trans h)

theorem sourceWritten (n : Computer) (e : ComputerEntry) (s : State) :
    SourceWritten n e s (freshEvaluate n (changeTables (withEntry n e s.tables) s)) := by
  have alerts := (judgedBy_changeTables n e s).evaluated
  have table := changeTables_announced (withEntry n e s.tables) s
  have before : (changeTables (withEntry n e s.tables) s).screens = s.screens ∧
      (changeTables (withEntry n e s.tables) s).alerts = s.alerts := ⟨rfl, rfl⟩
  generalize hd : changeTables (withEntry n e s.tables) s = d at alerts table before
  obtain ⟨screens, list⟩ := before
  obtain ⟨become, -, kept⟩ := evaluatedAnew_freshEvaluate n d
  have heard := heard_freshEvaluate n d
  have changed := freshEvaluate_changed (n := n) (s := d)
  have same := freshEvaluate_same (n := n) (s := d)
  generalize freshEvaluate n d = t at alerts become kept heard changed same
  have listed : t.alerts.list = judgedList n e s s.alerts.list := by rw [alerts, list]
  refine ⟨by rw [hd, become], by rw [hd, become], heard.announced table, fun sc => ?_, by rw [alerts, list]; rfl,
    fun hne => changed ?_, fun he => ?_⟩
  · rw [← screens]
    exact kept sc
  · rw [listed, list]
    exact hne
  · rw [same (by rw [listed, list, he])]
    exact screens

/-! ### An entry that becomes unparked (R33) -/

/-- What the evaluation of a changed source after the re-seat leaves of the state `x` that the first one led to. -/
structure SourceFollowed (anew : Prop) (n : Computer) (e : ComputerEntry) (s x y : State) : Prop where
  after : AfterReseat x y
  quiet : Quiet x y
  told : positionTold x → positionTold y
  screens : screensKept x y
  alerts : y.alerts = { x.alerts with list := y.alerts.list }
  kept : ¬ anew → y.alerts.list = x.alerts.list
  judged : anew → y.alerts.list = judgedList n e s x.alerts.list

theorem judgedSources_twice (n : Computer) (e : ComputerEntry) (s : State) : (judgedSources n e s).set n
    ⟨s.alerts.sources[n].known, lampCalls e s.alerts.sources[n].known s.ports[n].indicators⟩ = judgedSources n e s := by
  simp [judgedSources]

theorem sourceFollowed (old : Tables) {x : State} (h : JudgedBy n e s x) (sources : x.alerts.sources = judgedSources n e s) :
    SourceFollowed (AnewIn old x.tables n) n e s x (afterSource old x n) := by
  by_cases anew : AnewIn old x.tables n
  · rw [afterSource_anew anew]
    have alerts := h.evaluated
    rw [sources, judgedSources_twice, ← sources] at alerts
    exact ⟨afterReseat_freshEvaluate n x, quiet_freshEvaluate n x, positionTold_freshEvaluate, screensKept_freshEvaluate n x,
      by rw [alerts], fun hn => absurd anew hn, fun _ => by rw [alerts]⟩
  · rw [afterSource_kept anew]
    exact ⟨⟨.refl x, rfl, rfl, rfl, .refl x, id⟩, .refl x, id, screensKept_refl x, rfl, fun _ => rfl, fun ha => absurd ha anew⟩

/-- What a write of an entry that becomes unparked leaves (R33). -/
structure EntryUnparked (anew : Prop) (n : Computer) (e : ComputerEntry) (s t : State) : Prop where
  change : ChangeKept (withEntry n e s.tables) s t
  table : announced .table t
  law : reseated s t
  told : positionTold t
  frames : framesAnew t
  screens : screensKept s t
  broadcast : t.focus.broadcast = s.focus.broadcast
  sources : t.alerts.sources = judgedSources n e s
  rotation : t.alerts.rotation = s.alerts.rotation
  stays : t.focus.focus = s.focus.focus → t.alerts.list = judgedList n e s s.alerts.list
  moves : ∀ m : Computer, t.focus.focus = some m → s.focus.focus ≠ some m →
    let seen := (judgedList n e s s.alerts.list).filter fun x => !decide (x.computer = m ∧ x.kind = .latched)
    (¬ anew → t.alerts.list = seen) ∧ (anew → t.alerts.list = judgedList n e s seen)

/-- The state once the pointer is re-seated after the first evaluation. -/
structure UnparkedPlaced (n : Computer) (e : ComputerEntry) (s x : State) : Prop where
  quiet : Quiet (changeTables (withEntry n e s.tables) s) x
  table : announced .table x
  law : reseated s x
  told : positionTold x
  screens : screensKept s x
  broadcast : x.focus.broadcast = s.focus.broadcast
  sources : x.alerts.sources = judgedSources n e s
  rotation : x.alerts.rotation = s.alerts.rotation
  lamps : x.ports[n].indicators = s.ports[n].indicators
  stays : x.focus.focus = s.focus.focus → x.alerts.list = judgedList n e s s.alerts.list
  moves : ∀ m : Computer, x.focus.focus = some m → s.focus.focus ≠ some m →
    x.alerts.list = (judgedList n e s s.alerts.list).filter fun x => !decide (x.computer = m ∧ x.kind = .latched)

theorem unparkedPlaced (n : Computer) (e : ComputerEntry) (s : State) :
    UnparkedPlaced n e s (reseat (freshEvaluate n (changeTables (withEntry n e s.tables) s))) := by
  have written := sourceWritten n e s
  have lamps := (judgedBy_changeTables n e s).lamps
  have same := sameButPointer_changeTables (withEntry n e s.tables) s
  have glide : (changeTables (withEntry n e s.tables) s).glide = s.glide := rfl
  generalize hd : changeTables (withEntry n e s.tables) s = d at written lamps same glide
  have sets := setAlertList_sets (freshList d n) (setSource n (freshSource d n) d)
  have quiet := quiet_freshEvaluate n d
  have notices := (noticesOnly_freshEvaluate n d).wakeStill n
  rw [← freshEvaluate] at sets
  generalize freshEvaluate n d = u at written sets quiet notices
  have r := reseats_reseat u
  have gentle := gentle_reseat u
  have placed := quiet_reseat u
  generalize reseat u = x at r gentle placed
  have before : SameButPointer s u := ⟨sets.focus.trans same.focus, quiet.deskKeys.trans same.deskKeys,
    quiet.deskButtons.trans same.deskButtons, sets.typeout.trans same.typeout,
    (congrArg Glide.remembered sets.glide).trans same.remembered⟩
  have alerts : x.alerts.sources = u.alerts.sources ∧ x.alerts.rotation = u.alerts.rotation := by
    rw [r.listed]
    exact ⟨rfl, rfl⟩
  refine ⟨hd ▸ quiet.trans placed, r.heard.announced written.table, reseated_before r.law (sets.glide.trans glide) before, r.told,
    screensKept_trans written.screens r.screens, r.broadcast.trans (congrArg FocusCtl.broadcast before.focus),
    alerts.1.trans (by rw [written.alerts]), alerts.2.trans (by rw [written.alerts]),
    (gentle.lamps n).trans (notices.indicators.trans lamps), fun hf => ?_, fun m hm hne => ?_⟩
  · obtain ⟨-, kept, -⟩ := r.stays (hf.trans (congrArg FocusCtl.focus before.focus).symm)
    rw [kept, written.alerts]
  · obtain ⟨-, moved⟩ := r.moves m hm (by rw [before.focus]; exact hne)
    rw [moved, written.alerts]

theorem UnparkedPlaced.judgedBy {x : State} (h : UnparkedPlaced n e s x) : JudgedBy n e s x := by
  refine ⟨?_, ?_, h.lamps⟩
  · rw [h.quiet.tables]
    exact withEntry_self s.tables
  · rw [h.sources]
    simp [judgedSources]

theorem entryUnparked (old : Tables) (n : Computer) (e : ComputerEntry) (s : State) :
    EntryUnparked (AnewIn old (withEntry n e s.tables) n) n e s (recomputeFrames (afterSource old
      (reseat (freshEvaluate n (changeTables (withEntry n e s.tables) s))) n)) := by
  have placed := unparkedPlaced n e s
  generalize reseat (freshEvaluate n (changeTables (withEntry n e s.tables) s)) = x at placed
  have f := sourceFollowed old placed.judgedBy placed.sources
  have tables : x.tables = withEntry n e s.tables := placed.quiet.tables
  rw [tables] at f
  generalize afterSource old x n = y at f
  have after := f.after.trans (afterReseat_recomputeFrames y)
  have alerts : y.alerts.sources = x.alerts.sources ∧ y.alerts.rotation = x.alerts.rotation := by
    rw [f.alerts]
    exact ⟨rfl, rfl⟩
  have focused : (recomputeFrames y).focus = x.focus := after.focus
  refine ⟨(placed.quiet.trans (f.quiet.trans (quiet_recomputeFrames y))).changeKept, after.heard.announced placed.table,
    reseated_after placed.law after, positionTold_recomputeFrames (f.told placed.told), framesAnew_recomputeFrames y,
    screensKept_trans placed.screens (screensKept_trans f.screens (screensKept_recomputeFrames y)),
    (congrArg FocusCtl.broadcast focused).trans placed.broadcast, alerts.1.trans placed.sources,
    alerts.2.trans placed.rotation, fun hf => ?_, fun m hm hne => ?_⟩
  · rw [focused] at hf
    have list := placed.stays hf
    by_cases anew : AnewIn old (withEntry n e s.tables) n
    · exact (f.judged anew).trans (by rw [list, judgedList_twice])
    · exact (f.kept anew).trans list
  · rw [focused] at hm
    have list := placed.moves m hm hne
    exact ⟨fun anew => (f.kept anew).trans list, fun anew => (f.judged anew).trans (by rw [list])⟩

/-! ### An entry that becomes parked (R32) -/

theorem withEntry_turned (tb : Tables) (hp : e.parked = true) :
    parkTurned n (withEntry n { e with parked := false } tb) = withEntry n e tb := by
  have entry : { e with parked := !false } = e := by
    cases e
    cases hp
    rfl
  unfold parkTurned
  rw [withEntry_self]
  dsimp only
  rw [entry]
  simp [withEntry]

/-- PARK_TOGGLE from the tables with the entry unparked does what the write of the parked entry does, before it evaluates
the source (R32, R166). -/
theorem parkToggle_entry {first : Byte} (hf : first.toNat = num n) (hp : e.parked = true) (s : State) :
    exec (.parkToggle (.hotkey first 0)) { s with tables := withEntry n { e with parked := false } s.tables } =
      .next (recomputeFrames (reseat (parkSteps n (changeTables (withEntry n e s.tables) s)))) := by
  have unparked : ¬ ((withEntry n { e with parked := false } s.tables).computer[n].parked = true) := by
    rw [withEntry_self]
    exact Bool.false_ne_true
  rw [exec_parkToggle, actParkToggle_of hf.symm, if_neg unparked]
  show Host.Outcome.next (recomputeFrames (reseat (parkSteps n (changeTables
    (parkTurned n (withEntry n { e with parked := false } s.tables)) s)))) = _
  rw [withEntry_turned s.tables hp]

/-- The evaluation of a parked computer without an alert entry leaves the alert list (R134). -/
theorem freshEvaluate_parked {x : State} (h : JudgedBy n e s x) (hp : e.parked = true)
    (none : ∀ a ∈ x.alerts.list, a.computer ≠ n) : freshEvaluate n x =
      { x with alerts := { x.alerts with sources := x.alerts.sources.set n ⟨s.alerts.sources[n].known,
        lampCalls e s.alerts.sources[n].known s.ports[n].indicators⟩ } } := by
  have list : judgedList n e s x.alerts.list = x.alerts.list := by
    unfold judgedList freshEntries
    split
    · exact if_neg fun h => absurd (hp.symm.trans h.1) (by decide)
    · exact List.filter_eq_self.2 fun a ha => by simp [none a ha]
  have same : (freshEvaluate n x).alerts.list = x.alerts.list := by rw [h.evaluated, list]
  rw [freshEvaluate_same same, freshSource_eq, h.entry, h.known, h.lamps]
  rfl

/-- The sources of a state replaced. -/
def withSources (v : Vector AlertSource 8) (t : State) : State := { t with alerts := { t.alerts with sources := v } }

/-- The state once the parked computer is withdrawn and the pointer re-seated (R32). -/
structure EntryParked (n : Computer) (e : ComputerEntry) (s x : State) : Prop where
  judgedBy : JudgedBy n e s x
  none : ∀ a ∈ x.alerts.list, a.computer ≠ n
  sources : x.alerts.sources = s.alerts.sources

theorem entryParked (hp : e.parked = true) (s : State) :
    EntryParked n e s (reseat (parkSteps n (changeTables (withEntry n e s.tables) s))) := by
  have entry := withEntry_self (n := n) (e := e) s.tables
  have parked : (changeTables (withEntry n e s.tables) s).tables.computer[n].parked = true :=
    (congrArg ComputerEntry.parked entry).trans hp
  have ended := parkEnded n parked
  have lamps := (judgedBy_changeTables n e s).lamps
  have q : Quiet (changeTables (withEntry n e s.tables) s) (reseat (parkSteps n (changeTables (withEntry n e s.tables) s))) :=
    (quiet_parkSteps n _).trans (quiet_reseat _)
  have alerts : (changeTables (withEntry n e s.tables) s).alerts = s.alerts := rfl
  have tables : (changeTables (withEntry n e s.tables) s).tables = withEntry n e s.tables := rfl
  generalize changeTables (withEntry n e s.tables) s = d at ended lamps q alerts tables
  generalize reseat (parkSteps n d) = x at ended q
  have sources : x.alerts.sources = s.alerts.sources := ended.sources.trans (congrArg Alerts.sources alerts)
  exact ⟨⟨by rw [q.tables, tables, entry], by rw [sources], (ended.gentle.lamps n).trans lamps⟩,
    fun a ha hn => ended.none (.inr (.inr ⟨a, ha, hn⟩)), sources⟩

/-- A parked computer's alert source is evaluated where it changed; nothing else comes of that (R134). -/
theorem EntryParked.followed {x : State} (h : EntryParked n e s x) (hp : e.parked = true) (old : Tables) :
    (AnewIn old x.tables n →
      recomputeFrames (afterSource old x n) = withSources (judgedSources n e s) (recomputeFrames x)) ∧
    (¬ AnewIn old x.tables n →
      recomputeFrames (afterSource old x n) = withSources s.alerts.sources (recomputeFrames x)) := by
  refine ⟨fun anew => ?_, fun kept => ?_⟩
  · rw [afterSource_anew anew, freshEvaluate_parked h.judgedBy hp h.none, h.sources]
    rfl
  · rw [afterSource_kept kept, ← h.sources]
    rfl

end Sys2Proof.Machine
end


section
/-! ## TABLE_WRITE replaces entries (R165, R166) -/

namespace Sys2Proof.Machine

variable {first : Byte} {r : Request} {s : State}

/-- A manager's request that the port takes, while no save is in flight, with the generation expected (R161, R165). -/
structure WriteReady (r : Request) (s : State) : Prop where
  taken : takesRequests s r.port
  manager : s.tables.computer[r.port].manager = true
  noSave : s.mgmt.saving = none
  notStale : ¬ (bit r.flags 0 = true ∧ r.expected.toNat ≠ s.mgmt.generation)
  agrees : r.length.toNat = r.params.length

theorem WriteReady.call (w : WriteReady r s) {table : TableId} {entries : List (List Byte)}
    (sized : ∀ e ∈ entries, e.length = table.size)
    (h : 1 ≤ entries.length ∧ entries.length ≤ 4 ∧ 1 ≤ first.toNat ∧ first.toNat + entries.length ≤ table.count + 1 ∧
      r.params = byte table.code :: first :: byte entries.length :: entries.flatten ∧
      s.mgmt.freezeSet.getLsbD (table.code - 1) = false) : WriteCall table first entries r s := by
  obtain ⟨low, high, from1, inside, params, thawed⟩ := h
  exact ⟨w.taken, w.manager, w.noSave, w.notStale, w.agrees, low, high, ⟨from1, inside⟩, params, thawed, sized⟩

/-- A write of one entry. -/
theorem WriteReady.single (w : WriteReady r s) {table : TableId} {l : List Byte} (sized : l.length = table.size)
    (inside : 1 ≤ first.toNat ∧ first.toNat ≤ table.count) (params : r.params = byte table.code :: first :: 1 :: l)
    (thawed : s.mgmt.freezeSet.getLsbD (table.code - 1) = false) : WriteCall table first [l] r s :=
  w.call (List.forall_mem_singleton.2 sized)
    ⟨le_refl 1, (by decide : 1 ≤ 4), inside.1, Nat.succ_le_succ inside.2, by rw [params, List.flatten_singleton]; rfl, thawed⟩

theorem num_inside {n : Computer} (h : first.toNat = num n) : 1 ≤ first.toNat ∧ first.toNat ≤ TableId.computer.count := by
  rw [h]
  exact ⟨Nat.succ_pos _, n.isLt⟩

theorem filter_sourceChanged (old new : Tables) : computers.filter (sourceChanged old new) =
    computers.filter fun n => decide (new.computer[n].alertIndicator ≠ old.computer[n].alertIndicator ∨
      new.computer[n].alertSense ≠ old.computer[n].alertSense) :=
  List.filter_congr fun n _ => Bool.eq_iff_iff.2 (by rw [sourceChanged_iff, decide_eq_true_iff]; rfl)

/-- The other entries of a replaced one's table. -/
theorem withEntry_others {n : Computer} (e : ComputerEntry) (s : State) : ∀ m : Computer, m ≠ n →
    (changeTables (withEntry n e s.tables) s).tables.computer[m] = s.tables.computer[m] := fun _ h =>
  withEntry_other s.tables h

theorem withEntry_here (n : Computer) (e : ComputerEntry) (s : State) :
    (changeTables (withEntry n e s.tables) s).tables.computer[n] = e := withEntry_self s.tables

theorem anewIn_withEntry {n : Computer} {e : ComputerEntry} {old tb : Tables} : AnewIn old (withEntry n e tb) n ↔
    e.alertIndicator ≠ old.computer[n].alertIndicator ∨ e.alertSense ≠ old.computer[n].alertSense := by
  unfold AnewIn
  rw [withEntry_self]

section Entry

variable {n : Computer} {e : ComputerEntry}

/-- The consequences of an entry that keeps its parked field. -/
theorem afterComputer_entry (hp : e.parked = s.tables.computer[n].parked) :
    afterComputer s.tables (changeTables (withEntry n e s.tables) s) =
      afterSource s.tables (changeTables (withEntry n e s.tables) s) n :=
  afterComputer_one (withEntry_others e s) ((congrArg ComputerEntry.parked (withEntry_here n e s)).trans hp)

theorem afterComputer_entryTurned (hp : e.parked ≠ s.tables.computer[n].parked) :
    afterComputer s.tables (changeTables (withEntry n e s.tables) s) =
      recomputeFrames (afterSource s.tables
        (reseat (afterParked s.tables (changeTables (withEntry n e s.tables) s) n)) n) :=
  afterComputer_turned (withEntry_others e s) fun h => hp ((congrArg ComputerEntry.parked (withEntry_here n e s)).symm.trans h)

theorem afterComputer_entryKept (hp : e.parked = s.tables.computer[n].parked)
    (kept : ¬ AnewIn s.tables (withEntry n e s.tables) n) :
    afterComputer s.tables (changeTables (withEntry n e s.tables) s) = changeTables (withEntry n e s.tables) s :=
  (afterComputer_entry hp).trans (afterSource_kept kept)

theorem afterComputer_entryAnew (hp : e.parked = s.tables.computer[n].parked)
    (anew : AnewIn s.tables (withEntry n e s.tables) n) :
    afterComputer s.tables (changeTables (withEntry n e s.tables) s) =
      freshEvaluate n (changeTables (withEntry n e s.tables) s) :=
  (afterComputer_entry hp).trans (afterSource_anew anew)

theorem afterComputer_entryUnparked (ho : s.tables.computer[n].parked = true) (hn : e.parked = false) :
    afterComputer s.tables (changeTables (withEntry n e s.tables) s) = recomputeFrames (afterSource s.tables
      (reseat (freshEvaluate n (changeTables (withEntry n e s.tables) s))) n) := by
  rw [afterComputer_entryTurned (by rw [ho, hn]; decide),
    afterParked_unparked ho ((congrArg ComputerEntry.parked (withEntry_here n e s)).trans hn)]

theorem afterComputer_entryParked (ho : s.tables.computer[n].parked = false) (hn : e.parked = true) :
    afterComputer s.tables (changeTables (withEntry n e s.tables) s) = recomputeFrames (afterSource s.tables
      (reseat (parkSteps n (changeTables (withEntry n e s.tables) s))) n) := by
  rw [afterComputer_entryTurned (by rw [ho, hn]; decide),
    afterParked_parked ho ((congrArg ComputerEntry.parked (withEntry_here n e s)).trans hn)]

end Entry

theorem options_inside (h : first = 1) : 1 ≤ first.toNat ∧ first.toNat ≤ TableId.options.count := by
  rw [h]
  decide

/-- An options record as it comes: refused for its codes, or taken with its numbers clamped (R163). -/
theorem write_optionBytes (w : WriteReady r s) (x : OptionBytes) (params : r.params = 2 :: first :: 1 :: x.list)
    (hf : first = 1) (thawed : s.mgmt.freezeSet.getLsbD 1 = false) :
    (¬ x.Coded → exec (.tableWrite r) s = .next (replied 3 r .badValue [] s)) ∧
    (x.Coded → ∃ (o : Options) (t : State), x.Gives o ∧ OptionsFollow o s t ∧
      (o.bytes = x.list → exec (.tableWrite r) s = .next (replied 3 r .ok [] t)) ∧
      (o.bytes ≠ x.list → exec (.tableWrite r) s = .next (replied 3 r .okAdjusted [] t))) := by
  have call : WriteCall .options first [x.list] r s := w.single rfl (options_inside hf) params thawed
  refine ⟨fun uncoded => write_options_uncoded call (OptionBytes.parse_uncoded uncoded), fun coded => ?_⟩
  obtain ⟨o, clamped, parsed, g, unclamped⟩ := OptionBytes.parse_coded coded
  have write := write_options call parsed
  rw [← g.bytes_eq_iff] at unclamped
  refine ⟨o, _, g, optionsFollow o s, fun same => ?_, fun adjusted => ?_⟩
  · rw [unclamped.2 same] at write
    exact write
  · rw [Bool.eq_true_of_not_eq_false fun h => adjusted (unclamped.1 h)] at write
    exact write

theorem parked_tables (n : Computer) (e : ComputerEntry) (s : State) :
    (reseat (parkSteps n (changeTables (withEntry n e s.tables) s))).tables = withEntry n e s.tables :=
  ((quiet_parkSteps n (changeTables (withEntry n e s.tables) s)).trans (quiet_reseat _)).tables

/-- Settles O13: what passes the checks is accepted with its table's consequences, table by table. -/
theorem tableWriteReplacesEntries : Obligations.TableWriteReplacesEntries := by
  unfold Obligations.TableWriteReplacesEntries
  intro r s first taken manager noSave notStale agrees
  have ready : WriteReady r s := ⟨taken, manager, noSave, notStale, agrees⟩
  dsimp only
  refine ⟨fun l w h hw => ?_, fun l w ok h hw => ?_, fun l w ok h hw => ?_, fun l w ok h hw => ?_,
    fun l w ok h hw ⟨n, hn⟩ => ?_, fun n e ok hp hi hs hm params hf thawed => ?_,
    fun n e ok hm params hf thawed => ⟨fun hp anew => ?_, fun ho hn => ?_, fun ho hn => ?_⟩,
    fun o ok hff params hf thawed => ?_, fun o ok hff params hf thawed => ?_,
    fun d0 d1 c0 c1 pd wa w0 w1 s0 s1 tp wf wg wi ap ff fc sl params hf thawed => ?_,
    fun l w ok h hw valid => ?_, fun l w h hw => ?_, fun l w ok h hw => ⟨fun same => ?_, fun owned => ?_⟩,
    fun q rest ok length h => ?_, fun rest length h unlocked => ?_⟩
  · exact write_preset (ready.call (sized_map Assignment.bytes_length l) h) hw
  · exact write_pointer ok (ready.call (sized_map PointerEntry.bytes_length l) h) hw
  · exact write_translation ok (ready.call (sized_map TransEntry.bytes_length l) h) hw
  · exact write_hotkey ok (ready.call (sized_map HotkeyEntry.bytes_length l) h) hw
  · obtain ⟨a, b, c, t, e, parks, unmoved, moved, sources, stays, framed⟩ :=
      computerWritten s.tables (changeTables { s.tables with computer := w } s)
    refine ⟨a, b, c, t, ?_, parks, unmoved, moved, ?_, stays, framed⟩
    · rw [← e]
      exact write_computer ok (ready.call (sized_map ComputerEntry.bytes_length l) h) hw hn
    · rw [filter_sourceChanged] at sources
      exact sources
  · have kept : ¬ AnewIn s.tables (withEntry n e s.tables) n := fun anew =>
      (anewIn_withEntry.1 anew).elim (fun h => h hi) fun h => h hs
    have write := write_entry ok (ready.single e.bytes_length (num_inside hf) params thawed) hf hm
    rw [afterComputer_entryKept hp kept] at write
    exact write
  · have write := write_entry ok (ready.single e.bytes_length (num_inside hf) params thawed) hf hm
    rw [afterComputer_entryAnew hp (anewIn_withEntry.2 anew)] at write
    have t := sourceWritten n e s
    exact ⟨_, write, t.kept, t.mgmt, t.table, t.screens, t.alerts, t.changed, t.same⟩
  · have write := write_entry ok (ready.single e.bytes_length (num_inside hf) params thawed) hf hm
    rw [afterComputer_entryUnparked ho hn] at write
    have t := entryUnparked s.tables n e s
    rw [anewIn_withEntry] at t
    exact ⟨_, write, t.change.tables, t.change.generation, t.table, t.law, t.told, t.frames, t.screens, t.broadcast,
      t.sources, t.rotation, t.stays, t.moves, t.change.lock, t.change.channels, t.change.deskKeys⟩
  · have write := write_entry ok (ready.single e.bytes_length (num_inside hf) params thawed) hf hm
    rw [afterComputer_entryParked ho hn] at write
    refine ⟨_, parkToggle_entry hf hn s, ?_⟩
    obtain ⟨anew, kept⟩ := (entryParked (n := n) hn s).followed hn s.tables
    rw [parked_tables, anewIn_withEntry] at anew kept
    split
    next h =>
      rw [anew h] at write
      exact write
    next h =>
      rw [kept h] at write
      exact write
  · have write := write_options (ready.single o.bytes_length (options_inside hf) params thawed) (parseOptions_bytes ok)
    rw [optionsWritten_same hff] at write
    exact write
  · have write := write_options (ready.single o.bytes_length (options_inside hf) params thawed) (parseOptions_bytes ok)
    have t := optionsFollow o s
    exact ⟨_, write, t.kept, t.screens, t.framed hff⟩
  · obtain ⟨refused, accepted⟩ := write_optionBytes ready
      ⟨d0, d1, c0, c1, pd, wa, w0, w1, s0, s1, tp, wf, wg, wi, ap, ff, fc, sl⟩ params hf thawed
    refine ⟨refused, fun coded => ?_⟩
    obtain ⟨o, t, g, k, same, adjusted⟩ := accepted coded
    rw [params]
    exact ⟨o, t, g.doubleTapWindow, g.commandTimeout, g.peekDuration, g.wakeAttempts, g.wakeWindow, g.wakeAllStagger,
      g.typePacing, g.initialFocus, g.wakeOnFocus, g.wakeOnGlide, g.wakeOnInput, g.alertPolicy, g.focusFrame, g.startLocked,
      k.kept, k.screens, k.same, k.framed, same, adjusted⟩
  · have t := layoutWritten { s.tables with layout := w } s
    refine ⟨_, write_layout ok (ready.call (sized_map LayoutEntry.bytes_length l) h) hw valid, t.tables, t.generation,
      t.announced, fun x => ?_, t.law, t.told, t.lock, t.channels, t.deskKeys⟩
    have f := layoutFollows s.tables x (changeTables { s.tables with layout := w } s)
    exact ⟨f.native.trans (nativeSize_eq _ _), f.attached, f.displayed, f.pending, f.peek, f.turned, f.kept⟩
  · refine ⟨_, write_assignment (ready.call (sized_map Assignment.bytes_length l) h) hw,
      (afterAssignment_heard _ _).announced (changeTables_announced _ s), ?_⟩
    have order := afterAssignment_inOrder (s := changeTables { s.tables with assignment := w } s)
      ⟨.assignment, first.toNat, l.map Assignment.bytes⟩ w rfl
    rw [List.length_map] at order
    exact order
  · have write := write_channel ok (ready.call (sized_map ChannelEntry.bytes_length l) h) hw
    rw [afterChannel_same same] at write
    exact write
  · have write := write_channel ok (ready.call (sized_map ChannelEntry.bytes_length l) h) hw
    rw [afterChannel_owned owned] at write
    have t := channelWritten { s.tables with channel := w } s
    exact ⟨_, write, t.tables, t.generation, t.announced, t.law, t.told,
      screensKept_reseatFramed (changeTables { s.tables with channel := w } s), framesAnew_reseatFramed _, t.lock, t.channels,
      t.deskKeys⟩
  · have write := write_unlock ok (ready.call (List.forall_mem_singleton.2 (by simp [TableId.size]; omega)) h)
    rw [afterUnlock_eq] at write
    exact write
  · exact write_unlock_empty (ready.call (List.forall_mem_singleton.2 (by simp [length, TableId.size])) h) unlocked

end Sys2Proof.Machine
end

section
/-! # Tables, desk geometry, presets and peeks -/

/-! ## The tables stay valid and the lock record legal: the parts of the law (R113, R114, R119, R167) -/

namespace Sys2Proof.Machine

/-- The lock record `l` is legal beside the stored sequence `u` (R113, R114, R119). -/
structure LockOk (u : Option (List Nat)) (l : Lock) : Prop where
  sequence : l.state ≠ .unlocked → u.isSome = true
  progress : ∀ q, u = some q → l.state = .locked → l.progress < q.length
  idle : l.state ≠ .locked → l.progress = 0
  failures : l.failures ≤ 5
  lockout : l.failures = 5 ↔ l.state = .lockout
  timer : l.timer.isSome = true ↔ l.state = .lockout

/-- The images in the store and being saved are valid (R174). -/
structure ImagesOk (store : Option Tables) (saving : Option SaveInFlight) : Prop where
  stored : ∀ image, store = some image → image.Ok
  saving : ∀ sv, saving = some sv → sv.image.Ok

theorem tablesSafe_iff (s : State) : TablesSafe s ↔ s.tables.Ok ∧ ImagesOk s.store s.mgmt.saving ∧
    LockOk s.tables.unlock s.lock ∧ s.mgmt.generation ≤ 63 := by
  constructor
  · intro h
    exact ⟨h.live, ⟨h.stored, h.saving⟩, ⟨h.sequence, h.progress, h.idle, h.failures, h.lockout, h.timer⟩, h.generation⟩
  · rintro ⟨live, ⟨stored, saving⟩, lock, generation⟩
    exact ⟨live, stored, saving, lock.sequence, lock.progress, lock.idle, lock.failures, lock.lockout, lock.timer, generation⟩

theorem TablesSafe.images {s : State} (h : TablesSafe s) : ImagesOk s.store s.mgmt.saving := ⟨h.stored, h.saving⟩

theorem TablesSafe.lockOk {s : State} (h : TablesSafe s) : LockOk s.tables.unlock s.lock :=
  ⟨h.sequence, h.progress, h.idle, h.failures, h.lockout, h.timer⟩

/-! ### Lock records -/

theorem lockOk_unlocked (u : Option (List Nat)) : LockOk u ⟨.unlocked, 0, 0, none⟩ := by
  constructor <;> simp

/-- An unlock sequence has a first key to wait for (R114). -/
theorem sequenceOk.pos {q : List Nat} (h : sequenceOk q) : 0 < q.length := by
  obtain ⟨low, -, -⟩ := h
  omega

/-- A console just locked waits for the first key of a stored sequence (R116, R119). -/
theorem lockOk_locked {u : Option (List Nat)} (hu : u.isSome = true) (ok : ∀ q, u = some q → sequenceOk q) :
    LockOk u ⟨.locked, 0, 0, none⟩ where
  sequence _ := hu
  progress q hq _ := (ok q hq).pos
  idle h := absurd rfl h
  failures := by decide
  lockout := by decide
  timer := by decide

theorem lockOk_lockout {u : Option (List Nat)} (hu : u.isSome = true) (due : Nat) :
    LockOk u ⟨.lockout, 0, 5, some due⟩ := by
  constructor <;> simp [hu]

/-- In LOCKED progress may be any place in the sequence, and failures any count below five (R117, R119). -/
theorem LockOk.attempted {u : Option (List Nat)} {l : Lock} (h : LockOk u l) (hl : l.state = .locked) {progress failures : Nat}
    (hp : ∀ q, u = some q → progress < q.length) (hf : failures < 5) :
    LockOk u { l with progress := progress, failures := failures } where
  sequence := h.sequence
  progress q hq _ := hp q hq
  idle hn := absurd hl hn
  failures := hf.le
  lockout := by simp [hl, hf.ne]
  timer := h.timer

/-- A stored sequence that replaces another puts progress back to 0 in LOCKED (R114). -/
theorem LockOk.restarted {u v : Option (List Nat)} {l : Lock} (h : LockOk u l) (ok : ∀ q, v = some q → sequenceOk q)
    (hv : l.state ≠ .unlocked → v.isSome = true) :
    LockOk v { l with progress := if l.state = .locked then 0 else l.progress } where
  sequence := hv
  progress q hq hl := by
    dsimp only at hl ⊢
    rw [if_pos hl]
    exact (ok q hq).pos
  idle hn := (if_neg hn).trans (h.idle hn)
  failures := h.failures
  lockout := h.lockout
  timer := h.timer

theorem lockOk_powerOn {tb : Tables} (ok : tb.Ok) : LockOk tb.unlock (Lock.powerOn tb) := by
  unfold Lock.powerOn
  split
  next h =>
    unfold startsLocked at h
    exact lockOk_locked (Bool.and_eq_true _ _ ▸ h : _ ∧ _).2 ok.unlock
  next => exact lockOk_unlocked _

/-! ### Operations that the law does not see -/

/-- `t` has the tables, the images, the lock record and the generation counter of `s`. -/
structure TablesFixed (s t : State) : Prop where
  tables : t.tables = s.tables
  store : t.store = s.store
  saving : t.mgmt.saving = s.mgmt.saving
  lock : t.lock = s.lock
  generation : t.mgmt.generation = s.mgmt.generation

theorem TablesFixed.refl (s : State) : TablesFixed s s := ⟨rfl, rfl, rfl, rfl, rfl⟩

theorem TablesFixed.trans {s t u : State} (h : TablesFixed s t) (k : TablesFixed t u) : TablesFixed s u :=
  ⟨k.tables.trans h.tables, k.store.trans h.store, k.saving.trans h.saving, k.lock.trans h.lock,
    k.generation.trans h.generation⟩

theorem TablesFixed.safe {s t : State} (k : TablesFixed s t) (h : TablesSafe s) : TablesSafe t := by
  rw [tablesSafe_iff] at h ⊢
  rwa [k.tables, k.store, k.saving, k.lock, k.generation]

theorem Quiet.fixed {s t : State} (q : Quiet s t) : TablesFixed s t :=
  ⟨q.tables, q.store, q.saving, q.lock, q.generation⟩

theorem Quiet.safe {s t : State} (q : Quiet s t) (h : TablesSafe s) : TablesSafe t := q.fixed.safe h

theorem fixed_foldl {α : Type} {f : State → α → State} (hf : ∀ s a, TablesFixed s (f s a)) (l : List α) (s : State) :
    TablesFixed s (l.foldl f s) := by
  induction l generalizing s with
  | nil => exact .refl s
  | cons a l ih => exact (hf s a).trans (ih _)

theorem fixed_setMatcher (s : State) (v) : TablesFixed s (s.setMatcher v) := ⟨rfl, rfl, rfl, rfl, rfl⟩
theorem fixed_setConsole (s : State) (v) : TablesFixed s (s.setConsole v) := ⟨rfl, rfl, rfl, rfl, rfl⟩
theorem fixed_setChannels (s : State) (v) : TablesFixed s (s.setChannels v) := ⟨rfl, rfl, rfl, rfl, rfl⟩
theorem fixed_setWakeAll (s : State) (v) : TablesFixed s (s.setWakeAll v) := ⟨rfl, rfl, rfl, rfl, rfl⟩
theorem fixed_setPending (s : State) (v) : TablesFixed s (s.setPending v) := ⟨rfl, rfl, rfl, rfl, rfl⟩
theorem fixed_elapse (s : State) (d) : TablesFixed s (s.elapse d) := ⟨rfl, rfl, rfl, rfl, rfl⟩
theorem fixed_advanceTo (s : State) (t) : TablesFixed s (s.advanceTo t) := fixed_elapse s _
theorem fixed_modConsolePort (c f) (s : State) : TablesFixed s (modConsolePort c f s) := fixed_setConsole s _

theorem fixed_setChannel (c r) (s : State) : TablesFixed s (setChannel c r s) := by
  unfold setChannel
  dsimp only
  split
  · exact fixed_setChannels s _
  · exact (fixed_setChannels s _).trans (quiet_raise _ _).fixed

theorem fixed_issueWakes (l : List Computer) (s : State) : TablesFixed s (issueWakes l s) := by
  induction l generalizing s with
  | nil => exact fixed_setWakeAll s _
  | cons n l ih =>
    have woken := (quiet_wakeRequest n s).fixed
    unfold issueWakes
    dsimp only
    split
    · exact woken.trans (fixed_setWakeAll _ _)
    · split
      · exact woken.trans (ih _)
      · exact woken.trans (fixed_setWakeAll _ _)

theorem fixed_actWakeAll (s : State) : TablesFixed s (actWakeAll s) := by
  unfold actWakeAll
  split
  · exact .refl s
  · split
    · exact .refl s
    · exact fixed_issueWakes _ s

theorem fixed_actCommand (s : State) : TablesFixed s (actCommand s) := by
  unfold actCommand
  split
  · exact fixed_setMatcher s _
  · exact .refl s

/-! ### Key releases, button events and motion -/

theorem fixed_lockKeyRelease (k m) (s : State) : TablesFixed s (lockKeyRelease k m s) := by
  unfold lockKeyRelease
  split
  · exact (fixed_setMatcher s _).trans ((quiet_markTypeout _ _).trans (quiet_focusKeyRelease _ _ _)).fixed
  all_goals exact (quiet_markAlone _ s).fixed

theorem fixed_deviceRelease (c) (s : State) (k) : TablesFixed s (deviceRelease c s k) := by
  unfold deviceRelease
  split
  · exact .refl s
  · exact (fixed_setConsole s _).trans (fixed_lockKeyRelease _ _ _)

theorem fixed_deviceButtonRelease (c) (s : State) (b) : TablesFixed s (deviceButtonRelease c s b) := by
  unfold deviceButtonRelease
  split
  · exact .refl s
  · exact (fixed_setConsole s _).trans (quiet_lockButtonRelease _ _ _).fixed

theorem fixed_deviceButtonPress (s : State) (b) : TablesFixed s (deviceButtonPress s b) := by
  unfold deviceButtonPress
  split
  · exact .refl s
  · exact (fixed_setConsole s _).trans (quiet_lockButtonPress _ _).fixed

theorem fixed_takeButtons (c o n dx dy wheel) (s : State) : TablesFixed s (takeButtons c o n dx dy wheel s) :=
  (fixed_foldl (fixed_deviceButtonRelease c) _ s).trans ((quiet_reportMotion _ _ _ _ _).fixed.trans
    ((fixed_foldl fixed_deviceButtonPress _ _).trans (fixed_modConsolePort _ _ _)))

/-- A key set without presses. -/
theorem fixed_takeKeySet_nil (c o) (s : State) : TablesFixed s (takeKeySet c o [] s) := by
  have nothing : keyPresses o [] = [] := by simp [keyPresses, setDiff]
  unfold takeKeySet
  rw [nothing]
  exact (fixed_foldl (fixed_deviceRelease c) _ s).trans (fixed_modConsolePort _ _ _)

theorem fixed_doConsoleDetach (c) (s : State) : TablesFixed s (doConsoleDetach c s) := by
  unfold doConsoleDetach
  split
  · exact .refl s
  · exact (fixed_takeKeySet_nil _ _ s).trans (fixed_modConsolePort _ _ _)
  · exact (fixed_takeButtons _ _ _ _ _ _ s).trans (fixed_modConsolePort _ _ _)
  · exact fixed_modConsolePort _ _ s

theorem fixed_doConsoleAttach (c d) (s : State) : TablesFixed s (doConsoleAttach c d s) := by
  have attached : TablesFixed s (modConsolePort c (fun _ => classify d) (doConsoleDetach c s)) :=
    (fixed_doConsoleDetach c s).trans (fixed_modConsolePort _ _ _)
  unfold doConsoleAttach
  dsimp only
  split
  · exact attached.trans (fixed_setConsole _ _)
  all_goals exact attached

theorem fixed_doPointerReport (c r) (s : State) : TablesFixed s (doPointerReport c r s) := by
  unfold doPointerReport
  split
  · exact fixed_takeButtons _ _ _ _ _ _ s
  all_goals exact .refl s

theorem fixed_doIndicatorOutputEnd (c how a) (s : State) : TablesFixed s (doIndicatorOutputEnd c how a s) := by
  unfold doIndicatorOutputEnd
  split
  · unfold endOutput
    split
    · exact (fixed_modConsolePort c _ s).trans (fixed_setConsole _ _)
    all_goals exact fixed_modConsolePort c _ s
  · exact .refl s

/-! ### Timers -/

theorem fixed_doDoubleTapExpiry (s : State) : TablesFixed s (doDoubleTapExpiry s) := by
  unfold doDoubleTapExpiry
  split
  · exact .refl s
  · exact (fixed_advanceTo s _).trans (fixed_setMatcher _ _)

theorem fixed_doCommandExpiry (s : State) : TablesFixed s (doCommandExpiry s) := by
  unfold doCommandExpiry
  split
  · exact .refl s
  · exact (fixed_advanceTo s _).trans (fixed_setMatcher _ _)

theorem quiet_pressNext (n) (s : State) : Quiet s (pressNext n s) := by
  unfold pressNext
  dsimp only
  split
  · split
    · exact (quiet_takeUp s).trans (((quiet_setBelief n _ _).trans (quiet_modPort n _ _)).trans (quiet_setTypeout _ _))
    · exact quiet_takeUp s
  · exact quiet_takeUp s

theorem fixed_doTypeOutPress (s : State) : TablesFixed s (doTypeOutPress s) := by
  unfold doTypeOutPress
  split
  · split
    · exact (fixed_advanceTo s _).trans (quiet_pressNext _ _).fixed
    · exact .refl s
  · exact .refl s

theorem quiet_releaseDue (n c next) (s : State) : Quiet s (releaseDue n c next s) :=
  ((quiet_setBelief n _ s).trans (quiet_modPort n _ _)).trans ((quiet_setTypeout _ _).trans (quiet_takeUp _))

theorem fixed_doTypeOutReleaseDue (s : State) : TablesFixed s (doTypeOutReleaseDue s) := by
  unfold doTypeOutReleaseDue
  split
  · exact (fixed_advanceTo s _).trans (quiet_releaseDue _ _ _ _).fixed
  · exact .refl s

theorem fixed_doStallExpiry (n) (s : State) : TablesFixed s (doStallExpiry n s) := by
  unfold doStallExpiry
  split
  · exact .refl s
  · exact (fixed_advanceTo s _).trans ((quiet_modPort n _ _).trans ((quiet_clearBelief n _).trans
      ((quiet_typeoutLeftReady n _).trans (quiet_raise _ _)))).fixed

theorem fixed_doSettleExpiry (n) (s : State) : TablesFixed s (doSettleExpiry n s) := by
  unfold doSettleExpiry
  split
  · exact .refl s
  · dsimp only
    split
    · exact (fixed_advanceTo s _).trans ((quiet_modPort n _ _).trans (quiet_deferredWake n _)).fixed
    · exact (fixed_advanceTo s _).trans (quiet_modPort n _ _).fixed

theorem fixed_doSignallingEnd (n) (s : State) : TablesFixed s (doSignallingEnd n s) := by
  unfold doSignallingEnd
  split
  · exact (fixed_advanceTo s _).trans (quiet_modPort n _ _).fixed
  · exact .refl s

theorem fixed_doWakeWindowExpiry (n) (s : State) : TablesFixed s (doWakeWindowExpiry n s) := by
  unfold doWakeWindowExpiry
  split
  · dsimp only
    split
    · exact (fixed_advanceTo s _).trans (quiet_failWake n _).fixed
    · exact (fixed_advanceTo s _).trans (quiet_modPort n _ _).fixed
  · exact .refl s

theorem fixed_doStaggerExpiry (s : State) : TablesFixed s (doStaggerExpiry s) := by
  unfold doStaggerExpiry
  split
  · exact .refl s
  · exact (fixed_advanceTo s _).trans (fixed_issueWakes _ _)

theorem fixed_doPeekExpiry (sc) (s : State) : TablesFixed s (doPeekExpiry sc s) := by
  unfold doPeekExpiry
  split
  · exact .refl s
  · exact (fixed_elapse s _).trans (quiet_endPeek sc _).fixed

/-! ### Desk reset, replies and the bodies of requests -/

theorem fixed_deskReset (s : State) : TablesFixed s (deskReset s) := by
  have peeks : TablesFixed s (screenNos.foldl endPeekQuiet (clearMatcher (endTypeout .cancelledFocus s))) :=
    (quiet_endTypeout _ s).fixed.trans ((fixed_setMatcher _ _).trans (quiet_foldl _ quiet_endPeekQuiet screenNos _).fixed)
  have seated := peeks.trans ((quiet_focusAtDeskReset _).trans
    (quiet_foldl _ (fun u _ => quiet_reseat u) (quietScreens s) _)).fixed
  unfold deskReset
  exact seated.trans (((quiet_resetAlerts _).trans (quiet_setPorts _ _)).fixed.trans
    ((fixed_setWakeAll _ _).trans (quiet_recomputeFrames _).fixed))

theorem fixed_depositBody (r) (s : State) : TablesFixed s (depositBody r s).1 := by
  unfold depositBody
  dsimp only
  split
  · exact .refl s
  · split
    · exact ((quiet_setTypeout s _).trans (quiet_raise _ _)).fixed
    · exact .refl s

theorem fixed_clearBody (s : State) : TablesFixed s (clearBody s).1 := by
  unfold clearBody
  split
  · exact .refl s
  · exact ((quiet_setTypeout s _).trans (quiet_raise _ _)).fixed

theorem fixed_setSummary (n v) (s : State) : TablesFixed s (setSummary n v s) := ⟨rfl, rfl, rfl, rfl, rfl⟩
theorem fixed_setMask (n v) (s : State) : TablesFixed s (setMask n v s) := ⟨rfl, rfl, rfl, rfl, rfl⟩

theorem fixed_eventsBody (r) (s : State) : TablesFixed s (eventsBody r s).1 := by
  unfold eventsBody
  split
  · exact .refl s
  · dsimp only
    split
    · exact fixed_setSummary _ _ s
    · exact (fixed_setSummary _ _ s).trans (fixed_setMask _ _ _)

theorem fixed_freezeBody (r) (s : State) : TablesFixed s (freezeBody r s).1 := by
  unfold freezeBody
  split
  · exact .refl s
  · exact ⟨rfl, rfl, rfl, rfl, rfl⟩

theorem quiet_setSlot (p slot) (s : State) : Quiet s (setSlot p slot s) := quiet_modPort p _ s

theorem quiet_putReply (p command tag st results) (s : State) : Quiet s (putReply p command tag st results s) :=
  quiet_modPort p _ s

theorem quiet_answer (command r) (o : State × Option (Status × List Byte)) : Quiet o.1 (answer command r o) := by
  unfold answer
  split
  · exact .refl _
  · exact quiet_putReply _ _ _ _ _ _

theorem quiet_replySave (p st) (s : State) : Quiet s (replySave p st s) := by
  unfold replySave
  split
  · exact quiet_putReply _ _ _ _ _ s
  all_goals exact .refl s

theorem quiet_doReplyRead (p) (s : State) : Quiet s (doReplyRead p s) := by
  unfold doReplyRead
  split
  · exact quiet_modPort p _ s
  · exact .refl s

theorem quiet_doNotificationTake (p) (s : State) : Quiet s (doNotificationTake p s) := by
  unfold doNotificationTake
  split
  · split
    · exact .refl s
    · exact quiet_modPort p _ s
  · exact .refl s

end Sys2Proof.Machine
end


section
/-! ## Written tables are valid (R46, R114, R162, R163, R165) -/

namespace Sys2Proof.Machine

/-! ### Entries that parse -/

theorem parseComputer_ok {l : List Byte} {e : ComputerEntry} (h : parseComputer l = some e) : e.Ok := by
  unfold parseComputer at h
  split at h
  · simp only [Option.bind_eq_bind, Option.bind_eq_some_iff, Option.some.injEq] at h
    obtain ⟨-, -, -, -, -, -, w, hw, h, hh, -, -, -, -, -, -, p, hp, -, -, rfl⟩ := h
    exact ⟨(inRange_some hw).2, (inRange_some hh).2, (inRange_some hp).2⟩
  · cases h

theorem le_clampNat {lo hi x : Nat} : lo ≤ clampNat lo hi x := by
  unfold clampNat
  omega

theorem parseOptions_ok {l : List Byte} {o : Options} {clamped : Bool} (h : parseOptions l = some (o, clamped)) : o.Ok := by
  unfold parseOptions at h
  split at h
  · simp only [Option.bind_eq_bind, Option.bind_eq_some_iff, Option.some.injEq, Prod.mk.injEq] at h
    obtain ⟨-, -, -, -, -, -, -, -, -, -, -, -, rfl, -⟩ := h
    exact ⟨⟨le_clampNat, clampNat_le (by decide)⟩, ⟨le_clampNat, clampNat_le (by decide)⟩,
      ⟨le_clampNat, clampNat_le (by decide)⟩, ⟨le_clampNat, clampNat_le (by decide)⟩,
      ⟨le_clampNat, clampNat_le (by decide)⟩, clampNat_le (by decide), le_clampNat, clampNat_le (by decide)⟩
  · cases h

theorem nativeOf_ok {n m : Nat} (h : nativeOf n = some m) : nativeOk m := by
  unfold nativeOf at h
  split at h
  · cases h
    exact .inl rfl
  · exact .inr (inRange_some h)

theorem parseLayout_ok {l : List Byte} {e : LayoutEntry} (h : parseLayout l = some e) : e.Ok := by
  unfold parseLayout at h
  split at h
  · simp only [Option.bind_eq_bind, Option.bind_eq_some_iff, Option.ite_none_right_eq_some, Option.some.injEq] at h
    obtain ⟨-, -, x, hx, y, hy, w, hw, h, hh, -, -, nw, hnw, nh, hnh, both, rfl⟩ := h
    exact ⟨(inRange_some hx).2, (inRange_some hy).2, inRange_some hw, inRange_some hh, nativeOf_ok hnw, nativeOf_ok hnh, both⟩
  · cases h

theorem parseChannel_ok {l : List Byte} {e : ChannelEntry} (h : parseChannel l = some e) : e.Ok := by
  unfold parseChannel at h
  split at h
  · simp only [Option.bind_eq_bind, Option.bind_eq_some_iff, Option.some.injEq] at h
    obtain ⟨-, -, x, hx, y, hy, rfl⟩ := h
    exact ⟨(inRange_some hx).2, (inRange_some hy).2⟩
  · cases h

theorem toNat_le (b : Byte) : b.toNat ≤ 255 := Nat.le_of_lt_succ b.isLt

theorem toNat_pos {b : Byte} (h : b ≠ 0) : 1 ≤ b.toNat :=
  Nat.one_le_iff_ne_zero.2 fun e => h (BitVec.eq_of_toNat_eq e)

theorem parsePointer_ok {l : List Byte} {e : PointerEntry} (h : parsePointer l = some e) : e.Ok := by
  unfold parsePointer at h
  split at h
  · split at h
    · cases h
    next hg =>
      cases h
      exact ⟨⟨toNat_pos hg, toNat_le _⟩, toNat_le _, toNat_le _⟩
  · cases h

theorem parseHotkey_ok {l : List Byte} {e : HotkeyEntry} (h : parseHotkey l = some e) : e.Ok := by
  unfold parseHotkey at h
  split at h
  · simp only [Option.bind_eq_bind, Option.bind_eq_some_iff, Option.ite_none_left_eq_some, Option.some.injEq] at h
    obtain ⟨on, -, -, -, -, -, -, -, -, -, -, -, -, -, keyed, rfl⟩ := h
    refine ⟨toNat_le _, toNat_le _, toNat_le _, fun hon => ?_⟩
    exact Nat.one_le_iff_ne_zero.1 (toNat_pos fun zero => keyed ⟨hon, zero⟩)
  · cases h

theorem parseTranslation_ok {l : List Byte} {e : TransEntry} (h : parseTranslation l = some e) : e.key ≤ 255 := by
  unfold parseTranslation at h
  split at h
  · simp only [Option.bind_eq_bind, Option.bind_eq_some_iff, Option.some.injEq] at h
    obtain ⟨-, -, rfl⟩ := h
    exact toNat_le _
  · cases h

/-- A sequence that parses out of an entry of the entry's size is valid (R114, R178). -/
theorem parseUnlock_ok {l : List Byte} {q : List Nat} (sized : l.length = 17) (h : parseUnlock l = some (some q)) :
    sequenceOk q := by
  unfold parseUnlock at h
  split at h
  · cases h
  next len keys =>
    split at h
    · cases h
    · split at h
      · cases h
      next range =>
        split at h
        · cases h
        next nonzero =>
          cases h
          simp only [List.length_cons] at sized
          refine ⟨?_, ?_, fun k hk => ?_⟩
          · rw [List.length_map, List.length_take]
            omega
          · rw [List.length_map, List.length_take]
            omega
          · obtain ⟨b, hb, rfl⟩ := List.mem_map.1 hk
            exact ⟨toNat_pos fun zero => nonzero (zero ▸ hb), toNat_le b⟩

/-! ### Tables with entries replaced -/

theorem writeEntries_keeps {α : Type} {n : Nat} {P : α → Prop} {parse : List Byte → Option α} {v w : Vector α n}
    {args : WriteArgs} (h : writeEntries parse v args = some w) (parsed : ∀ {e a}, parse e = some a → P a)
    (hv : ∀ j : Fin n, P v[j]) (j : Fin n) : P w[j] := by
  obtain old | ⟨e, he⟩ := writeEntries_cases h j
  · rw [old]
    exact hv j
  · exact parsed he

theorem hasManager_iff (v : Vector ComputerEntry 8) : hasManager v = true ↔ ∃ n : Computer, v[n].manager = true := by
  unfold hasManager
  rw [List.any_eq_true]
  constructor
  · rintro ⟨e, he, hm⟩
    obtain ⟨i, hi, rfl⟩ := Vector.mem_iff_getElem.1 (Vector.mem_toList_iff.1 he)
    exact ⟨⟨i, hi⟩, hm⟩
  · rintro ⟨n, hn⟩
    exact ⟨v[n], Vector.mem_toList_iff.2 (Vector.getElem_mem n.isLt), hn⟩

/-- The tables `tb` are valid, and those of a console that is not UNLOCKED hold a sequence: what a write that passes the
owner's validation leaves (R165). -/
structure WriteValid (s : State) (tb : Tables) : Prop where
  ok : tb.Ok
  sequence : s.lock.state ≠ .unlocked → tb.unlock.isSome = true

/-- Each table that a write with entries of their table's size can lead to is valid. -/
theorem writeValid_resultingTables {w : WriteArgs} {s : State} {tb : Tables} {clamped : Bool} (safe : TablesSafe s)
    (sized : ∀ e ∈ w.entries, e.length = w.table.size) (h : resultingTables w s = some (tb, clamped)) : WriteValid s tb := by
  have live := safe.live
  unfold resultingTables at h
  dsimp only at h
  split at h
  next =>
    split at h
    next v hv =>
      split at h
      next hm =>
        cases h
        exact ⟨{ live with
          computer := writeEntries_keeps hv parseComputer_ok live.computer
          manager := (hasManager_iff v).1 hm }, safe.sequence⟩
      next => cases h
    next => cases h
  next =>
    split at h
    next e _ =>
      split at h
      next o _ ho =>
        cases h
        exact ⟨{ live with options := parseOptions_ok ho }, safe.sequence⟩
      next => cases h
    next => cases h
  next =>
    split at h
    next v hv =>
      split at h
      next hl =>
        cases h
        exact ⟨{ live with layout := writeEntries_keeps hv parseLayout_ok live.layout, desk := hl }, safe.sequence⟩
      next => cases h
    next => cases h
  next =>
    obtain ⟨v, -, e⟩ := Option.map_eq_some_iff.1 h
    cases e
    exact ⟨{ live with }, safe.sequence⟩
  next =>
    obtain ⟨v, -, e⟩ := Option.map_eq_some_iff.1 h
    cases e
    exact ⟨{ live with }, safe.sequence⟩
  next =>
    obtain ⟨v, hv, e⟩ := Option.map_eq_some_iff.1 h
    cases e
    exact ⟨{ live with channel := writeEntries_keeps hv parseChannel_ok live.channel }, safe.sequence⟩
  next =>
    obtain ⟨v, hv, e⟩ := Option.map_eq_some_iff.1 h
    cases e
    exact ⟨{ live with pointer := writeEntries_keeps hv parsePointer_ok live.pointer }, safe.sequence⟩
  next =>
    obtain ⟨v, hv, e⟩ := Option.map_eq_some_iff.1 h
    cases e
    exact ⟨{ live with hotkey := writeEntries_keeps hv parseHotkey_ok live.hotkey }, safe.sequence⟩
  next =>
    obtain ⟨v, hv, e⟩ := Option.map_eq_some_iff.1 h
    cases e
    exact ⟨{ live with
      translation := writeEntries_keeps (P := fun e => e.key ≤ 255) hv parseTranslation_ok live.translation }, safe.sequence⟩
  next hw =>
    rw [hw] at sized
    split at h
    next e he =>
      rw [he] at sized
      split at h
      next =>
        split at h
        next unlocked =>
          cases h
          exact ⟨{ live with unlock := fun q hq => by cases hq }, fun locked => absurd unlocked locked⟩
        next => cases h
      next q hq =>
        cases h
        have ok := parseUnlock_ok (sized e (List.mem_singleton.2 rfl)) hq
        exact ⟨{ live with unlock := fun r hr => by cases hr; exact ok }, fun _ => rfl⟩
      next => cases h
    next => cases h

/-! ### The entries of a write -/

theorem chunks_length {size : Nat} (n : Nat) {l : List Byte} (h : l.length = n * size) :
    ∀ e ∈ chunks size n l, e.length = size := by
  induction n generalizing l with
  | zero => exact fun e he => by cases he
  | succ n ih =>
    have total : l.length = n * size + size := h.trans (Nat.succ_mul n size)
    intro e he
    obtain rfl | he := List.mem_cons.1 he
    · rw [List.length_take]
      omega
    · exact ih (by rw [List.length_drop]; omega) e he

theorem writeArgs_sized {r : Request} {w : WriteArgs} (h : writeArgs r = some w) :
    ∀ e ∈ w.entries, e.length = w.table.size := by
  unfold writeArgs at h
  split at h
  · split at h
    · cases h
    next t _ =>
      split at h
      next fits =>
        cases h
        exact chunks_length _ fits.2.2
      next => cases h
  · cases h

/-! ### The defaults (R175) -/

theorem lookup_le {m code key : Nat} {l : List (Nat × Nat)} (hl : ∀ p ∈ l, p.2 ≤ m) (h : l.lookup code = some key) :
    key ≤ m := by
  obtain ⟨l₁, l₂, rfl, -⟩ := List.lookup_eq_some_iff.1 h
  exact hl (code, key) (List.mem_append_right _ List.mem_cons_self)

theorem defaultTranslationOf_key_le (code : Nat) : (defaultTranslationOf code).key ≤ 255 := by
  unfold defaultTranslationOf
  split
  · dsimp only
    omega
  · split
    · dsimp only
      omega
    · split
      · dsimp only
        omega
      · split
        next h => exact lookup_le (by decide) h
        next =>
          split
          next h => exact lookup_le (by decide) h
          next => exact Nat.zero_le _

theorem defaultTables_ok : defaultTables.Ok where
  computer n := by
    have e : defaultTables.computer[n] = defaultComputer n := by simp [defaultTables]
    rw [e]
    exact ⟨by simp [defaultComputer], by simp [defaultComputer], by simp [defaultComputer]⟩
  manager := ⟨0, rfl⟩
  options := by
    unfold Options.Ok
    decide
  layout sc := by
    have e : defaultTables.layout[sc] = defaultLayout sc := by simp [defaultTables]
    rw [e]
    revert sc
    unfold LayoutEntry.Ok nativeOk
    decide
  desk := rfl
  channel c := by
    have e : defaultTables.channel[c] = defaultChannel c := by simp [defaultTables]
    rw [e]
    revert c
    unfold ChannelEntry.Ok
    decide
  pointer c := by
    have e : defaultTables.pointer[c] = defaultPointer := by simp [defaultTables]
    rw [e]
    unfold PointerEntry.Ok
    decide
  hotkey i := by
    have e : defaultTables.hotkey[i] = defaultHotkey i := by simp [defaultTables]
    rw [e]
    revert i
    unfold HotkeyEntry.Ok
    decide
  translation i := by
    have e : defaultTables.translation[i] = defaultTranslationOf (transCode i) := by simp [defaultTables]
    rw [e]
    exact defaultTranslationOf_key_le _
  unlock q h := by cases h

end Sys2Proof.Machine
end


section
/-! ## The tables stay valid and the lock record legal: every step (R46, R113, R114, R162, R163, R167, R174) -/

namespace Sys2Proof.Machine

/-! ### A change of the tables, and of the lock record -/

theorem nextGeneration_le {g : Nat} (h : g ≤ 63) : nextGeneration g ≤ 63 := by
  unfold nextGeneration
  split <;> omega

/-- The tables change to valid ones, and the lock record to one legal beside them (R166, R167). -/
theorem tablesSafe_changeTables {s : State} {tb : Tables} {l : Lock} (h : TablesSafe s) (ok : tb.Ok)
    (hl : LockOk tb.unlock l) : TablesSafe ((changeTables tb s).setLock l) :=
  (tablesSafe_iff _).2 ⟨ok, h.images, hl, nextGeneration_le h.generation⟩

/-- A change of the tables that leaves the stored sequence. -/
theorem tablesSafe_changed {s : State} {tb : Tables} (h : TablesSafe s) (ok : tb.Ok) (hu : tb.unlock = s.tables.unlock) :
    TablesSafe (changeTables tb s) :=
  tablesSafe_changeTables (l := s.lock) h ok (hu ▸ h.lockOk)

theorem tablesSafe_setLock {s : State} {l : Lock} (h : TablesSafe s) (hl : LockOk s.tables.unlock l) :
    TablesSafe (s.setLock l) :=
  (tablesSafe_iff _).2 ⟨h.live, h.images, hl, h.generation⟩

theorem tablesSafe_setLockRecord {s : State} {l : Lock} (h : TablesSafe s) (hl : LockOk s.tables.unlock l) :
    TablesSafe (setLockRecord l s) :=
  (quiet_syncBlanked _).safe (tablesSafe_setLock h hl)

/-! ### The lock (R116 to R120) -/

theorem tablesSafe_unlockConsole {s : State} (h : TablesSafe s) : TablesSafe (unlockConsole s) :=
  (quiet_raise _ _).safe (tablesSafe_setLockRecord h (lockOk_unlocked _))

theorem tablesSafe_actUnlock {s : State} (h : TablesSafe s) : TablesSafe (actUnlock s) := by
  unfold actUnlock
  split
  · exact h
  all_goals exact tablesSafe_unlockConsole h

theorem tablesSafe_actLock {s : State} (h : TablesSafe s) : TablesSafe (actLock s) := by
  unfold actLock
  split
  next q _ hq =>
    have locked := tablesSafe_setLockRecord h (lockOk_locked (Option.isSome_of_mem hq) h.live.unlock)
    have cleared := (fixed_setMatcher _ ⟨false, none, none⟩).safe ((quiet_endTypeout .cancelledLock _).safe locked)
    exact ((quiet_endAllPeeks _).trans ((quiet_focusAtLock _).trans (quiet_raise _ _))).safe cleared
  next => exact h

/-- A failed attempt of a sequence longer than the progress it leaves (R117, R119). -/
theorem tablesSafe_failAttempt {s : State} {progress : Nat} (h : TablesSafe s) (hl : s.lock.state = .locked)
    (hp : ∀ q, s.tables.unlock = some q → progress < q.length) : TablesSafe (failAttempt progress s) := by
  have locked : s.tables.unlock.isSome = true := h.sequence (by rw [hl]; decide)
  unfold failAttempt
  dsimp only
  split
  next => exact (quiet_raise _ _).safe (tablesSafe_setLockRecord h (lockOk_lockout locked _))
  next few =>
    exact (quiet_raise _ _).safe (tablesSafe_setLockRecord h (h.lockOk.attempted hl hp (Nat.lt_of_not_le few)))

/-- A press in LOCKED: it matches and moves on or unlocks, is no attempt, or fails one (R117). -/
theorem tablesSafe_lockedPress {s : State} (k) (h : TablesSafe s) (hl : s.lock.state = .locked) :
    TablesSafe (lockedPress k s) := by
  unfold lockedPress
  split
  · exact h
  next q hq =>
    have only : ∀ r, s.tables.unlock = some r → r = q := fun r hr => Option.some.inj (hr.symm.trans hq)
    have few : s.lock.failures < 5 := by
      refine lt_of_le_of_ne h.failures fun five => ?_
      exact absurd (hl.symm.trans (h.lockout.1 five)) (by decide)
    unfold comparePress
    split
    · split
      next more =>
        exact tablesSafe_setLock h (h.lockOk.attempted hl (fun r hr => only r hr ▸ more) few)
      next => exact tablesSafe_unlockConsole h
    · split
      · exact h
      · refine tablesSafe_failAttempt h hl fun r hr => ?_
        obtain ⟨low, -, -⟩ := h.live.unlock r hr
        split <;> omega

theorem tablesSafe_doLockoutExpiry {s : State} (h : TablesSafe s) : TablesSafe (doLockoutExpiry s) := by
  unfold doLockoutExpiry
  split
  · exact h
  next due hd =>
    have lockout : s.lock.state = .lockout := h.timer.1 (Option.isSome_of_mem hd)
    have sequence : s.tables.unlock.isSome = true := h.sequence (by rw [lockout]; decide)
    exact (quiet_raise _ _).safe (tablesSafe_setLockRecord ((fixed_advanceTo s due).safe h)
      (lockOk_locked sequence h.live.unlock))

/-! ### Actions that change a table (R32, R83, R85) -/

theorem tablesSafe_actShow (sn c) {s : State} (h : TablesSafe s) : TablesSafe (actShow sn c s) := by
  unfold actShow
  split
  · split
    · exact h
    · exact (quiet_setRequested _ _ _).safe (tablesSafe_changed h { h.live with } rfl)
  · exact h

theorem quiet_presetScreen (old p) (s : State) (sc) : Quiet s (presetScreen old p s sc) := by
  unfold presetScreen
  split
  · exact .refl s
  · exact quiet_setRequested _ _ s

theorem tablesSafe_actPreset (n) {s : State} (h : TablesSafe s) : TablesSafe (actPreset n s) := by
  unfold actPreset
  dsimp only
  split
  · exact h
  · split
    · exact h
    · exact (quiet_foldl _ (quiet_presetScreen _ _) screenNos _).safe (tablesSafe_changed h { h.live with } rfl)

/-- A turned parked field is none of the fields with ranges. -/
theorem parkTurned_ok (c : Computer) {tb : Tables} (ok : tb.Ok) : (parkTurned c tb).Ok := by
  have entry : ∀ n : Computer, (parkTurned c tb).computer[n] =
      if c = n then { tb.computer[n] with parked := !tb.computer[n].parked } else tb.computer[n] := fun n => by
    split
    next e =>
      subst e
      exact parkTurned_entry c tb
    next e =>
      have e' : c.val ≠ n.val := fun h => e (Fin.ext h)
      simp [parkTurned, e']
  refine { ok with computer := fun n => ?_, manager := ?_ }
  · rw [entry]
    split <;> exact ok.computer n
  · obtain ⟨n, hn⟩ := ok.manager
    refine ⟨n, ?_⟩
    rw [entry]
    split <;> exact hn

theorem tablesSafe_actParkToggle (n) {s : State} (h : TablesSafe s) : TablesSafe (actParkToggle n s) := by
  cases hn : ofNum 8 n with
  | none =>
    unfold actParkToggle
    rw [hn]
    exact h
  | some c =>
    have turned := tablesSafe_changed h (parkTurned_ok c h.live) rfl
    rw [actParkToggle_eq hn]
    split
    · exact ((quiet_reseat _).trans ((quiet_freshEvaluate c _).trans (quiet_recomputeFrames _))).safe turned
    · exact ((quiet_parkSteps c _).trans ((quiet_reseat _).trans (quiet_recomputeFrames _))).safe turned

theorem tablesSafe_runAction (a : Action) (x y : Nat) {s : State} (h : TablesSafe s) : TablesSafe (runAction a x y s) := by
  cases a with
  | nothing => exact h
  | focus => exact (quiet_actFocus x s).safe h
  | focusNext => exact (quiet_focusFound _ s).safe h
  | focusPrev => exact (quiet_focusFound _ s).safe h
  | focusBack => exact (quiet_actFocusBack s).safe h
  | broadcastToggle => exact (quiet_actBroadcastToggle x s).safe h
  | broadcastClear => exact (quiet_actBroadcastClear s).safe h
  | showChannel => exact tablesSafe_actShow x y h
  | peek => exact (quiet_actPeek x y s).safe h
  | preset => exact tablesSafe_actPreset x h
  | parkToggle => exact tablesSafe_actParkToggle x h
  | wake => exact (quiet_actWake x s).safe h
  | wakeAll => exact (fixed_actWakeAll s).safe h
  | lock => exact tablesSafe_actLock h
  | typeText => exact (quiet_actTypeText s).safe h
  | goAlert => exact (quiet_actGoAlert s).safe h
  | command => exact (fixed_actCommand s).safe h

/-! ### Key presses -/

theorem tablesSafe_runEntry (e) {s : State} (h : TablesSafe s) : TablesSafe (runEntry e s) := by
  unfold runEntry
  split
  · exact h
  · exact tablesSafe_runAction _ _ _ h

theorem tablesSafe_matcherPress (k) {s : State} (h : TablesSafe s) : TablesSafe (matcherPress k s) := by
  have set : ∀ m, TablesSafe (s.setMatcher m) := fun m => (fixed_setMatcher s m).safe h
  unfold matcherPress
  split
  · exact tablesSafe_runEntry _ (set _)
  · split
    · exact tablesSafe_runEntry _ (set _)
    · split
      · exact tablesSafe_runEntry _ (set _)
      · exact ((quiet_endTypeout .cancelledKey _).trans (quiet_focusKeyPress k _)).safe (set _)

theorem tablesSafe_devicePress (s : State) (k) (h : TablesSafe s) : TablesSafe (devicePress s k) := by
  unfold devicePress lockKeyPress
  split
  · exact h
  · have entered : TablesSafe (s.setConsole { s.console with deskKeys := setInsert k s.console.deskKeys }) :=
      (fixed_setConsole s _).safe h
    split
    · exact tablesSafe_matcherPress k entered
    next hl => exact tablesSafe_lockedPress k entered hl
    · exact entered

theorem tablesSafe_doKeyboardReport (c r) {s : State} (h : TablesSafe s) : TablesSafe (doKeyboardReport c r s) := by
  unfold doKeyboardReport takeKeySet
  split
  · exact (fixed_modConsolePort c _ _).safe
      (foldl_keeps tablesSafe_devicePress _ ((fixed_foldl (fixed_deviceRelease c) _ s).safe h))
  · exact h

/-! ### TABLE_WRITE (R165, R166) -/

theorem quiet_afterSource (old) (s : State) (n) : Quiet s (afterSource old s n) := by
  unfold afterSource
  split
  · exact quiet_freshEvaluate n s
  · exact .refl s

theorem quiet_afterComputer (old) (s : State) : Quiet s (afterComputer old s) := by
  have parks := quiet_foldl _ (quiet_afterParked old) computers s
  have sources := quiet_foldl _ (quiet_afterSource old) computers
  unfold afterComputer
  dsimp only
  split
  · exact parks.trans ((quiet_reseat _).trans ((sources _).trans (quiet_recomputeFrames _)))
  · exact parks.trans (sources _)

/-- The consequences of a write of another table than the unlock sequence. -/
theorem fixed_afterWrite {w : WriteArgs} (hw : w.table ≠ .unlock) (old) (s : State) :
    TablesFixed s (afterWrite w old s) := by
  unfold afterWrite
  split
  · exact (quiet_afterComputer old s).fixed
  · split
    · exact .refl s
    · exact (quiet_recomputeFrames s).fixed
  · exact ((quiet_setScreens s _).trans (quiet_reseat _)).fixed
  · exact (quiet_foldl _ (fun u sc => quiet_setRequested sc _ u) _ s).fixed
  · unfold afterChannel
    split
    · exact ((quiet_recomputeFrames s).trans (quiet_reseat _)).fixed
    · exact .refl s
  · exact fixed_setMatcher s _
  next hu => exact absurd hu hw
  all_goals exact .refl s

theorem tablesSafe_written {w : WriteArgs} {s : State} {tb : Tables} (h : TablesSafe s) (valid : WriteValid s tb)
    (ht : WrittenTables w s tb) : TablesSafe (afterWrite w s.tables (changeTables tb s)) := by
  have other : w.table ≠ .unlock → tb.unlock = s.tables.unlock →
      TablesSafe (afterWrite w s.tables (changeTables tb s)) := fun hw hu =>
    (fixed_afterWrite hw _ _).safe (tablesSafe_changed h valid.ok hu)
  cases ht with
  | unlock u hw =>
    have e : afterWrite w s.tables (changeTables { s.tables with unlock := u } s) =
        afterUnlock (changeTables { s.tables with unlock := u } s) := by
      unfold afterWrite
      rw [hw]
    rw [e, afterUnlock_eq]
    exact tablesSafe_changeTables h valid.ok (h.lockOk.restarted valid.ok.unlock valid.sequence)
  | _ _ hw => exact other (by rw [hw]; decide) rfl

theorem tablesSafe_writeBody (r) {s : State} (h : TablesSafe s) : TablesSafe (writeBody r s).1 := by
  unfold writeBody
  split
  · exact h
  next w hw =>
    show TablesSafe (writeTable r w s).1
    unfold writeTable
    split
    · exact h
    split
    · exact h
    split
    · exact h
    split
    · exact h
    split
    · exact h
    next tb b hb =>
      exact tablesSafe_written h (writeValid_resultingTables h (writeArgs_sized hw) hb) (resultingTables_written hb)

/-! ### The other requests, SAVE and power-on (R174, R175) -/

/-- A request leaves the law alone, but for what its command's body does. -/
theorem tablesSafe_serve {command r formed a body} {s : State} (hb : ∀ u, TablesSafe u → TablesSafe (body u).1)
    (h : TablesSafe s) : TablesSafe (serve command r formed a body s) := by
  have emptied := (quiet_setSlot r.port .empty s).safe h
  unfold serve
  dsimp only
  split
  · split
    · exact (quiet_putReply _ _ _ _ _ _).safe emptied
    · split
      · exact (quiet_putReply _ _ _ _ _ _).safe emptied
      · exact (quiet_answer _ _ _).safe (hb _ emptied)
  · exact h

theorem tablesSafe_callAction (a : Action) (c) {s : State} (h : TablesSafe s) :
    TablesSafe (callAction c (runAction a) s) := by
  unfold callAction
  split
  · exact tablesSafe_runAction a _ _ h
  · exact tablesSafe_serve (fun u => actionBody_keeps (fun x y _ => tablesSafe_runAction a x y) _) h

theorem tablesSafe_callTypeText (c) {s : State} (h : TablesSafe s) : TablesSafe (callTypeText c s) := by
  unfold callTypeText
  split
  · exact (quiet_actTypeText s).safe h
  · refine tablesSafe_serve (fun u hu => ?_) h
    unfold typeTextBody
    split
    · exact actionBody_keeps (fun _ _ v => (quiet_actTypeText v).safe) _ hu
    · exact hu

theorem tablesSafe_saveBody (r) {s : State} (h : TablesSafe s) : TablesSafe (saveBody r s).1 := by
  unfold saveBody
  split
  · exact h
  · refine (quiet_setSlot _ _ _).safe ((tablesSafe_iff _).2 ⟨h.live, ⟨?_, ?_⟩, h.lockOk, h.generation⟩)
    · exact fun _ he => by cases he
    · exact fun _ he => by cases he; exact h.live

theorem tablesSafe_doSaveCompletion (confirmed) {s : State} (h : TablesSafe s) :
    TablesSafe (doSaveCompletion confirmed s) := by
  unfold doSaveCompletion
  split
  · exact h
  next sv hs =>
    split
    · refine (quiet_replySave _ _ _).safe ((tablesSafe_iff _).2 ⟨h.live, ⟨?_, ?_⟩, h.lockOk, h.generation⟩)
      · exact fun _ he => by cases he; exact h.saving sv hs
      · exact fun _ he => by cases he
    · refine (quiet_replySave _ _ _).safe ((tablesSafe_iff _).2 ⟨h.live, ⟨?_, ?_⟩, h.lockOk, h.generation⟩)
      · exact fun _ he => by cases he
      · exact fun _ he => by cases he

theorem tablesSafe_powerOn {tb : Tables} {src store pending} (ok : tb.Ok) (hs : ∀ image, store = some image → image.Ok) :
    TablesSafe (State.powerOn tb src store pending) :=
  (tablesSafe_iff _).2 ⟨ok, ⟨hs, fun _ he => by cases he⟩, lockOk_powerOn ok, Nat.zero_le _⟩

theorem tablesSafe_doPowerOn (answers) {s : State} (h : TablesSafe s) : TablesSafe (doPowerOn answers s) := by
  unfold doPowerOn
  split
  next image hi => exact tablesSafe_powerOn (h.stored image hi) h.stored
  next => exact tablesSafe_powerOn defaultTables_ok h.stored

/-! ### Every command -/

theorem exec_keeps_tablesSafe (i : Instr) {s t : State} (h : TablesSafe s) (ht : exec i s = .next t) : TablesSafe t := by
  have body {command r formed a f} (hb : ∀ u, TablesSafe u → TablesSafe (f u).1) :
      TablesSafe (serve command r formed a f s) := tablesSafe_serve hb h
  have bodyFixed {command r formed a f} (hb : ∀ u, TablesFixed u (f u).1) : TablesSafe (serve command r formed a f s) :=
    tablesSafe_serve (fun u => (hb u).safe) h
  cases i with
  | powerOnReset b => cases ht; exact tablesSafe_doPowerOn b h
  | consoleAttach c d => cases ht; exact (fixed_doConsoleAttach c d s).safe h
  | consoleDetach c => cases ht; exact (fixed_doConsoleDetach c s).safe h
  | keyboardReport c r => cases ht; exact tablesSafe_doKeyboardReport c r h
  | pointerReport c r => cases ht; exact (fixed_doPointerReport c r s).safe h
  | indicatorOutputEnd c how a => cases ht; exact (fixed_doIndicatorOutputEnd c how a s).safe h
  | doubleTapWindowExpiry => cases ht; exact (fixed_doDoubleTapExpiry s).safe h
  | commandTimerExpiry => cases ht; exact (fixed_doCommandExpiry s).safe h
  | lockoutTimerExpiry => cases ht; exact tablesSafe_doLockoutExpiry h
  | noAction a => cases ht; exact tablesSafe_callAction .nothing a h
  | focus a => cases ht; exact tablesSafe_callAction .focus a h
  | focusNext a => cases ht; exact tablesSafe_callAction .focusNext a h
  | focusPrev a => cases ht; exact tablesSafe_callAction .focusPrev a h
  | focusBack a => cases ht; exact tablesSafe_callAction .focusBack a h
  | broadcastToggle a => cases ht; exact tablesSafe_callAction .broadcastToggle a h
  | broadcastClear a => cases ht; exact tablesSafe_callAction .broadcastClear a h
  | showChannel a => cases ht; exact tablesSafe_callAction .showChannel a h
  | peek a => cases ht; exact tablesSafe_callAction .peek a h
  | preset a => cases ht; exact tablesSafe_callAction .preset a h
  | parkToggle a => cases ht; exact tablesSafe_callAction .parkToggle a h
  | wake a => cases ht; exact tablesSafe_callAction .wake a h
  | wakeAll a => cases ht; exact tablesSafe_callAction .wakeAll a h
  | lock a => cases ht; exact tablesSafe_callAction .lock a h
  | typeText a => cases ht; exact tablesSafe_callTypeText a h
  | goAlert a => cases ht; exact tablesSafe_callAction .goAlert a h
  | command a => cases ht; exact tablesSafe_callAction .command a h
  | unlock r => cases ht; exact body fun u => actionBody_keeps (P := TablesSafe) (fun _ _ _ => tablesSafe_actUnlock) r
  | channelActivity c => cases ht; exact (fixed_setChannel c _ s).safe h
  | channelFrame c t => cases ht; exact (fixed_setChannel c _ s).safe h
  | channelLoss c => cases ht; exact (fixed_setChannel c _ s).safe h
  | displayAttach sc p => cases ht; exact (quiet_doDisplayAttach sc p s).safe h
  | displayDetach sc => cases ht; exact (quiet_doDisplayDetach sc s).safe h
  | frameStart sc => cases ht; exact (quiet_doFrameStart sc s).safe h
  | peekExpiry sc => cases ht; exact (fixed_doPeekExpiry sc s).safe h
  | typeOutPress => cases ht; exact (fixed_doTypeOutPress s).safe h
  | typeOutReleaseDue => cases ht; exact (fixed_doTypeOutReleaseDue s).safe h
  | computerAttach n => cases ht; exact (quiet_doComputerAttach n s).safe h
  | configure n b => cases ht; exact (quiet_doConfigure n b s).safe h
  | computerBusReset n => cases ht; exact (quiet_loseLink n _ s).safe h
  | computerDetach n => cases ht; exact (quiet_loseLink n _ s).safe h
  | indicatorReport n b => cases ht; exact (quiet_doIndicatorReport n b s).safe h
  | keyboardPoll n => cases ht; exact (quiet_doKeyboardPoll n s).safe h
  | pointerPoll n => cases ht; exact (quiet_doPointerPoll n s).safe h
  | stallTimerExpiry n => cases ht; exact (fixed_doStallExpiry n s).safe h
  | suspend n => cases ht; exact (quiet_doSuspend n s).safe h
  | settleTimerExpiry n => cases ht; exact (fixed_doSettleExpiry n s).safe h
  | signallingEnd n => cases ht; exact (fixed_doSignallingEnd n s).safe h
  | wakeWindowExpiry n => cases ht; exact (fixed_doWakeWindowExpiry n s).safe h
  | resume n => cases ht; exact (quiet_doResume n s).safe h
  | staggerTimerExpiry => cases ht; exact (fixed_doStaggerExpiry s).safe h
  | status r => cases ht; exact body fun _ => id
  | tableRead r => cases ht; exact body fun u hu => by rwa [readBody_state]
  | tableWrite r => cases ht; exact body fun _ => tablesSafe_writeBody r
  | depositText r => cases ht; exact bodyFixed (fixed_depositBody r)
  | clearText r => cases ht; exact bodyFixed fixed_clearBody
  | raiseAlert r => cases ht; exact bodyFixed fun u => (quiet_setAlertList _ u).fixed
  | withdrawAlert r => cases ht; exact bodyFixed fun u => (quiet_dropAlert r.port u).fixed
  | events r => cases ht; exact bodyFixed (fixed_eventsBody r)
  | freeze r => cases ht; exact bodyFixed (fixed_freezeBody r)
  | save r => cases ht; exact body fun _ => tablesSafe_saveBody r
  | saveCompletion b => cases ht; exact tablesSafe_doSaveCompletion b h
  | deskReset r => cases ht; exact bodyFixed fixed_deskReset
  | replyRead p => cases ht; exact (quiet_doReplyRead p s).safe h
  | notificationTake p => cases ht; exact (quiet_doNotificationTake p s).safe h
  | unknownCommandRequest r code => cases ht; exact body fun _ => id

/-- Settles O58: most commands leave tables, images, lock record and generation counter alone, a change of the tables puts
valid ones in place, and the lock unit leads from one legal record to another. -/
theorem stepKeepsTables : Obligations.StepKeepsTables := by
  unfold Obligations.StepKeepsTables
  intro s t h ht
  unfold step at ht
  split at ht
  next =>
    cases ht
    exact (fixed_elapse s 1).safe h
  next c rest _ => exact exec_keeps_tablesSafe c ((fixed_setPending s rest).safe h) ht

end Sys2Proof.Machine
end


section
/-! ## Presets (R82, R84, R85) -/

namespace Sys2Proof.Machine

/-! ### A screen across requests of assignments (R82) -/

/-- Screen `x` has the display, the assignments and the peek that it had. -/
structure ScreenKept (x : ScreenNo) (s t : State) : Prop where
  attached : t.screens[x].attached = s.screens[x].attached
  displayed : t.screens[x].displayed = s.screens[x].displayed
  pending : t.screens[x].pendingAssignment = s.screens[x].pendingAssignment
  peek : t.screens[x].peek = s.screens[x].peek

theorem screenKept_of_eq {x : ScreenNo} {s t : State} (h : t.screens[x] = s.screens[x]) : ScreenKept x s t := by
  constructor <;> rw [h]

theorem ScreenKept.trans {x : ScreenNo} {s t u : State} (h : ScreenKept x s t) (k : ScreenKept x t u) : ScreenKept x s u :=
  ⟨k.attached.trans h.attached, k.displayed.trans h.displayed, k.pending.trans h.pending, k.peek.trans h.peek⟩

theorem screenKept_of_screensKept {s t : State} (h : screensKept s t) (x : ScreenNo) : ScreenKept x s t := by
  obtain ⟨attached, -, -, displayed, pending, peek, -⟩ := h x
  exact ⟨attached, displayed, pending, peek⟩

theorem screenKept_reseat (x : ScreenNo) (s : State) : ScreenKept x s (reseat s) :=
  screenKept_of_screensKept (reseats_reseat s).screens x

theorem assignScreen_others {x sc : ScreenNo} (hx : x ≠ sc) (a : Assignment) (s : State) :
    ScreenKept x s (assignScreen sc a s) := by
  unfold assignScreen
  split
  · exact screenKept_of_eq (State.modScreen_screen_ne s _ hx)
  · exact (screenKept_of_eq (State.modScreen_screen_ne s _ hx)).trans (screenKept_reseat x _)

theorem setRequested_others {x sc : ScreenNo} (hx : x ≠ sc) (a : Assignment) (s : State) :
    ScreenKept x s (setRequested sc a s) := by
  unfold setRequested
  split
  · exact screenKept_of_eq (State.modScreen_screen_ne s _ hx)
  · exact assignScreen_others hx a s

/-- What a request of assignment `a` makes of screen `x`: a peek has it as its saved base, a display as its pending
assignment, and a screen with neither shows it (R82). -/
structure ScreenAsked (x : ScreenNo) (a : Assignment) (s t : State) : Prop where
  attached : t.screens[x].attached = s.screens[x].attached
  peek : t.screens[x].peek = s.screens[x].peek.map fun k => { k with base := a }
  peeked : s.screens[x].peek.isSome = true → t.screens[x].displayed = s.screens[x].displayed ∧
    t.screens[x].pendingAssignment = s.screens[x].pendingAssignment
  pending : s.screens[x].peek = none → s.screens[x].attached = true →
    t.screens[x].pendingAssignment = some a ∧ t.screens[x].displayed = s.screens[x].displayed
  shown : s.screens[x].peek = none → s.screens[x].attached = false → t.screens[x].displayed = a

theorem screenAsked_setRequested (x : ScreenNo) (a : Assignment) (s : State) : ScreenAsked x a s (setRequested x a s) := by
  obtain ⟨peeked, attached, bare⟩ := requestedAt_setRequested x a s
  cases hp : s.screens[x].peek with
  | some p =>
    have screen : (setRequested x a s).screens[x] = { s.screens[x] with peek := some { p with base := a } } := by
      rw [peeked p hp]
      exact State.modScreen_screen s x _
    refine ⟨by rw [screen], by rw [screen, hp]; rfl, fun _ => by rw [screen]; exact ⟨rfl, rfl⟩, fun hn => ?_, fun hn => ?_⟩
    all_goals exact absurd (hp.symm.trans hn) (Option.some_ne_none p)
  | none =>
    cases ha : s.screens[x].attached with
    | true =>
      have screen : (setRequested x a s).screens[x] = { s.screens[x] with pendingAssignment := some a } := by
        rw [attached hp ha]
        exact State.modScreen_screen s x _
      refine ⟨by rw [screen, ha], by rw [screen, hp]; rfl, fun some => ?_, fun _ _ => by rw [screen]; exact ⟨rfl, rfl⟩,
        fun _ hn => absurd (ha.symm.trans hn) (by decide)⟩
      rw [hp] at some
      cases some
    | false =>
      obtain ⟨displayed, -, peek, -, -, -, screens, -⟩ := bare hp ha
      refine ⟨(screens x).1, by rw [peek, hp]; rfl, fun some => ?_, fun _ hn => absurd (ha.symm.trans hn) (by decide),
        fun _ _ => displayed⟩
      rw [hp] at some
      cases some

theorem ScreenAsked.then_kept {x : ScreenNo} {a : Assignment} {s t u : State} (h : ScreenAsked x a s t)
    (k : ScreenKept x t u) : ScreenAsked x a s u := by
  constructor <;> simp only [k.attached, k.displayed, k.pending, k.peek]
  · exact h.attached
  · exact h.peek
  · exact h.peeked
  · exact h.pending
  · exact h.shown

theorem ScreenKept.then_asked {x : ScreenNo} {a : Assignment} {s t u : State} (k : ScreenKept x s t)
    (h : ScreenAsked x a t u) : ScreenAsked x a s u := by
  obtain ⟨attached, peek, peeked, pending, shown⟩ := h
  simp only [k.attached, k.displayed, k.pending, k.peek] at attached peek peeked pending shown
  exact ⟨attached, peek, peeked, pending, shown⟩

/-! ### The requests of several screens in turn -/

/-- The assignments `entry` of the screens `l` are requested one after another. -/
def requestEach (entry : ScreenNo → Assignment) (l : List ScreenNo) (s : State) : State :=
  l.foldl (fun u sc => setRequested sc (entry sc) u) s

theorem quiet_requestEach (entry l) (s : State) : Quiet s (requestEach entry l s) :=
  quiet_foldl _ (fun u sc => quiet_setRequested sc (entry sc) u) l s

theorem heard_requestEach (entry l) (s : State) : Heard s (requestEach entry l s) :=
  heard_foldl (fun u sc => heard_setRequested sc (entry sc) u) l s

theorem inOrder_requestEach (entry : ScreenNo → Assignment) (l : List ScreenNo) (s : State) :
    inOrder (fun sc => requestedAt sc (entry sc)) l s (requestEach entry l s) :=
  inOrder_foldl (P := fun _ => True) (fun sc u _ => ⟨requestedAt_setRequested sc (entry sc) u, trivial⟩) l s trivial

theorem requestEach_others {x : ScreenNo} (entry : ScreenNo → Assignment) {l : List ScreenNo} (hx : x ∉ l) (s : State) :
    ScreenKept x s (requestEach entry l s) := by
  induction l generalizing s with
  | nil => exact screenKept_of_eq rfl
  | cons y l ih =>
    obtain ⟨hy, hl⟩ := List.ne_and_not_mem_of_not_mem_cons hx
    exact (setRequested_others hy (entry y) s).trans (ih hl _)

theorem requestEach_asked {x : ScreenNo} (entry : ScreenNo → Assignment) {l : List ScreenNo} (once : l.Nodup) (hx : x ∈ l)
    (s : State) : ScreenAsked x (entry x) s (requestEach entry l s) := by
  induction l generalizing s with
  | nil => cases hx
  | cons y l ih =>
    obtain ⟨hy, once⟩ := List.nodup_cons.1 once
    by_cases e : x = y
    · subst e
      exact (screenAsked_setRequested x (entry x) s).then_kept (requestEach_others entry hy _)
    · exact (setRequested_others e (entry y) s).then_asked (ih once ((List.mem_cons.1 hx).resolve_left e) _)

/-! ### PRESET (R85) -/

theorem ofNum_of_num {n k : Nat} {i : Fin n} (h : num i = k) : ofNum n k = some i :=
  h ▸ ofNum_numOr0 (some i)

theorem ofNum_of_no_num {n k : Nat} (h : ∀ i : Fin n, num i ≠ k) : ofNum n k = none := by
  unfold ofNum
  refine dif_neg fun within => h ⟨k - 1, by omega⟩ ?_
  simp only [num]
  omega

theorem exec_preset (a b : Byte) (s : State) : exec (.preset (.hotkey a b)) s = .next (actPreset a.toNat s) := rfl

/-- The tables once the entries of preset `p` are the assignment table (R85). -/
def presetTables (p : Fin 4) (tb : Tables) : Tables :=
  { tb with assignment := Vector.ofFn (presetEntry tb p) }

theorem presetTables_entry (p : Fin 4) (tb : Tables) (sc : ScreenNo) :
    (presetTables p tb).assignment[sc] = presetEntry tb p sc := by
  simp [presetTables]

/-- The screens whose entry a preset changes, in screen order. -/
def presetScreens (p : Fin 4) (tb : Tables) : List ScreenNo :=
  screenNos.filter fun sc => decide (tb.assignment[sc] ≠ presetEntry tb p sc)

theorem presetScreens_nodup (p : Fin 4) (tb : Tables) : (presetScreens p tb).Nodup :=
  (by decide : screenNos.Nodup).filter _

theorem mem_presetScreens {p : Fin 4} {tb : Tables} {sc : ScreenNo} :
    sc ∈ presetScreens p tb ↔ tb.assignment[sc] ≠ presetEntry tb p sc := by
  have every : sc ∈ screenNos := (by decide : ∀ sc : ScreenNo, sc ∈ screenNos) sc
  rw [presetScreens, List.mem_filter, decide_eq_true_iff, and_iff_right every]

theorem assignment_eq_preset_iff (p : Fin 4) (tb : Tables) : tb.assignment = (presetTables p tb).assignment ↔
    ∀ sc : ScreenNo, tb.assignment[sc] = presetEntry tb p sc := by
  constructor
  · intro h sc
    rw [h, presetTables_entry]
  · intro h
    refine Vector.ext fun i hi => ?_
    exact (h ⟨i, hi⟩).trans (presetTables_entry p tb ⟨i, hi⟩).symm

/-- The fold over all screens asks at those whose entry changed. -/
theorem presetScreen_foldl (p : Fin 4) (tb : Tables) (s : State) :
    screenNos.foldl (presetScreen tb p) s = requestEach (presetEntry tb p) (presetScreens p tb) s := by
  rw [requestEach, presetScreens, List.foldl_filter]
  refine congrArg (fun f => screenNos.foldl f s) (funext fun u => funext fun sc => ?_)
  unfold presetScreen
  by_cases h : tb.assignment[sc] = presetEntry tb p sc <;> simp [h]

/-- The tables of preset `p` in force, and the request of each screen whose entry it changes. -/
def presetChange (p : Fin 4) (s : State) : State :=
  requestEach (presetEntry s.tables p) (presetScreens p s.tables) (changeTables (presetTables p s.tables) s)

theorem actPreset_eq {k : Nat} {p : Fin 4} (h : num p = k) (s : State) : actPreset k s =
    if s.tables.assignment = (presetTables p s.tables).assignment then s
    else presetChange p s := by
  rw [presetChange, ← presetScreen_foldl]
  unfold actPreset
  rw [ofNum_of_num h]
  rfl

theorem changeKept_presetChange (p : Fin 4) (s : State) : ChangeKept (presetTables p s.tables) s (presetChange p s) :=
  (quiet_requestEach _ _ _).changeKept

theorem presetChange_announced (p : Fin 4) (s : State) : announced .table (presetChange p s) :=
  (heard_requestEach _ _ _).announced (changeTables_announced _ s)

theorem screenKept_changeTables (x : ScreenNo) (tb : Tables) (s : State) : ScreenKept x s (changeTables tb s) :=
  screenKept_of_eq rfl

theorem presetChange_unchanged {p : Fin 4} {s : State} {x : ScreenNo}
    (h : s.tables.assignment[x] = presetEntry s.tables p x) : ScreenKept x s (presetChange p s) := by
  unfold presetChange
  exact (screenKept_changeTables x _ s).trans (requestEach_others _ (fun hx => mem_presetScreens.1 hx h) _)

theorem presetChange_changed {p : Fin 4} {s : State} {x : ScreenNo}
    (h : s.tables.assignment[x] ≠ presetEntry s.tables p x) :
    ScreenAsked x (presetEntry s.tables p x) s (presetChange p s) := by
  unfold presetChange
  exact (screenKept_changeTables x _ s).then_asked
    (requestEach_asked _ (presetScreens_nodup p s.tables) (mem_presetScreens.2 h) _)

/-- Settles O41: the preset's entries in place, then the request of each changed screen, in screen order. -/
theorem presetSetsAssignments : Obligations.PresetSetsAssignments := by
  unfold Obligations.PresetSetsAssignments
  intro a b s
  refine ⟨fun h => ?_, fun p hp => ⟨fun same => ?_, fun ⟨sc, changed⟩ => ⟨presetChange p s, ?_, ?_⟩⟩⟩
  · rw [exec_preset, actPreset, ofNum_of_no_num h]
  · rw [exec_preset, actPreset_eq hp, if_pos ((assignment_eq_preset_iff p s.tables).2 same)]
  · rw [exec_preset, actPreset_eq hp, if_neg fun h => changed ((assignment_eq_preset_iff p s.tables).1 h sc)]
  · have kept := changeKept_presetChange p s
    refine ⟨by rw [kept.tables]; rfl, kept.generation, presetChange_announced p s, fun x => ⟨?_, ?_⟩, kept.channels,
      kept.lock, kept.deskKeys, ?_⟩
    · rw [kept.tables]
      exact presetTables_entry p s.tables x
    · by_cases hx : s.tables.assignment[x] = presetEntry s.tables p x
      · have same := presetChange_unchanged hx
        exact ⟨same.attached, fun _ => ⟨same.displayed, same.pending⟩, fun h => absurd hx h⟩
      · have asked := presetChange_changed hx
        exact ⟨asked.attached, fun h => asked.peeked (h.resolve_left hx), fun _ => ⟨asked.peek, asked.pending, asked.shown⟩⟩
    · rw [kept.tables]
      exact inOrder_requestEach (presetEntry s.tables p) (presetScreens p s.tables) (changeTables (presetTables p s.tables) s)

end Sys2Proof.Machine
end


section
/-! ## Peeks (R86, R87) -/

namespace Sys2Proof.Machine

/-! ### What the steps around a peek's assignment leave alone -/

/-- `t` is `s` but for the time, peeks, frames and notices: the desk, the pointer and the assignments are the same. -/
structure AroundPeek (s t : State) : Prop where
  tables : t.tables = s.tables
  generation : t.mgmt.generation = s.mgmt.generation
  lock : t.lock = s.lock
  channels : t.channels = s.channels
  pointer : SameButPointer s t
  glide : t.glide = s.glide
  attached : ∀ x : ScreenNo, t.screens[x].attached = s.screens[x].attached
  displayed : ∀ x : ScreenNo, t.screens[x].displayed = s.screens[x].displayed
  pending : ∀ x : ScreenNo, t.screens[x].pendingAssignment = s.screens[x].pendingAssignment
  heard : Heard s t
  notices : NoticesOnly s t

theorem AroundPeek.trans {s t u : State} (h : AroundPeek s t) (k : AroundPeek t u) : AroundPeek s u :=
  ⟨k.tables.trans h.tables, k.generation.trans h.generation, k.lock.trans h.lock, k.channels.trans h.channels,
    h.pointer.trans k.pointer, k.glide.trans h.glide, fun x => (k.attached x).trans (h.attached x),
    fun x => (k.displayed x).trans (h.displayed x), fun x => (k.pending x).trans (h.pending x), h.heard.trans k.heard,
    h.notices.trans k.notices⟩

theorem AroundPeek.deskStill {s t : State} (h : AroundPeek s t) : DeskStill s t :=
  ⟨by rw [h.tables], fun _ => by rw [h.tables], fun _ => by rw [h.tables], h.attached, h.displayed, by rw [h.glide],
    by rw [h.glide], by rw [h.glide]⟩

theorem AroundPeek.positionTold {s t : State} (h : AroundPeek s t) (told : positionTold s) : positionTold t :=
  positionTold_later told (by rw [h.pointer.focus]) h.glide h.deskStill h.tables h.channels h.notices.takesReports

theorem AroundPeek.afterReseat {s t : State} (h : AroundPeek s t) (anew : framesAnew t) : AfterReseat s t :=
  ⟨h.deskStill, h.pointer.focus, h.pointer.typeout, h.pointer.remembered, h.heard, fun _ => anew⟩

theorem aroundPeek_setPeek (sc : ScreenNo) (p : Option Peek) (s : State) :
    AroundPeek s (s.modScreen sc fun r => { r with peek := p }) := by
  refine ⟨rfl, rfl, rfl, rfl, ⟨rfl, rfl, rfl, rfl, rfl⟩, rfl, fun x => ?_, fun x => ?_, fun x => ?_, heard_of_eq rfl rfl,
    noticesOnly_of_eq rfl⟩
  all_goals
    rw [Fin.getElem_fin, State.modScreen_screens]
    split <;> rfl

theorem aroundPeek_recomputeFrames (s : State) : AroundPeek s (recomputeFrames s) :=
  have kept := screenKept_of_screensKept (screensKept_recomputeFrames s)
  ⟨rfl, rfl, rfl, rfl, ⟨rfl, rfl, rfl, rfl, rfl⟩, rfl, fun x => (kept x).attached, fun x => (kept x).displayed,
    fun x => (kept x).pending, heard_of_eq rfl rfl, noticesOnly_of_eq rfl⟩

theorem aroundPeek_raise (e : EventKind) (s : State) : AroundPeek s (raise e s) :=
  ⟨rfl, rfl, rfl, rfl, ⟨rfl, rfl, rfl, rfl, rfl⟩, rfl, fun _ => rfl, fun _ => rfl, fun _ => rfl, heard_raise e s,
    noticesOnly_raise e s⟩

theorem elapse_screens (d : Nat) (s : State) (x : ScreenNo) : (s.elapse d).screens[x] = s.screens[x].elapse d := by
  simp [State.elapse]

theorem elapse_pending (d : Nat) (r : Screen) : (r.elapse d).pendingAssignment = r.pendingAssignment := by
  unfold Screen.elapse
  split <;> rfl

theorem elapse_peek {p : Peek} {r : Screen} (d : Nat) (h : r.peek = some p) :
    (r.elapse d).peek = some { p with remaining := p.remaining - d } := by
  unfold Screen.elapse
  rw [h]

theorem aroundPeek_elapse (d : Nat) (s : State) : AroundPeek s (s.elapse d) := by
  refine ⟨rfl, rfl, rfl, rfl, ⟨rfl, rfl, rfl, rfl, rfl⟩, rfl, fun x => ?_, fun x => ?_, fun x => ?_, heard_of_eq rfl rfl,
    noticesOnly_of_eq rfl⟩
  · rw [elapse_screens, (elapse_screen d _).1]
  · rw [elapse_screens, (elapse_screen d _).2]
  · rw [elapse_screens, elapse_pending]

/-- The end of a start and of an end of a peek: the frame kinds computed anew and SCREEN raised (R68, R89). -/
def peekNoticed (s : State) : State :=
  raise .screen (recomputeFrames s)

theorem aroundPeek_peekNoticed (s : State) : AroundPeek s (peekNoticed s) :=
  (aroundPeek_recomputeFrames s).trans (aroundPeek_raise .screen _)

theorem framesAnew_peekNoticed (s : State) : framesAnew (peekNoticed s) :=
  framesAnew_congr (framesAnew_recomputeFrames s) rfl rfl rfl rfl

theorem peekNoticed_peek (sc : ScreenNo) (s : State) : (peekNoticed s).screens[sc].peek = s.screens[sc].peek :=
  (screenKept_of_screensKept (screensKept_recomputeFrames s) sc).peek

/-! ### The assignment of a peeked screen -/

/-- Screen `sc` is given the assignment `a`: pending where it has a display, else displayed, with a re-seat (R87). -/
def AssignmentGiven (sc : ScreenNo) (a : Assignment) (s t : State) : Prop :=
  (s.screens[sc].attached = true → t.screens[sc].pendingAssignment = some a ∧
    t.screens[sc].displayed = s.screens[sc].displayed ∧ t.focus = s.focus ∧ t.glide = s.glide) ∧
  (s.screens[sc].attached = false → t.screens[sc].displayed = a ∧ reseated s t ∧ positionTold t)

/-- Nothing changes but screen `sc`, frames and the pointer; the display of `sc` stays. -/
def OthersKept (sc : ScreenNo) (s t : State) : Prop :=
  t.tables = s.tables ∧ t.mgmt.generation = s.mgmt.generation ∧ t.lock = s.lock ∧ t.channels = s.channels ∧
    t.console.deskKeys = s.console.deskKeys ∧ t.screens[sc].attached = s.screens[sc].attached ∧
    ∀ x : ScreenNo, x ≠ sc → t.screens[x].displayed = s.screens[x].displayed ∧
      t.screens[x].pendingAssignment = s.screens[x].pendingAssignment

theorem OthersKept.trans {sc : ScreenNo} {s t u : State} (h : OthersKept sc s t) (k : OthersKept sc t u) :
    OthersKept sc s u := by
  obtain ⟨tables, generation, lock, channels, keys, attached, others⟩ := h
  obtain ⟨tables', generation', lock', channels', keys', attached', others'⟩ := k
  exact ⟨tables'.trans tables, generation'.trans generation, lock'.trans lock, channels'.trans channels, keys'.trans keys,
    attached'.trans attached, fun x hx => ⟨(others' x hx).1.trans (others x hx).1, (others' x hx).2.trans (others x hx).2⟩⟩

theorem AroundPeek.othersKept {s t : State} (h : AroundPeek s t) (sc : ScreenNo) : OthersKept sc s t :=
  ⟨h.tables, h.generation, h.lock, h.channels, h.pointer.deskKeys, h.attached sc, fun x _ => ⟨h.displayed x, h.pending x⟩⟩

theorem AroundPeek.then_given {sc : ScreenNo} {a : Assignment} {r s t : State} (h : AroundPeek r s)
    (k : AssignmentGiven sc a s t) : AssignmentGiven sc a r t := by
  obtain ⟨pending, shown⟩ := k
  rw [h.attached, h.displayed, h.pointer.focus, h.glide] at pending
  rw [h.attached] at shown
  refine ⟨pending, fun ha => ?_⟩
  obtain ⟨displayed, seated, told⟩ := shown ha
  exact ⟨displayed, reseated_before seated h.glide h.pointer, told⟩

theorem AssignmentGiven.then_kept {sc : ScreenNo} {a : Assignment} {s t u : State} (h : AssignmentGiven sc a s t)
    (k : AroundPeek t u) (anew : framesAnew u) : AssignmentGiven sc a s u := by
  obtain ⟨pending, shown⟩ := h
  rw [AssignmentGiven, k.pending, k.displayed, k.pointer.focus, k.glide]
  refine ⟨pending, fun ha => ?_⟩
  obtain ⟨displayed, seated, told⟩ := shown ha
  exact ⟨displayed, reseated_after seated (k.afterReseat anew), k.positionTold told⟩

theorem assignScreen_given (sc : ScreenNo) (a : Assignment) (s : State) : AssignmentGiven sc a s (assignScreen sc a s) := by
  unfold assignScreen
  split
  next ha =>
    refine ⟨fun _ => ?_, fun hn => absurd (ha.symm.trans hn) (by decide)⟩
    rw [State.modScreen_screen]
    exact ⟨rfl, rfl, rfl, rfl⟩
  next ha =>
    refine ⟨fun h => absurd h ha, fun _ => ?_⟩
    have placed := reseats_reseat (putDisplayed sc a s)
    refine ⟨(screenKept_reseat sc _).displayed.trans ?_, reseated_before placed.law rfl ⟨rfl, rfl, rfl, rfl, rfl⟩,
      placed.told⟩
    rw [putDisplayed_screen]

/-- The display and the peek of the screen itself. -/
theorem assignScreen_self (sc : ScreenNo) (a : Assignment) (s : State) :
    (assignScreen sc a s).screens[sc].attached = s.screens[sc].attached ∧
      (assignScreen sc a s).screens[sc].peek = s.screens[sc].peek := by
  unfold assignScreen
  split
  · rw [State.modScreen_screen]
    exact ⟨rfl, rfl⟩
  · have kept := screenKept_reseat sc (putDisplayed sc a s)
    rw [kept.attached, kept.peek, putDisplayed_screen]
    exact ⟨rfl, rfl⟩

theorem assignScreen_othersKept (sc : ScreenNo) (a : Assignment) (s : State) : OthersKept sc s (assignScreen sc a s) := by
  have q := quiet_assignScreen sc a s
  refine ⟨q.tables, q.generation, q.lock, q.channels, q.deskKeys, (assignScreen_self sc a s).1, fun x hx => ?_⟩
  have kept := assignScreen_others hx a s
  exact ⟨kept.displayed, kept.pending⟩

/-! ### Start, turn and end -/

/-- Screen `sc` gets a peek of channel `c` for the full duration over the base `base` (R86, R87). -/
def Peeks (sc : ScreenNo) (c : Channel) (base : Assignment) (s t : State) : Prop :=
  t.screens[sc].peek = some ⟨c, peekTime s, base⟩ ∧ AssignmentGiven sc (.single (some c)) s t

theorem assignScreen_peeks (sc : ScreenNo) (c : Channel) (base : Assignment) (s : State) :
    let t := assignScreen sc (.single (some c)) (s.modScreen sc fun r => { r with peek := some ⟨c, peekTime s, base⟩ })
    Peeks sc c base s t ∧ OthersKept sc s t := by
  have set := aroundPeek_setPeek sc (some ⟨c, peekTime s, base⟩) s
  refine ⟨⟨(assignScreen_self sc _ _).2.trans ?_, set.then_given (assignScreen_given sc _ _)⟩,
    (set.othersKept sc).trans (assignScreen_othersKept sc _ _)⟩
  rw [State.modScreen_screen]

theorem startPeek_peeks (sc : ScreenNo) (c : Channel) (s : State) :
    Peeks sc c s.tables.assignment[sc] s (startPeek sc c s) ∧ OthersKept sc s (startPeek sc c s) ∧
      framesAnew (startPeek sc c s) ∧ announced .screen (startPeek sc c s) := by
  obtain ⟨⟨peek, given⟩, others⟩ := assignScreen_peeks sc c s.tables.assignment[sc] s
  have noticed := aroundPeek_peekNoticed (assignScreen sc (.single (some c))
    (s.modScreen sc fun r => { r with peek := some ⟨c, peekTime s, s.tables.assignment[sc]⟩ }))
  exact ⟨⟨(peekNoticed_peek sc _).trans peek, given.then_kept noticed (framesAnew_peekNoticed _)⟩,
    others.trans (noticed.othersKept sc), framesAnew_peekNoticed _, announced_raise .screen _⟩

theorem retargetPeek_peeks {sc : ScreenNo} {c : Channel} {p : Peek} (h : p.channel ≠ c) (s : State) :
    Peeks sc c p.base s (retargetPeek sc c p s) ∧ OthersKept sc s (retargetPeek sc c p s) := by
  rw [retargetPeek, if_neg h]
  exact assignScreen_peeks sc c p.base s

/-- The peek of screen `sc` over the base `base` has ended. -/
def PeekEnded (sc : ScreenNo) (base : Assignment) (s t : State) : Prop :=
  t.screens[sc].peek = none ∧ AssignmentGiven sc base s t ∧ announced .screen t ∧ framesAnew t ∧ OthersKept sc s t

theorem AroundPeek.then_ended {sc : ScreenNo} {a : Assignment} {r s t : State} (h : AroundPeek r s) (k : PeekEnded sc a s t) :
    PeekEnded sc a r t := by
  obtain ⟨peek, given, told, anew, others⟩ := k
  exact ⟨peek, h.then_given given, told, anew, (h.othersKept sc).trans others⟩

theorem endPeek_ended {sc : ScreenNo} {p : Peek} {s : State} (h : s.screens[sc].peek = some p) :
    PeekEnded sc p.base s (endPeek sc s) := by
  have kept : AroundPeek (assignScreen sc p.base s) (closePeek sc (assignScreen sc p.base s)) :=
    (aroundPeek_setPeek sc none _).trans (aroundPeek_peekNoticed _)
  have closed : endPeek sc s = closePeek sc (assignScreen sc p.base s) := by
    rw [endPeek, h]
  rw [closed]
  refine ⟨(peekNoticed_peek sc _).trans ?_, (assignScreen_given sc p.base s).then_kept kept (framesAnew_peekNoticed _),
    announced_raise .screen _, framesAnew_peekNoticed _, (assignScreen_othersKept sc p.base s).trans (kept.othersKept sc)⟩
  rw [State.modScreen_screen]

/-! ### The command PEEK and the running out of its time -/

theorem exec_peek (a b : Byte) (s : State) : exec (.peek (.hotkey a b)) s = .next (actPeek a.toNat b.toNat s) := rfl

theorem exec_peekExpiry (sc : ScreenNo) (s : State) : exec (.peekExpiry sc) s = .next (doPeekExpiry sc s) := rfl

theorem channelArg_zero : channelArg 0 = some none := rfl

theorem channelArg_num {c : Channel} {k : Nat} (h : num c = k) : channelArg k = some (some c) := by
  have pos : k ≠ 0 := by
    rw [← h]
    exact Nat.succ_ne_zero c.val
  rw [channelArg, if_neg pos, ofNum_of_num h]

theorem channelArg_out {k : Nat} (h : 16 < k) : channelArg k = none := by
  have none_has : ∀ c : Channel, num c ≠ k := fun c => by
    have := c.isLt
    simp only [num]
    omega
  rw [channelArg, if_neg (by omega), ofNum_of_no_num none_has]

theorem actPeek_locked {k m : Nat} {s : State} (h : s.lock.state ≠ .unlocked) : actPeek k m s = s := by
  unfold actPeek
  split
  · rw [if_pos h]
  · rfl

theorem actPeek_noScreen {k m : Nat} (h : ∀ sc : ScreenNo, num sc ≠ k) (s : State) : actPeek k m s = s := by
  rw [actPeek, ofNum_of_no_num h]

theorem actPeek_noChannel {k m : Nat} (h : 16 < m) (s : State) : actPeek k m s = s := by
  rw [actPeek, channelArg_out h]
  split <;> trivial

section
variable {k : Nat} {sc : ScreenNo} {s : State}

theorem actPeek_end (unlocked : s.lock.state = .unlocked) (hsc : num sc = k) : actPeek k 0 s = endPeek sc s := by
  simp [actPeek, ofNum_of_num hsc, channelArg_zero, unlocked]

theorem actPeek_start {c : Channel} {m : Nat} (unlocked : s.lock.state = .unlocked) (hsc : num sc = k) (hc : num c = m)
    (h : s.screens[sc].peek = none) : actPeek k m s = startPeek sc c s := by
  simp only [actPeek, ofNum_of_num hsc, channelArg_num hc, unlocked, h]
  rfl

theorem actPeek_turn {c : Channel} {m : Nat} {p : Peek} (unlocked : s.lock.state = .unlocked) (hsc : num sc = k)
    (hc : num c = m) (h : s.screens[sc].peek = some p) : actPeek k m s = retargetPeek sc c p s := by
  simp only [actPeek, ofNum_of_num hsc, channelArg_num hc, unlocked, h]
  rfl

end

theorem doPeekExpiry_ended {sc : ScreenNo} {p : Peek} {s : State} (h : s.screens[sc].peek = some p) :
    (doPeekExpiry sc s).now = s.now + p.remaining ∧ PeekEnded sc p.base s (doPeekExpiry sc s) := by
  have expired : doPeekExpiry sc s = endPeek sc (s.elapse p.remaining) := by
    rw [doPeekExpiry, h]
  have late : (s.elapse p.remaining).screens[sc].peek = some { p with remaining := p.remaining - p.remaining } := by
    rw [elapse_screens]
    exact elapse_peek p.remaining h
  rw [expired]
  have ended : PeekEnded sc p.base (s.elapse p.remaining) (endPeek sc (s.elapse p.remaining)) :=
    endPeek_ended (p := { p with remaining := p.remaining - p.remaining }) late
  exact ⟨(quiet_endPeek sc (s.elapse p.remaining)).now, (aroundPeek_elapse p.remaining s).then_ended ended⟩

/-- Settles O42: each command is the start, the turn or the end of a peek, or does nothing. -/
theorem peeksStartAndEnd : Obligations.PeeksStartAndEnd := by
  unfold Obligations.PeeksStartAndEnd
  intro a b s
  refine ⟨fun h => ?_, fun sc c unlocked hsc hc => ⟨fun h => ?_, fun p h hne => ?_, fun p h same => ?_⟩,
    fun sc unlocked hsc hb => ?_, fun sc => ⟨fun h => ?_, fun p h => ?_⟩⟩
  · rw [exec_peek]
    rcases h with locked | out | out
    · rw [actPeek_locked locked]
    · rw [actPeek_noScreen out]
    · rw [actPeek_noChannel out]
  · obtain ⟨⟨peek, given⟩, others, anew, told⟩ := startPeek_peeks sc c s
    exact ⟨_, by rw [exec_peek, actPeek_start unlocked hsc hc h], peek, given, told, anew, others⟩
  · obtain ⟨⟨peek, given⟩, others⟩ := retargetPeek_peeks (sc := sc) hne s
    exact ⟨_, by rw [exec_peek, actPeek_turn unlocked hsc hc h], peek, given, others⟩
  · subst same
    rw [exec_peek, actPeek_turn unlocked hsc hc h, retargetPeek, if_pos rfl]
    rfl
  · have ends : exec (.peek (.hotkey a b)) s = .next (endPeek sc s) := by
      rw [exec_peek, hb]
      exact congrArg _ (actPeek_end unlocked hsc)
    refine ⟨fun h => ?_, fun p h => ⟨_, ends, endPeek_ended h⟩⟩
    rw [ends, endPeek, h]
  · rw [exec_peekExpiry, doPeekExpiry, h]
  · obtain ⟨now, ended⟩ := doPeekExpiry_ended h
    exact ⟨_, exec_peekExpiry sc s, now, ended⟩

end Sys2Proof.Machine
end


section
/-! ## The picture in its tile and the absolute coordinates (R56 to R60, R63) -/

namespace Sys2Proof.Machine

/-! ### The picture and its pixels (R57, R58, R60) -/

/-- The rounded side `t * a / b` of a fitted picture, beside a side `o` of the tile. -/
theorem fitted_side {t o a b : Nat} (small : 10 * b ≤ t * a) (inside : t * a ≤ b * o) (pos : 0 < b) :
    10 ≤ t * a / b ∧ t * a / b ≤ o ∧ t * a / b * b ≤ t * a ∧ t * a < (t * a / b + 1) * b :=
  ⟨(Nat.le_div_iff_mul_le pos).2 small, Nat.div_le_of_le_mul inside, Nat.div_mul_le_self _ _,
    (Nat.div_lt_iff_lt_mul pos).1 (Nat.lt_succ_self _)⟩

/-- Either side of a picture in a tile `tw` by `th`, and the rounding that the fit asks for (R57). -/
structure PictureFits (f : Fit) (tw th sw sh : Nat) (p : Picture) : Prop where
  size : 10 ≤ p.w ∧ 10 ≤ p.h
  across : p.ox + p.w ≤ tw
  down : p.oy + p.h ≤ th
  touches : p.w = tw ∨ p.h = th
  filled : f = .fill → p = ⟨tw, th, 0, 0⟩
  fitted : f = .fit → p.ox = (tw - p.w) / 2 ∧ p.oy = (th - p.h) / 2 ∧
    ((p.w = tw ∧ p.h * sw ≤ tw * sh ∧ tw * sh < (p.h + 1) * sw) ∨
      (p.h = th ∧ p.w * sh ≤ th * sw ∧ th * sw < (p.w + 1) * sh))

theorem fitPicture_fits (f : Fit) {tw th sw sh : Nat} (htw : 160 ≤ tw) (hth : 160 ≤ th) (hsw : 640 ≤ sw) (hsw' : sw ≤ 7680)
    (hsh : 480 ≤ sh) (hsh' : sh ≤ 4320) : PictureFits f tw th sw sh (fitPicture f tw th sw sh) := by
  cases f with
  | fill => exact ⟨⟨by simp only [fitPicture]; omega, by simp only [fitPicture]; omega⟩, by simp [fitPicture],
      by simp [fitPicture], .inl rfl, fun _ => rfl, fun h => nomatch h⟩
  | fit =>
    by_cases wide : sh * tw ≤ sw * th
    · have small : 10 * sw ≤ tw * sh := by
        have : 160 * 480 ≤ tw * sh := Nat.mul_le_mul htw hsh
        omega
      obtain ⟨ten, low, below, above⟩ := fitted_side small (Nat.mul_comm sh tw ▸ wide) (by omega)
      have pic : fitPicture .fit tw th sw sh = ⟨tw, tw * sh / sw, 0, (th - tw * sh / sw) / 2⟩ := if_pos wide
      rw [pic]
      generalize tw * sh / sw = ih at *
      exact ⟨⟨by dsimp only; omega, ten⟩, by dsimp only; omega, by dsimp only; omega, .inl rfl, (fun h => nomatch h),
        fun _ => ⟨by dsimp only; omega, rfl, .inl ⟨rfl, below, above⟩⟩⟩
    · have small : 10 * sh ≤ th * sw := by
        have : 160 * 640 ≤ th * sw := Nat.mul_le_mul hth hsw
        omega
      have inside : th * sw ≤ sh * tw := Nat.mul_comm sw th ▸ (Nat.lt_of_not_le wide).le
      obtain ⟨ten, low, below, above⟩ := fitted_side small inside (by omega)
      have pic : fitPicture .fit tw th sw sh = ⟨th * sw / sh, th, (tw - th * sw / sh) / 2, 0⟩ := if_neg wide
      rw [pic]
      generalize th * sw / sh = iw at *
      exact ⟨⟨ten, by dsimp only; omega⟩, by dsimp only; omega, by dsimp only; omega, .inr rfl, (fun h => nomatch h),
        fun _ => ⟨rfl, by dsimp only; omega, .inr ⟨rfl, below, above⟩⟩⟩

theorem sourceCoord_lt {source size : Nat} (hsource : 0 < source) (hsize : 0 < size) (d t off : Nat) :
    sourceCoord (pictureCoord d t off size) source size < source := by
  have inside : pictureCoord d t off size < size := (Nat.min_le_right _ _).trans_lt (Nat.sub_lt hsize Nat.one_pos)
  refine (Nat.div_lt_iff_lt_mul hsize).2 ?_
  rw [Nat.mul_comm]
  exact Nat.mul_lt_mul_of_pos_left inside hsource

theorem absoluteCoord_le (c d : Nat) : absoluteCoord c d ≤ 32767 := Nat.min_le_right _ _

/-! ### The desktop size (R59) -/

theorem foldl_max_greatest {α : Type} (g : α → Nat) (l : List α) (m : Nat) :
    let r := l.foldl (fun m c => max m (g c)) m
    m ≤ r ∧ (∀ c ∈ l, g c ≤ r) ∧ (r = m ∨ ∃ c ∈ l, g c = r) := by
  induction l generalizing m with
  | nil => exact ⟨Nat.le_refl m, by simp, .inl rfl⟩
  | cons x l ih =>
    obtain ⟨least, bound, attained⟩ := ih (max m (g x))
    simp only [List.foldl_cons]
    generalize l.foldl (fun m c => max m (g c)) (max m (g x)) = r at *
    refine ⟨(Nat.le_max_left _ _).trans least, ?_, ?_⟩
    · rintro c hc
      rcases List.mem_cons.1 hc with rfl | hc
      · exact (Nat.le_max_right _ _).trans least
      · exact bound c hc
    · rcases attained with top | ⟨c, hc, top⟩
      · rcases Nat.le_total m (g x) with le | le
        · exact .inr ⟨x, List.mem_cons_self, by rw [top, Nat.max_eq_right le]⟩
        · exact .inl (by rw [top, Nat.max_eq_left le])
      · exact .inr ⟨c, List.mem_cons_of_mem x hc, top⟩

/-- How far channel `c` reaches on the desktop of computer `n`; 0 for another's channel and for one without a known
timing. -/
def headExtent (s : State) (n : Computer) (extent : ChannelEntry → Timing → Nat) (c : Channel) : Nat :=
  if s.tables.channel[c].owner = some n then ((knownTiming s c).map (extent s.tables.channel[c])).getD 0 else 0

theorem autoSize_eq (s : State) (n : Computer) (extent : ChannelEntry → Timing → Nat) :
    autoSize s n extent = channelNos.foldl (fun m c => max m (headExtent s n extent c)) 0 := by
  unfold autoSize headExtent
  refine congrArg (fun f => channelNos.foldl f 0) (funext fun m => funext fun c => ?_)
  split
  · cases knownTiming s c <;> simp
  · simp

/-- `m` is the greatest extent of the channels of computer `n` with a known timing, 0 if there is none. -/
def GreatestExtent (s : State) (n : Computer) (m : Nat) (extent : ChannelEntry → Timing → Nat) : Prop :=
  (∀ c tm, s.tables.channel[c].owner = some n → knownTiming s c = some tm → extent s.tables.channel[c] tm ≤ m) ∧
  (m = 0 ∨ ∃ c tm, s.tables.channel[c].owner = some n ∧ knownTiming s c = some tm ∧ extent s.tables.channel[c] tm = m)

theorem headExtent_of_known {s : State} {n : Computer} {c : Channel} {tm : Timing} (extent : ChannelEntry → Timing → Nat)
    (owner : s.tables.channel[c].owner = some n) (known : knownTiming s c = some tm) :
    headExtent s n extent c = extent s.tables.channel[c] tm := by
  rw [headExtent, if_pos owner, known]
  rfl

theorem known_of_headExtent_ne_zero {s : State} {n : Computer} {c : Channel} {extent : ChannelEntry → Timing → Nat}
    (h : headExtent s n extent c ≠ 0) : s.tables.channel[c].owner = some n ∧ ∃ tm, knownTiming s c = some tm := by
  unfold headExtent at h
  split at h
  next owner =>
    cases known : knownTiming s c with
    | none => simp [known] at h
    | some tm => exact ⟨owner, tm, rfl⟩
  next => exact absurd rfl h

theorem autoSize_greatest (s : State) (n : Computer) (extent : ChannelEntry → Timing → Nat) :
    GreatestExtent s n (autoSize s n extent) extent := by
  have every : ∀ c : Channel, c ∈ channelNos := by decide
  obtain ⟨-, bound, attained⟩ := foldl_max_greatest (headExtent s n extent) channelNos 0
  rw [autoSize_eq]
  generalize channelNos.foldl (fun m c => max m (headExtent s n extent c)) 0 = r at *
  refine ⟨fun c tm owner known => ?_, ?_⟩
  · rw [← headExtent_of_known extent owner known]
    exact bound c (every c)
  · by_cases zero : r = 0
    · exact .inl zero
    · obtain ⟨c, -, top⟩ := attained.resolve_left zero
      obtain ⟨owner, tm, known⟩ := known_of_headExtent_ne_zero (top.symm ▸ zero)
      exact .inr ⟨c, tm, owner, known, by rw [← headExtent_of_known extent owner known, top]⟩

theorem desktopWidth_set {s : State} {n : Computer} (h : s.tables.computer[n].desktopWidth ≠ 0) :
    desktopWidth s n = s.tables.computer[n].desktopWidth := if_neg h

theorem desktopWidth_auto {s : State} {n : Computer} (h : s.tables.computer[n].desktopWidth = 0) :
    desktopWidth s n = autoSize s n fun e tm => e.hx + tm.width := if_pos h

theorem desktopHeight_set {s : State} {n : Computer} (h : s.tables.computer[n].desktopHeight ≠ 0) :
    desktopHeight s n = s.tables.computer[n].desktopHeight := if_neg h

theorem desktopHeight_auto {s : State} {n : Computer} (h : s.tables.computer[n].desktopHeight = 0) :
    desktopHeight s n = autoSize s n fun e tm => e.hy + tm.height := if_pos h

/-! ### The coordinates at the pointer (R60, R63) -/

section
variable {s : State} {n : Computer} {t : Tile} {c : Channel}

theorem absoluteHere_unseated (h : seatTile s = none) : absoluteHere s n = none := by
  rw [absoluteHere, h]

theorem absoluteHere_noChannel (h : seatTile s = some t) (hc : t.channel = none) : absoluteHere s n = none := by
  simp only [absoluteHere, h, hc]

theorem absoluteHere_noTiming (h : seatTile s = some t) (hc : t.channel = some c) (known : knownTiming s c = none) :
    absoluteHere s n = none := by
  simp only [absoluteHere, h, hc, known]

theorem absoluteHere_known {tm : Timing} (h : seatTile s = some t) (hc : t.channel = some c)
    (known : knownTiming s c = some tm) : absoluteHere s n = some (absoluteIn s n t c tm) := by
  simp only [absoluteHere, h, hc, known]

end

/-- Settles O29: the fitted picture's arithmetic, then the desktop size and the coordinates by the known timings. -/
theorem pictureStaysInTile : Obligations.PictureStaysInTile := by
  unfold Obligations.PictureStaysInTile
  refine ⟨fun f tw th sw sh htw hth hsw hsw' hsh hsh' => ?_, fun s n => ?_⟩
  · obtain ⟨size, across, down, touches, filled, fitted⟩ := fitPicture_fits f htw hth hsw hsw' hsh hsh'
    obtain ⟨wide, high⟩ := size
    exact ⟨⟨wide, high⟩, across, down, touches, filled, fitted,
      fun d x => ⟨sourceCoord_lt (by omega) (by omega) d x _, sourceCoord_lt (by omega) (by omega) d x _⟩,
      absoluteCoord_le⟩
  · refine ⟨desktopWidth_set, fun h => ?_, desktopHeight_set, fun h => ?_, absoluteHere_unseated, fun t ht =>
      ⟨absoluteHere_noChannel ht, fun c hc => ⟨absoluteHere_noTiming ht hc, fun tm known => absoluteHere_known ht hc known⟩⟩⟩
    · rw [desktopWidth_auto h]
      exact autoSize_greatest s n fun e tm => e.hx + tm.width
    · rw [desktopHeight_auto h]
      exact autoSize_greatest s n fun e tm => e.hy + tm.height

end Sys2Proof.Machine
end


section
/-! # Channels and screen assignment -/

/-! ## SHOW (R82, R83) -/

namespace Sys2Proof.Machine

theorem exec_showChannel (a b : Byte) (s : State) :
    exec (.showChannel (.hotkey a b)) s = .next (actShow a.toNat b.toNat s) := rfl

theorem channelArg_numByte (c : Option Channel) : channelArg (numByte c).toNat = some c := by
  cases c with
  | none => rfl
  | some c =>
    have inByte : num c ≤ 255 := le_trans c.isLt (by decide)
    exact channelArg_num (byte_toNat inByte).symm

/-- The tables once entry `sc` of the assignment table is SINGLE `c` (R83). -/
def showTables (sc : ScreenNo) (c : Option Channel) (tb : Tables) : Tables :=
  { tb with assignment := tb.assignment.set sc (.single c) }

/-- The new tables in force, and the request of the entry SHOW has written. -/
def showChange (sc : ScreenNo) (c : Option Channel) (s : State) : State :=
  setRequested sc (.single c) (changeTables (showTables sc c s.tables) s)

theorem showChange_announced (sc : ScreenNo) (c : Option Channel) (s : State) : announced .table (showChange sc c s) :=
  (heard_setRequested sc _ _).announced (changeTables_announced _ s)

theorem actShow_noScreen {k m : Nat} (h : ∀ sc : ScreenNo, num sc ≠ k) (s : State) : actShow k m s = s := by
  rw [actShow, ofNum_of_no_num h]

theorem actShow_noChannel {k m : Nat} (h : 16 < m) (s : State) : actShow k m s = s := by
  rw [actShow, channelArg_out h]
  split <;> trivial

theorem actShow_eq {k m : Nat} {sc : ScreenNo} {c : Option Channel} (hsc : num sc = k) (hc : channelArg m = some c)
    (s : State) : actShow k m s = if s.tables.assignment[sc] = .single c then s else showChange sc c s := by
  rw [actShow, ofNum_of_num hsc, hc]
  rfl

/-- Settles O40: an argument out of range, the entry as it was, or the changed entry and its request. -/
theorem showSetsAssignment : Obligations.ShowSetsAssignment := by
  unfold Obligations.ShowSetsAssignment
  intro a b s
  refine ⟨fun out => ?_, fun sc c hsc hc => ?_⟩
  · rw [exec_showChannel]
    rcases out with noScreen | noChannel
    · rw [actShow_noScreen noScreen]
    · rw [actShow_noChannel noChannel]
  · have shown := actShow_eq hsc (hc ▸ channelArg_numByte c) s
    rw [exec_showChannel, shown]
    refine ⟨fun same => by rw [if_pos same], fun changed => ⟨showChange sc c s, by rw [if_neg changed], ?_, ?_⟩⟩
    · exact requestedAt_setRequested sc (.single c) (changeTables (showTables sc c s.tables) s)
    · exact showChange_announced sc c s

end Sys2Proof.Machine
end


section
/-! ## The passing of a millisecond (R87) -/

namespace Sys2Proof.Machine

theorem step_idle {s : State} (h : s.pending = []) : step s = .next (s.elapse 1) := by
  rw [step, h]

theorem elapse_onlyScreens (d : Nat) (s : State) :
    s.elapse d = { s with now := s.now + d, screens := (s.elapse d).screens } := rfl

theorem screen_elapse_eq (d : Nat) (r : Screen) :
    r.elapse d = { r with peek := r.peek.map fun p => { p with remaining := p.remaining - d } } := by
  unfold Screen.elapse
  split
  next noPeek => rw [noPeek, Option.map_none, ← noPeek]
  next p peeked => rw [peeked, Option.map_some]

/-- Settles O2: an idle step is 1 ms that passes, screen by screen. -/
theorem idleStepPassesOneMillisecond : Obligations.IdleStepPassesOneMillisecond := by
  unfold Obligations.IdleStepPassesOneMillisecond
  intro s idle
  exact ⟨s.elapse 1, step_idle idle, elapse_onlyScreens 1 s, fun sc =>
    (elapse_screens 1 s sc).trans (screen_elapse_eq 1 s.screens[sc])⟩

end Sys2Proof.Machine
end


section
/-! ## Channels (R73 to R76) -/

namespace Sys2Proof.Machine

theorem exec_channelActivity (c : Channel) (s : State) :
    exec (.channelActivity c) s = .next (setChannel c s.channels[c].activity s) := rfl

theorem exec_channelFrame (c : Channel) (t : Timing) (s : State) :
    exec (.channelFrame c t) s = .next (setChannel c (s.channels[c].frame t) s) := rfl

theorem exec_channelLoss (c : Channel) (s : State) :
    exec (.channelLoss c) s = .next (setChannel c s.channels[c].loss s) := rfl

/-- A record written as it was is no change of state, so nothing is raised (R76). -/
theorem setChannel_same (c : Channel) (s : State) : setChannel c s.channels[c] s = s := by
  unfold setChannel
  rw [if_pos rfl]
  exact congrArg s.setChannels (Vector.set_getElem_self c.isLt)

theorem timingSupported_iff (t : Timing) : timingSupported t = true ↔
    640 ≤ t.width ∧ t.width ≤ 7680 ∧ 480 ≤ t.height ∧ t.height ≤ 4320 := by
  simp [timingSupported, and_assoc]

section
variable {r : ChannelRt} {t : Timing}

theorem activity_noSignal (h : r.state = .noSignal) : r.activity = ⟨.locking, none, 0, r.lastLocked⟩ := by
  rw [ChannelRt.activity, h]

theorem activity_signal (h : r.state ≠ .noSignal) : r.activity = r := by
  unfold ChannelRt.activity
  split
  next silent => exact absurd silent h
  all_goals rfl

theorem loss_eq (r : ChannelRt) : r.loss = ⟨.noSignal, none, 0, r.lastLocked⟩ := rfl

theorem restart_eq (t : Timing) (r : ChannelRt) : r.restart t = ⟨.locking, some t, 1, r.lastLocked⟩ := rfl

/-! ### A frame counted (R74) -/

theorem count3_early (h : r.count < 2) : r.count3 t = { r with count := r.count + 1 } :=
  if_pos (by omega)

theorem count3_third (h : r.count = 2) : r.count3 t =
    if timingSupported t then { r with state := .locked, count := 3, lastLocked := some t }
    else { r with state := .unsupported, count := 3 } :=
  if_neg (by omega)

/-! ### A frame by the state of the channel (R74, R75) -/

theorem frame_noSignal (h : r.state = .noSignal) : r.frame t = r.restart t := by
  rw [ChannelRt.frame, h]

theorem frame_other (h : r.timing ≠ some t) : r.frame t = r.restart t := by
  unfold ChannelRt.frame
  split
  · rfl
  all_goals rw [if_neg h]

theorem frame_counted (h : r.state = .locking) (same : r.timing = some t) : r.frame t = r.count3 t := by
  rw [ChannelRt.frame, h]
  exact if_pos same

theorem frame_judged (h : r.state = .locked ∨ r.state = .unsupported) (same : r.timing = some t) : r.frame t = r := by
  rcases h with locked | unsupported
  · rw [ChannelRt.frame, locked]
    exact if_pos same
  · rw [ChannelRt.frame, unsupported]
    exact if_pos same

theorem frame_counted_early (h : r.state = .locking) (same : r.timing = some t) (early : r.count < 2) :
    r.frame t = ⟨.locking, some t, r.count + 1, r.lastLocked⟩ := by
  rw [frame_counted h same, count3_early early, h, same]

theorem frame_third_shown (h : r.state = .locking) (same : r.timing = some t) (third : r.count = 2)
    (shown : timingSupported t = true) : r.frame t = ⟨.locked, some t, 3, some t⟩ := by
  rw [frame_counted h same, count3_third third, if_pos shown, same]

theorem frame_third_notShown (h : r.state = .locking) (same : r.timing = some t) (third : r.count = 2)
    (notShown : ¬ timingSupported t = true) : r.frame t = ⟨.unsupported, some t, 3, r.lastLocked⟩ := by
  rw [frame_counted h same, count3_third third, if_neg notShown, same]

end

/-- Settles O37: each command writes the record its rule gives, by the state, the timing held and the count. -/
theorem channelsAcquireTimings : Obligations.ChannelsAcquireTimings := by
  unfold Obligations.ChannelsAcquireTimings
  intro c t s becomes last shown same
  have writes : ∀ r : ChannelRt, becomes r = setChannel c r s := fun _ => rfl
  simp only [writes, exec_channelActivity, exec_channelFrame, exec_channelLoss]
  have restarts : ¬ same → s.channels[c].frame t = ⟨.locking, some t, 1, last⟩ := frame_other
  refine ⟨fun silent => ?_, fun signal => ?_, fun locking => ⟨fun other => ?_, fun held early => ?_, fun held third can => ?_,
    fun held third cannot => ?_⟩, fun judged => ⟨fun held => ?_, fun other => ?_⟩, ?_⟩
  · rw [activity_noSignal silent, frame_noSignal silent]
    exact ⟨rfl, rfl⟩
  · rw [activity_signal signal, setChannel_same]
  · rw [restarts other]
  · rw [frame_counted_early locking held early]
  · rw [frame_third_shown locking held third ((timingSupported_iff t).2 can)]
  · rw [frame_third_notShown locking held third (mt (timingSupported_iff t).1 cannot)]
  · rw [frame_judged judged held, setChannel_same]
  · rw [restarts other]
  · rfl

end Sys2Proof.Machine
end

section
/-! # Hotkeys and command mode -/

/-! ## The matcher runs the first entry a press matches (R98, R100, R102) -/

namespace Sys2Proof.Machine

/-! ### The searches of the hotkey table -/

section

variable {i : Fin 32} {k : Nat} {s : State}

/-- A search by a test that decides `P` finds the first entry `P` holds of. -/
theorem find?_firstEntry {P : HotkeyEntry → Prop} {test : HotkeyEntry → Bool} (decides : ∀ e, test e = true ↔ P e)
    (first : firstEntry P i s) : s.tables.hotkey.toList.find? test = some s.tables.hotkey[i] := by
  obtain ⟨here, earlier⟩ := first
  exact find?_first _ _ i ((decides _).2 here) fun j hj =>
    Bool.eq_false_of_not_eq_true fun passes => earlier j hj ((decides _).1 passes)

theorem findEntry_first {kind : HotkeyKind}
    (first : firstEntry (fun e => e.enabled = true ∧ e.kind = kind ∧ e.key = k) i s) :
    findEntry s.tables kind k = some s.tables.hotkey[i] :=
  find?_firstEntry (fun e => by simp [and_assoc]) first

theorem findEntry_none {kind : HotkeyKind}
    (absent : ∀ j : Fin 32, ¬ (s.tables.hotkey[j].enabled = true ∧ s.tables.hotkey[j].kind = kind ∧
      s.tables.hotkey[j].key = k)) :
    findEntry s.tables kind k = none :=
  Option.not_isSome_iff_eq_none.1 fun found =>
    let ⟨j, entry⟩ := (findEntry_isSome _ _ _).1 found
    absent j entry

theorem findChord_first {keys : List Nat}
    (first : firstEntry (fun e => e.enabled = true ∧ e.kind = .chord ∧ e.key = k ∧ modifiersMet e keys = true) i s) :
    findChord s.tables keys k = some s.tables.hotkey[i] :=
  find?_firstEntry (fun e => by simp [and_assoc]) first

theorem findChord_none {keys : List Nat}
    (absent : ∀ j : Fin 32, ¬ (s.tables.hotkey[j].enabled = true ∧ s.tables.hotkey[j].kind = .chord ∧
      s.tables.hotkey[j].key = k ∧ modifiersMet s.tables.hotkey[j] keys = true)) :
    findChord s.tables keys k = none := by
  refine find?_none _ _ fun j => Bool.eq_false_of_not_eq_true ?_
  simpa [and_assoc] using absent j

end

/-! ### What the matcher makes of a press -/

section

variable {k : Nat} {s : State}

theorem lockKeyPress_unlocked (hl : s.lock.state = .unlocked) : lockKeyPress k s = matcherPress k s := by
  rw [lockKeyPress, hl]

theorem matcherPress_command (mode : s.matcher.commandMode = true) :
    matcherPress k s = runEntry (findEntry s.tables .follower k) (s.setMatcher ⟨false, none, none⟩) :=
  if_pos mode

theorem matcherPress_chord {e : HotkeyEntry} (mode : s.matcher.commandMode = false)
    (found : findChord s.tables s.console.deskKeys k = some e) :
    matcherPress k s = runEntry (some e) (setCandidate none s) := by
  rw [matcherPress, mode, if_neg Bool.false_ne_true, found]

theorem matcherPress_secondTap (mode : s.matcher.commandMode = false)
    (noChord : findChord s.tables s.console.deskKeys k = none) (tap : secondTap k s = true) :
    matcherPress k s = runEntry (findEntry s.tables .doubleTap k) (setCandidate none s) := by
  rw [matcherPress, mode, if_neg Bool.false_ne_true, noChord]
  exact if_pos tap

/-- A press at the very expiry is still a second tap (log entry 29). -/
theorem secondTap_candidate {expiry : Nat} (tapped : s.matcher.candidate = some ⟨k, true, expiry⟩)
    (inTime : s.now ≤ expiry) : secondTap k s = true := by
  rw [secondTap, tapped]
  simpa using inTime

end

/-- A press for which the lock unit's filter and the matcher run the entry `e` is the entry's command, and then the new key
set of the device (R8, R98). -/
theorem press_runs {c : ConsoleNo} {r : KeyInput} {k : Nat} {n : List Nat} {s u : State} {e : HotkeyEntry}
    (press : PressAlone c r k n s) (ok : e.Ok) (runs : lockKeyPress k (keyEntered k s) = runEntry (some e) u) :
    ∃ t, exec (actionRow e.action (.hotkey (byte e.arg1) (byte e.arg2))) u = .next t ∧
      exec (.keyboardReport c r) s = .next (keySetTaken c n t) :=
  ⟨_, exec_actionRow e ok u, by rw [exec_pressAlone press, runs]; rfl⟩

/-- Settles O24: each kind of hotkey is one branch of the matcher, and the table search finds the first entry. -/
theorem hotkeysRunActions : Obligations.HotkeysRunActions := by
  unfold Obligations.HotkeysRunActions
  intro c r k n s press hl ok run chord entered
  have filter : lockKeyPress k entered = matcherPress k entered := lockKeyPress_unlocked hl
  have command (mode : s.matcher.commandMode = true) : lockKeyPress k entered =
      runEntry (findEntry s.tables .follower k) (entered.setMatcher ⟨false, none, none⟩) :=
    filter.trans (matcherPress_command mode)
  refine ⟨fun i mode first => ?_, fun i expiry mode noChord tapped inTime first => ?_, fun i mode first => ?_,
    fun mode absent => ?_⟩
  · exact press_runs press (ok i) (filter.trans (matcherPress_chord mode (findChord_first first)))
  · have second : lockKeyPress k entered = runEntry (findEntry s.tables .doubleTap k) (setCandidate none entered) :=
      filter.trans (matcherPress_secondTap mode (findChord_none noChord) (secondTap_candidate tapped inTime))
    rw [findEntry_first first] at second
    exact press_runs press (ok i) second
  · have follower := command mode
    rw [findEntry_first first] at follower
    exact press_runs press (ok i) follower
  · rw [exec_pressAlone press, command mode, findEntry_none absent]
    rfl

end Sys2Proof.Machine
end

section
/-! ## ACTION requests (R109, R168) -/

namespace Sys2Proof.Machine

/-! ### The rows that carry an action -/

/-- The row of a shared action is its owner's `run`, called by a hotkey or a request (R105, R109). -/
theorem exec_sharedAction {row : ActionCall → Instr} (shared : row ∈ sharedActions) :
    ∃ run : Nat → Nat → State → State, ∀ a s, exec (row a) s = .next (callAction a run s) := by
  simp only [sharedActions, List.mem_cons, List.not_mem_nil, or_false] at shared
  rcases shared with rfl | rfl | rfl | rfl | rfl | rfl | rfl | rfl | rfl | rfl | rfl | rfl | rfl | rfl | rfl | rfl <;>
    exact ⟨_, fun _ _ => rfl⟩

theorem exec_typeText (a : ActionCall) (s : State) : exec (.typeText a) s = .next (callTypeText a s) := rfl

/-! ### A formed ACTION request of a manager -/

section

variable {r : Request} {a1 a2 : Byte} {s : State}
variable (taken : takesRequests s r.port) (manager : s.tables.computer[r.port].manager = true) (length : r.length = 3)
  (params : r.params = [a1, a2])
include taken manager length params

theorem serveAction_taken (body : State → State × Option (Status × List Byte)) :
    serveAction r body s = answer 4 r (body (setSlot r.port .empty s)) := by
  have formed : frameFits r 1 3 = true := by
    simp [frameFits, length, params, Config.requestMax]
  rw [serveAction, formed]
  exact serve_taken taken manager

theorem callAction_request (run : Nat → Nat → State → State) :
    callAction (.request r) run s = replied 4 r .ok [] (callAction (.hotkey a1 a2) run (setSlot r.port .empty s)) := by
  show serveAction r (actionBody run r) s = _
  rw [serveAction_taken taken manager length params, actionBody, params]
  rfl

theorem callTypeText_request (hl : s.lock.state = .unlocked) :
    callTypeText (.request r) s = replied 4 r .ok [] (callTypeText (.hotkey a1 a2) (setSlot r.port .empty s)) := by
  have unlocked : (setSlot r.port .empty s).lock.state = .unlocked := hl
  show serveAction r (typeTextBody r) s = _
  rw [serveAction_taken taken manager length params, typeTextBody, if_pos unlocked, actionBody, params]
  rfl

theorem callTypeText_refused (hl : s.lock.state ≠ .unlocked) :
    callTypeText (.request r) s = replied 4 r .locked [] s := by
  have locked : ¬ (setSlot r.port .empty s).lock.state = .unlocked := hl
  rw [callTypeText, serveAction_taken taken manager length params, typeTextBody, if_neg locked]
  exact putReply_setSlot _ _ _ _ _ _ _

end

/-- Settles O7: the request form of an action row is its hotkey form on the state with the slot emptied, and a reply. -/
theorem actionRequestRunsTheAction : Obligations.ActionRequestRunsTheAction := by
  unfold Obligations.ActionRequestRunsTheAction
  refine ⟨fun row r a1 a2 s known taken manager length params free => ?_,
    fun r a1 a2 s taken manager length params hl => ?_⟩
  · rcases List.mem_cons.1 known with rfl | shared
    · refine ⟨_, exec_typeText (.hotkey a1 a2) _, ?_⟩
      rw [exec_typeText, callTypeText_request taken manager length params (free rfl)]
      rfl
    · obtain ⟨run, runs⟩ := exec_sharedAction shared
      refine ⟨_, runs (.hotkey a1 a2) _, ?_⟩
      rw [runs, callAction_request taken manager length params]
      rfl
  · rw [exec_typeText, callTypeText_refused taken manager length params hl]

end Sys2Proof.Machine
end

section
/-! ## Command mode and the matcher's timers (R101, R103, R104) -/

namespace Sys2Proof.Machine

/-! ### The commands of the matcher -/

theorem exec_noAction (a b : Byte) (s : State) : exec (.noAction (.hotkey a b)) s = .next s := rfl

theorem exec_command (a b : Byte) (s : State) : exec (.command (.hotkey a b)) s = .next (actCommand s) := rfl

theorem exec_doubleTapWindowExpiry (s : State) : exec .doubleTapWindowExpiry s = .next (doDoubleTapExpiry s) := rfl

theorem exec_commandTimerExpiry (s : State) : exec .commandTimerExpiry s = .next (doCommandExpiry s) := rfl

/-! ### COMMAND (R103) -/

section

variable {s : State}

theorem actCommand_unlocked (hl : s.lock.state = .unlocked) :
    actCommand s = { s with matcher := ⟨true, some (s.now + s.tables.options.commandTimeout), none⟩ } :=
  if_pos hl

theorem actCommand_locked (hl : s.lock.state ≠ .unlocked) : actCommand s = s :=
  if_neg hl

/-! ### The timers run out (R101, R104) -/

theorem doDoubleTapExpiry_stopped (h : s.matcher.candidate = none) : doDoubleTapExpiry s = s := by
  rw [doDoubleTapExpiry, h]

theorem doDoubleTapExpiry_running {cand : Candidate} (h : s.matcher.candidate = some cand) :
    doDoubleTapExpiry s = { s.advanceTo cand.expiry with matcher := { s.matcher with candidate := none } } := by
  rw [doDoubleTapExpiry, h]
  rfl

theorem doCommandExpiry_stopped (h : s.matcher.commandTimer = none) : doCommandExpiry s = s := by
  rw [doCommandExpiry, h]

theorem doCommandExpiry_running {due : Nat} (h : s.matcher.commandTimer = some due) :
    doCommandExpiry s =
      { s.advanceTo due with matcher := { s.matcher with commandMode := false, commandTimer := none } } := by
  rw [doCommandExpiry, h]
  rfl

end

/-- Settles O31: each command by whether the console is UNLOCKED, or by whether its timer runs. -/
theorem matcherKeepsItsTimes : Obligations.MatcherKeepsItsTimes := by
  unfold Obligations.MatcherKeepsItsTimes
  intro a b s
  rw [exec_command, exec_doubleTapWindowExpiry, exec_commandTimerExpiry]
  refine ⟨exec_noAction a b s, fun hl => ?_, fun hl => ?_, fun stopped => ?_, fun cand running => ?_, fun stopped => ?_,
    fun due running => ?_⟩
  · rw [actCommand_unlocked hl]
  · rw [actCommand_locked hl]
  · rw [doDoubleTapExpiry_stopped stopped]
  · rw [doDoubleTapExpiry_running running]
  · rw [doCommandExpiry_stopped stopped]
  · rw [doCommandExpiry_running running]

end Sys2Proof.Machine
end

/-! # The lock of the console -/

section
/-! ## What LOCKED and LOCKOUT make of presses, releases and motion (R115, R117 to R119) -/

namespace Sys2Proof.Machine

/-! ### A press compared with the unlock sequence (R117 to R119) -/

section

variable {k : Nat} {q : List Nat} {s : State}

theorem lockKeyPress_locked (locked : s.lock.state = .locked) (stored : s.tables.unlock = some q) :
    lockKeyPress k s = comparePress q k s := by
  simp only [lockKeyPress, locked, lockedPress, stored]

theorem comparePress_advances (wanted : q[s.lock.progress]? = some k) (more : s.lock.progress + 1 < q.length) :
    comparePress q k s = { s with lock := { s.lock with progress := s.lock.progress + 1 } } := by
  rw [comparePress, if_pos wanted, if_pos more]
  rfl

theorem comparePress_unlocks (wanted : q[s.lock.progress]? = some k) (last : s.lock.progress + 1 = q.length) :
    comparePress q k s = raise .lock (syncBlanked { s with lock := ⟨.unlocked, 0, 0, none⟩ }) := by
  rw [comparePress, if_pos wanted, if_neg (Nat.not_lt.2 last.ge)]
  rfl

theorem comparePress_ignores (unwanted : ¬ q[s.lock.progress]? = some k) (start : s.lock.progress = 0) :
    comparePress q k s = s := by
  rw [comparePress, if_neg unwanted, if_pos start]

theorem comparePress_fails (unwanted : ¬ q[s.lock.progress]? = some k) (begun : s.lock.progress ≠ 0) :
    comparePress q k s = failAttempt (if q.head? = some k then 1 else 0) s := by
  rw [comparePress, if_neg unwanted, if_neg begun]

theorem failAttempt_counts {progress : Nat} (few : s.lock.failures < 4) :
    failAttempt progress s = raise .lock (syncBlanked
      { s with lock := { s.lock with progress := progress, failures := s.lock.failures + 1 } }) := by
  have within : ¬ Config.lockoutFailures ≤ s.lock.failures + 1 := by
    simp only [Config.lockoutFailures]
    omega
  simp only [failAttempt, if_neg within]
  rfl

theorem failAttempt_locksOut {progress : Nat} (four : s.lock.failures = 4) :
    failAttempt progress s =
      raise .lock (syncBlanked { s with lock := ⟨.lockout, 0, 5, some (s.now + 30000)⟩ }) := by
  have fifth : Config.lockoutFailures ≤ s.lock.failures + 1 := by
    simp only [Config.lockoutFailures]
    omega
  simp only [failAttempt, if_pos fifth]
  rfl

end

/-- A press that comes alone in LOCKED is compared, and its key set then becomes the last one (R8, R117). -/
theorem exec_pressAlone_locked {c : ConsoleNo} {r : KeyInput} {k : Nat} {n q : List Nat} {s : State}
    (press : PressAlone c r k n s) (locked : s.lock.state = .locked) (stored : s.tables.unlock = some q) :
    exec (.keyboardReport c r) s = .next (keySetTaken c n (comparePress q k (keyEntered k s))) := by
  rw [exec_pressAlone press, lockKeyPress_locked (s := keyEntered k s) locked stored]

/-! ### States that differ in the console's record alone -/

/-- `t` is `s` but for the console's own record. -/
def ConsoleOnly (s t : State) : Prop :=
  t = { s with console := t.console }

theorem ConsoleOnly.refl (s : State) : ConsoleOnly s s := rfl

theorem ConsoleOnly.trans {s t u : State} (h : ConsoleOnly s t) (k : ConsoleOnly t u) : ConsoleOnly s u :=
  Eq.trans k (congrArg (fun x : State => { x with console := u.console }) h)

theorem ConsoleOnly.eq_setConsole {s t : State} (h : ConsoleOnly s t) : ∃ v, t = s.setConsole v := ⟨t.console, h⟩

theorem ConsoleOnly.lock {s t : State} (h : ConsoleOnly s t) : t.lock = s.lock := by
  obtain ⟨v, rfl⟩ := h.eq_setConsole
  rfl

theorem ConsoleOnly.typeout {s t : State} (h : ConsoleOnly s t) : t.typeout = s.typeout := by
  obtain ⟨v, rfl⟩ := h.eq_setConsole
  rfl

theorem ConsoleOnly.focus {s t : State} (h : ConsoleOnly s t) : t.focus = s.focus := by
  obtain ⟨v, rfl⟩ := h.eq_setConsole
  rfl

theorem consoleOnly_setConsole (v : Console) (s : State) : ConsoleOnly s (s.setConsole v) := rfl

theorem consoleOnly_modConsolePort (c : ConsoleNo) (f : ConsolePort → ConsolePort) (s : State) :
    ConsoleOnly s (modConsolePort c f s) := rfl

theorem consoleOnly_foldl {α : Type} {f : State → α → State} {s : State}
    (hf : ∀ u a, ConsoleOnly s u → ConsoleOnly u (f u a)) (l : List α) : ConsoleOnly s (l.foldl f s) :=
  foldl_keeps (P := ConsoleOnly s) (fun u a h => h.trans (hf u a h)) l (.refl s)

/-! ### Nothing reaches a computer, and no mark is awaited (R115) -/

/-- The console is not UNLOCKED, and neither the type-out unit nor the focus controller waits for a mark. -/
structure Withheld (s : State) : Prop where
  locked : s.lock.state ≠ .unlocked
  idle : s.typeout.state ≠ .typing
  placed : s.focus.mode ≠ .held

theorem Withheld.later {s t : State} (h : Withheld s) (k : ConsoleOnly s t) : Withheld t where
  locked := by rw [k.lock]; exact h.locked
  idle := by rw [k.typeout]; exact h.idle
  placed := by rw [k.focus]; exact h.placed

section

variable {s : State} (h : Withheld s)
include h

theorem markAlone_withheld (mark : Bool) : markAlone mark s = s := by
  cases mark with
  | true =>
    show focusMark (typeoutMark s) = s
    rw [typeoutMark_idle h.idle, focusMark_of_not_held h.placed]
  | false => rfl

theorem lockKeyRelease_withheld (k : Nat) (mark : Bool) : lockKeyRelease k mark s = s := by
  unfold lockKeyRelease
  split
  next unlocked => exact absurd unlocked h.locked
  all_goals exact markAlone_withheld h mark

theorem lockButtonRelease_withheld (b : Nat) (mark : Bool) : lockButtonRelease b mark s = s := by
  unfold lockButtonRelease
  split
  next unlocked => exact absurd unlocked h.locked
  all_goals exact markAlone_withheld h mark

theorem lockButtonPress_withheld (b : Nat) : lockButtonPress b s = s := by
  unfold lockButtonPress
  split
  next unlocked => exact absurd unlocked h.locked
  all_goals rfl

theorem reportMotion_withheld (dx dy wheel : Int) (c : ConsoleNo) : reportMotion dx dy wheel c s = s := by
  have withheld : lockMotion dx dy wheel c s = s := by
    unfold lockMotion
    split
    next unlocked => exact absurd unlocked h.locked
    all_goals rfl
  rw [reportMotion, withheld, ite_self]

theorem deviceRelease_withheld (c : ConsoleNo) (k : Nat) : ConsoleOnly s (deviceRelease c s k) := by
  unfold deviceRelease
  split
  · exact .refl s
  · dsimp only
    rw [lockKeyRelease_withheld (h.later (consoleOnly_setConsole _ s))]
    exact consoleOnly_setConsole _ s

theorem deviceButtonRelease_withheld (c : ConsoleNo) (b : Nat) : ConsoleOnly s (deviceButtonRelease c s b) := by
  unfold deviceButtonRelease
  split
  · exact .refl s
  · dsimp only
    rw [lockButtonRelease_withheld (h.later (consoleOnly_setConsole _ s))]
    exact consoleOnly_setConsole _ s

theorem deviceButtonPress_withheld (b : Nat) : ConsoleOnly s (deviceButtonPress s b) := by
  unfold deviceButtonPress
  split
  · exact .refl s
  · rw [lockButtonPress_withheld (h.later (consoleOnly_setConsole _ s))]
    exact consoleOnly_setConsole _ s

/-- The releases of a report, one after another. -/
theorem releases_withheld (c : ConsoleNo) (l : List Nat) : ConsoleOnly s (l.foldl (deviceRelease c) s) :=
  consoleOnly_foldl (fun _ k same => deviceRelease_withheld (h.later same) c k) l

/-- A button set and a motion arrive (R12, R13). -/
theorem takeButtons_withheld (c : ConsoleNo) (o n : List Nat) (dx dy wheel : Int) :
    ConsoleOnly s (takeButtons c o n dx dy wheel s) := by
  have released : ConsoleOnly s ((setDiff o n).foldl (deviceButtonRelease c) s) :=
    consoleOnly_foldl (fun _ b same => deviceButtonRelease_withheld (h.later same) c b) _
  have later := h.later released
  rw [takeButtons, reportMotion_withheld later]
  exact released.trans ((consoleOnly_foldl (fun _ b same => deviceButtonPress_withheld (later.later same) b) _).trans
    (consoleOnly_modConsolePort c _ _))

end

/-! ### Key reports whose presses are not compared (R9, R115) -/

theorem devicePress_held {k : Nat} {s : State} (held : k ∈ s.console.deskKeys) : devicePress s k = s :=
  if_pos held

/-- The presses of keys that are held already, one after another. -/
theorem presses_held {l : List Nat} {s : State} (held : ∀ k ∈ l, k ∈ s.console.deskKeys) :
    l.foldl devicePress s = s := by
  induction l with
  | nil => rfl
  | cons k l ih =>
    rw [List.foldl_cons, devicePress_held (held k (List.mem_cons_self ..))]
    exact ih fun x hx => held x (List.mem_cons_of_mem _ hx)

theorem devicePress_lockout {s : State} (lockout : s.lock.state = .lockout) (k : Nat) :
    ConsoleOnly s (devicePress s k) := by
  unfold devicePress lockKeyPress
  split
  · exact .refl s
  · rw [State.setConsole_lock, lockout]
    exact consoleOnly_setConsole _ s

/-- A key set arrives in LOCKOUT, or one that presses no key but ones held already (R8, R9). -/
theorem takeKeySet_withheld {c : ConsoleNo} {o n : List Nat} {s : State} (h : Withheld s)
    (uncompared : s.lock.state = .lockout ∨ ∀ k ∈ n, k ∈ o ∨ k ∈ s.console.deskKeys) :
    ConsoleOnly s (takeKeySet c o n s) := by
  have released := releases_withheld h c (keyReleases o n)
  refine (released.trans ?_).trans (consoleOnly_modConsolePort c _ _)
  rcases uncompared with lockout | held
  · refine consoleOnly_foldl (fun u k same => devicePress_lockout ?_ k) _
    rw [same.lock, released.lock, lockout]
  · obtain ⟨-, left⟩ := releases_moved c (keyReleases o n) s
    have still : ∀ k ∈ keyPresses o n, k ∈ ((keyReleases o n).foldl (deviceRelease c) s).console.deskKeys := by
      intro k hk
      obtain ⟨pressed, new⟩ := (mem_keyPresses k o n).1 hk
      exact (left k).2 ⟨(held k pressed).resolve_left new, .inl fun gone => new ((mem_keyReleases k o n).1 gone).1⟩
    rw [presses_held still]
    exact .refl _

/-- A key report in LOCKOUT, or one that presses no key but ones held already. -/
theorem doKeyboardReport_withheld {c : ConsoleNo} {r : KeyInput} {s : State} (h : Withheld s)
    (uncompared : s.lock.state = .lockout ∨
      ∀ n, reduceKeys r = some n → ∀ k ∈ n, k ∈ s.console.ports[c].keys ∨ k ∈ s.console.deskKeys) :
    ConsoleOnly s (doKeyboardReport c r s) := by
  unfold doKeyboardReport
  split
  next o _ _ n port reduced =>
    refine takeKeySet_withheld h (uncompared.imp_right fun held => ?_)
    have of_port := held n reduced
    rw [port] at of_port
    exact of_port
  next => exact .refl s

theorem doPointerReport_withheld {s : State} (h : Withheld s) (c : ConsoleNo) (r : PointerInput) :
    ConsoleOnly s (doPointerReport c r s) := by
  unfold doPointerReport
  split
  · exact takeButtons_withheld h ..
  all_goals exact .refl s

/-- Settles O25: a press by the comparison with the wanted key; the other reports by what the lock unit withholds. -/
theorem lockedConsoleComparesPresses : Obligations.LockedConsoleComparesPresses := by
  unfold Obligations.LockedConsoleComparesPresses
  refine ⟨fun c r k n s q press locked stored => ?_, fun c r s locked idle placed uncompared => ?_,
    fun c r s locked idle placed => ?_⟩
  · rw [exec_pressAlone_locked press locked stored]
    refine ⟨fun wanted more => ?_, fun wanted last => ?_, fun unwanted start => ?_, fun unwanted begun few => ?_,
      fun unwanted begun four => ?_⟩
    · rw [comparePress_advances (s := keyEntered k s) wanted more]
      rfl
    · rw [comparePress_unlocks (s := keyEntered k s) wanted last]
    · rw [comparePress_ignores (s := keyEntered k s) unwanted start]
    · rw [comparePress_fails (s := keyEntered k s) unwanted begun, failAttempt_counts (s := keyEntered k s) few]
      rfl
    · rw [comparePress_fails (s := keyEntered k s) unwanted begun, failAttempt_locksOut (s := keyEntered k s) four]
      rfl
  · exact ⟨_, rfl, doKeyboardReport_withheld ⟨locked, idle, placed⟩ uncompared⟩
  · exact ⟨_, rfl, doPointerReport_withheld ⟨locked, idle, placed⟩ c r⟩

end Sys2Proof.Machine
end

section
/-! ## LOCK, UNLOCK and the end of a lockout (R116, R119, R120) -/

namespace Sys2Proof.Machine

/-! ### A re-seat in which no type-out ends -/

theorem announceFocus_mailbox (s : State) : (announceFocus s).typeout = s.typeout := rfl

theorem focusChangePlaced_mailbox {s : State} (idle : s.typeout.state ≠ .typing) (n : Computer)
    (handed : Option (Nat × Nat)) : (focusChangePlaced n handed s).typeout = s.typeout := by
  by_cases same : s.focus.focus = some n
  · rw [show focusChangePlaced n handed s = s from if_pos same]
  · have steps : focusChangePlaced n handed s = announceFocus (wakeOnFocus (some n) (setFocusTo (some n)
        (rememberHanded handed (focusLeft s)))) := if_neg same
    have set : (setFocusTo (some n) (rememberHanded handed (focusLeft s))).typeout = s.typeout := by
      rw [(focusSet_setFocusTo n _).typeout, (placing_rememberHanded handed _).typeout, focusLeft_mailbox,
        endTypeout_idle idle]
    rw [steps, announceFocus_mailbox, (wakeDone_wakeOnFocus (by rw [set]; exact idle)).typeout, set]

theorem actOnReseat_mailbox {s : State} (idle : s.typeout.state ≠ .typing) (o : ReseatOutcome) :
    (actOnReseat o s).typeout = s.typeout := by
  unfold actOnReseat
  split
  · rfl
  next m =>
    split
    · exact (placing_setMode .glide s).typeout
    · split
      · exact (placing_setMode .glide _).typeout.trans (focusChangePlaced_mailbox idle m none)
      · exact (placing_setMode .held s).typeout
  · exact (placing_setMode .detached s).typeout

theorem reseat_mailbox {s : State} (idle : s.typeout.state ≠ .typing) : (reseat s).typeout = s.typeout := by
  have placed := (reseatPlace_samePointer s).typeout
  rw [reseat_eq, answerReseat, (placing_considerPosition _).typeout, actOnReseat_mailbox (by rw [placed]; exact idle),
    placed]

/-! ### The end of every peek (R87) -/

/-- What the ends of peeks leave: the broadcast set, the mailbox where no type-out is in progress, and the blanking of the
screens. No peek starts. -/
structure PeeksEnding (s t : State) : Prop where
  broadcast : t.focus.broadcast = s.focus.broadcast
  mailbox : s.typeout.state ≠ .typing → t.typeout = s.typeout
  blanked : ∀ x : ScreenNo, t.screens[x].blanked = s.screens[x].blanked
  peekless : ∀ x : ScreenNo, s.screens[x].peek = none → t.screens[x].peek = none

theorem PeeksEnding.refl (s : State) : PeeksEnding s s := ⟨rfl, fun _ => rfl, fun _ => rfl, fun _ => id⟩

theorem PeeksEnding.trans {s t u : State} (h : PeeksEnding s t) (k : PeeksEnding t u) : PeeksEnding s u where
  broadcast := k.broadcast.trans h.broadcast
  mailbox idle := by
    have kept := h.mailbox idle
    exact (k.mailbox (by rw [kept]; exact idle)).trans kept
  blanked x := (k.blanked x).trans (h.blanked x)
  peekless x none := k.peekless x (h.peekless x none)

/-- The broadcast set, the mailbox and the screens, frames apart, stay. -/
theorem peeksEnding_of_screensKept {s t : State} (broadcast : t.focus.broadcast = s.focus.broadcast)
    (mailbox : s.typeout.state ≠ .typing → t.typeout = s.typeout) (screens : screensKept s t) : PeeksEnding s t := by
  refine ⟨broadcast, mailbox, fun x => ?_, fun x none => ?_⟩
  · obtain ⟨-, -, -, -, -, -, blanked⟩ := screens x
    exact blanked
  · exact (screenKept_of_screensKept screens x).peek.trans none

theorem peeksEnding_modScreen (sc : ScreenNo) (f : Screen → Screen) (blanked : ∀ r, (f r).blanked = r.blanked)
    (peekless : ∀ r, r.peek = none → (f r).peek = none) (s : State) : PeeksEnding s (s.modScreen sc f) := by
  refine ⟨rfl, fun _ => rfl, fun x => ?_, fun x none => ?_⟩
  · rw [Fin.getElem_fin, State.modScreen_screens]
    split
    · exact blanked _
    · rfl
  · rw [Fin.getElem_fin, State.modScreen_screens]
    split
    · exact peekless _ none
    · exact none

theorem peeksEnding_reseat (s : State) : PeeksEnding s (reseat s) :=
  have reseats := reseats_reseat s
  peeksEnding_of_screensKept reseats.broadcast reseat_mailbox reseats.screens

theorem peeksEnding_assignScreen (sc : ScreenNo) (a : Assignment) (s : State) : PeeksEnding s (assignScreen sc a s) := by
  unfold assignScreen
  split
  · exact peeksEnding_modScreen sc (fun r => { r with pendingAssignment := some a }) (fun _ => rfl) (fun _ => id) s
  · exact (peeksEnding_modScreen sc (fun r => { r with displayed := a, frames := kindsFor s sc a, pendingFrames := none })
      (fun _ => rfl) (fun _ => id) s).trans (peeksEnding_reseat _)

theorem peeksEnding_recomputeFrames (s : State) : PeeksEnding s (recomputeFrames s) :=
  peeksEnding_of_screensKept rfl (fun _ => rfl) (screensKept_recomputeFrames s)

theorem peeksEnding_raise (e : EventKind) (s : State) : PeeksEnding s (raise e s) :=
  ⟨rfl, fun _ => rfl, fun _ => rfl, fun _ => id⟩

theorem peeksEnding_closePeek (sc : ScreenNo) (s : State) : PeeksEnding s (closePeek sc s) :=
  (peeksEnding_modScreen sc (fun r => { r with peek := none }) (fun _ => rfl) (fun _ _ => rfl) s).trans
    ((peeksEnding_recomputeFrames _).trans (peeksEnding_raise .screen _))

theorem peeksEnding_endPeek (sc : ScreenNo) (s : State) : PeeksEnding s (endPeek sc s) := by
  unfold endPeek
  split
  · exact .refl s
  · exact (peeksEnding_assignScreen sc _ s).trans (peeksEnding_closePeek sc _)

theorem endPeek_peekless {sc : ScreenNo} {s : State} (h : s.screens[sc].peek = none) : endPeek sc s = s := by
  rw [endPeek, h]

theorem endPeek_peek (sc : ScreenNo) (s : State) : (endPeek sc s).screens[sc].peek = none := by
  cases h : s.screens[sc].peek with
  | none => rw [endPeek_peekless h, h]
  | some p =>
    obtain ⟨peek, -⟩ := endPeek_ended h
    exact peek

/-- The peeks of the screens `l` have ended, one after another. -/
theorem endPeeks_peek {x : ScreenNo} {l : List ScreenNo} (hx : x ∈ l) (s : State) :
    (l.foldl (fun u sc => endPeek sc u) s).screens[x].peek = none := by
  induction l generalizing s with
  | nil => cases hx
  | cons y l ih =>
    rcases List.mem_cons.1 hx with rfl | later
    · exact foldl_keeps (P := fun u => u.screens[x].peek = none)
        (fun u sc none => (peeksEnding_endPeek sc u).peekless x none) l (endPeek_peek x s)
    · exact ih later _

theorem mem_screenNos : ∀ sc : ScreenNo, sc ∈ screenNos := by decide

theorem endAllPeeks_peek (sc : ScreenNo) (s : State) : (endAllPeeks s).screens[sc].peek = none :=
  endPeeks_peek (mem_screenNos sc) s

theorem peeksEnding_endAllPeeks (s : State) : PeeksEnding s (endAllPeeks s) :=
  foldl_keeps (P := PeeksEnding s) (fun u sc h => h.trans (peeksEnding_endPeek sc u)) screenNos (.refl s)

theorem endAllPeeks_peekless {s : State} (h : ∀ sc : ScreenNo, s.screens[sc].peek = none) : endAllPeeks s = s :=
  foldl_keeps (P := (· = s)) (fun u sc same => by rw [same, endPeek_peekless (h sc)]) screenNos rfl

/-! ### The focus controller at a lock (R41) -/

theorem releaseBeliefs_each : EachInTurn (fun s n => releaseBelief n s) (fun _ => True) (fun _ _ => True)
    (fun m s => s.focus.beliefs[m] = ⟨[], []⟩) where
  keeps _ _ _ := trivial
  makes u n _ _ := State.setBelief_beliefs_self u n _
  waits _ _ _ _ _ _ := trivial
  stays u n m _ _ empty := (gentle_releaseBelief n u).empty m empty

/-- What the focus controller makes of a lock: every computer believes nothing held, and the remainder is gone. -/
structure FocusLocked (s t : State) : Prop where
  focus : t.focus = { s.focus with beliefs := t.focus.beliefs, rx := 0, ry := 0 }
  silent : ∀ n : Computer, t.focus.beliefs[n] = ⟨[], []⟩
  glide : t.glide = s.glide
  typeout : t.typeout = s.typeout
  screens : t.screens = s.screens

theorem focusLocked_focusAtLock (s : State) : FocusLocked s (focusAtLock s) := by
  have told : Told s (releaseAllBeliefs s) := told_foldl (fun u n => told_releaseBelief u n) computers s
  have calm : Calm s (releaseAllBeliefs s) :=
    foldl_keeps (P := Calm s) (fun u n h => h.trans (calm_releaseBelief n u)) computers (.refl s)
  refine ⟨?_, fun n => releaseBeliefs_each.all (u := s) trivial n trivial, calm.keptGlide, told.typeout, told.screens⟩
  rw [focusAtLock, clearRemainder, State.setFocus_focus, told.focus]

/-! ### LOCK (R116) -/

theorem setLockRecord_screen (l : Lock) (sc : ScreenNo) (s : State) : (setLockRecord l s).screens[sc] =
    if s.screens[sc].attached then s.screens[sc]
    else { s.screens[sc] with blanked := blankCall (s.setLock l) } :=
  Vector.getElem_ofFn sc.isLt

/-- The lock record set, the type-out ended and the matcher cleared (R116 steps 1 to 3). -/
def lockBegun (s : State) : State :=
  clearMatcher (endTypeout .cancelledLock (setLockRecord ⟨.locked, 0, 0, none⟩ s))

theorem endTypeout_text (e : TypeEnd) (s : State) : (endTypeout e s).typeout.text = s.typeout.text := by
  by_cases typing : s.typeout.state = .typing
  · rw [endTypeout_mailbox typing]
    rfl
  · rw [endTypeout_idle typing]

/-- What the first steps of a lock leave. -/
structure LockBegun (s t : State) : Prop where
  lock : t.lock = ⟨.locked, 0, 0, none⟩
  matcher : t.matcher = ⟨false, none, none⟩
  idle : t.typeout.state ≠ .typing
  text : t.typeout.text = s.typeout.text
  outcome : s.typeout.state = .typing →
    t.typeout.outcome = some ⟨.cancelledLock, s.typeout.typed, s.typeout.skipped⟩
  peek : ∀ sc : ScreenNo, t.screens[sc].peek = s.screens[sc].peek
  blanked : ∀ sc : ScreenNo, s.screens[sc].attached = false → t.screens[sc].blanked = true
  focused : t.focus.focus = s.focus.focus
  mode : t.focus.mode = s.focus.mode
  broadcast : t.focus.broadcast = s.focus.broadcast
  glide : t.glide = s.glide
  tables : t.tables = s.tables
  deskKeys : t.console.deskKeys = s.console.deskKeys
  deskButtons : t.console.deskButtons = s.console.deskButtons
  channels : t.channels = s.channels
  generation : t.mgmt.generation = s.mgmt.generation

theorem lockBegun_begun (s : State) : LockBegun s (lockBegun s) := by
  have calm := calm_endTypeout .cancelledLock (setLockRecord ⟨.locked, 0, 0, none⟩ s)
  have quiet := quiet_endTypeout .cancelledLock (setLockRecord ⟨.locked, 0, 0, none⟩ s)
  have screens : (lockBegun s).screens = (setLockRecord ⟨.locked, 0, 0, none⟩ s).screens := calm.screens
  refine ⟨quiet.lock, rfl, endTypeout_not_typing _ _, endTypeout_text _ _, fun typing => ?_, fun sc => ?_,
    fun sc unattached => ?_, calm.focused, calm.mode, calm.broadcast, calm.keptGlide, quiet.tables, quiet.deskKeys,
    quiet.deskButtons, quiet.channels, quiet.generation⟩
  · have ended := endTypeout_mailbox (e := .cancelledLock) (s := setLockRecord ⟨.locked, 0, 0, none⟩ s) typing
    exact congrArg Typeout.outcome ended
  · rw [screens, setLockRecord_screen]
    split <;> rfl
  · rw [screens, setLockRecord_screen, unattached]
    rfl

/-- What the end of every peek, the focus controller's part and the event of a lock leave of the state `s` in which the
lock has begun (R116 steps 4 to 6). -/
structure LockEnded (s t : State) : Prop where
  quiet : Quiet s t
  mailbox : t.typeout = s.typeout
  peek : ∀ sc : ScreenNo, t.screens[sc].peek = none
  blanked : ∀ sc : ScreenNo, t.screens[sc].blanked = s.screens[sc].blanked
  silent : ∀ n : Computer, t.focus.beliefs[n] = ⟨[], []⟩
  remainder : t.focus.rx = 0 ∧ t.focus.ry = 0
  broadcast : t.focus.broadcast = s.focus.broadcast
  announced : announced .lock t
  placed : (∀ sc : ScreenNo, s.screens[sc].peek = none) →
    t.focus.focus = s.focus.focus ∧ t.focus.mode = s.focus.mode ∧ t.glide = s.glide

theorem lockEnded_of_idle {s : State} (idle : s.typeout.state ≠ .typing) :
    LockEnded s (raise .lock (focusAtLock (endAllPeeks s))) := by
  have ending := peeksEnding_endAllPeeks s
  have peekless := fun sc => endAllPeeks_peek sc s
  have unpeeked := endAllPeeks_peekless (s := s)
  have ends := quiet_endAllPeeks s
  generalize endAllPeeks s = u at ending peekless unpeeked ends
  have locked := focusLocked_focusAtLock u
  have quiet := (ends.trans (quiet_focusAtLock u)).trans (quiet_raise .lock _)
  generalize focusAtLock u = v at locked quiet
  refine ⟨quiet, locked.typeout.trans (ending.mailbox idle), fun sc => ?_, fun sc => ?_, locked.silent, ?_, ?_,
    announced_raise .lock v, fun none => ?_⟩
  · show v.screens[sc].peek = _
    rw [locked.screens, peekless]
  · show v.screens[sc].blanked = _
    rw [locked.screens, ending.blanked]
  · show v.focus.rx = 0 ∧ v.focus.ry = 0
    rw [locked.focus]
    exact ⟨rfl, rfl⟩
  · show v.focus.broadcast = _
    rw [locked.focus]
    exact ending.broadcast
  · show v.focus.focus = _ ∧ v.focus.mode = _ ∧ v.glide = _
    rw [locked.focus, locked.glide, unpeeked none]
    exact ⟨rfl, rfl, rfl⟩

theorem lockConsole_eq (s : State) : lockConsole s = raise .lock (focusAtLock (endAllPeeks (lockBegun s))) := rfl

section

variable {s : State}

theorem actLock_ignored (h : s.lock.state ≠ .unlocked ∨ s.tables.unlock = none) : actLock s = s := by
  unfold actLock
  split
  next unlocked stored =>
    exact h.elim (absurd unlocked) fun none => absurd (stored.symm.trans none) (Option.some_ne_none _)
  · rfl

theorem actLock_locks (unlocked : s.lock.state = .unlocked) (stored : s.tables.unlock.isSome = true) :
    actLock s = lockConsole s := by
  obtain ⟨q, stored⟩ := Option.isSome_iff_exists.1 stored
  simp only [actLock, unlocked, stored]

/-! ### UNLOCK (R120) and LOCKOUT_TIMER_EXPIRY (R119) -/

theorem actUnlock_unlocked (unlocked : s.lock.state = .unlocked) : actUnlock s = s := by
  rw [actUnlock, unlocked]

theorem actUnlock_locked (locked : s.lock.state ≠ .unlocked) : actUnlock s = unlockConsole s := by
  unfold actUnlock
  split
  next unlocked => exact absurd unlocked locked
  all_goals rfl

theorem unlockConsole_setSlot (p : Computer) (v : ReplySlot) :
    unlockConsole (setSlot p v s) = setSlot p v (unlockConsole s) :=
  raise_setSlot (s := setLockRecord ⟨.unlocked, 0, 0, none⟩ s) .lock

theorem actUnlock_setSlot (p : Computer) (v : ReplySlot) : actUnlock (setSlot p v s) = setSlot p v (actUnlock s) := by
  by_cases unlocked : s.lock.state = .unlocked
  · rw [actUnlock_unlocked unlocked, actUnlock_unlocked (s := setSlot p v s) unlocked]
  · rw [actUnlock_locked unlocked, actUnlock_locked (s := setSlot p v s) unlocked, unlockConsole_setSlot]

/-- A formed UNLOCK request of a manager unlocks and is answered OK (R120, R168). -/
theorem exec_unlock_taken {r : Request} {a b : Byte} (taken : takesRequests s r.port)
    (manager : s.tables.computer[r.port].manager = true) (length : r.length = 3) (params : r.params = [a, b]) :
    exec (.unlock r) s = .next (replied 4 r .ok [] (actUnlock s)) := by
  have called : exec (.unlock r) s = .next (callAction (.request r) (fun _ _ => actUnlock) s) := rfl
  rw [called, callAction_request taken manager length params, callAction, actUnlock_setSlot]
  exact congrArg _ (putReply_setSlot _ _ _ _ _ _ _)

theorem doLockoutExpiry_stopped (h : s.lock.timer = none) : doLockoutExpiry s = s := by
  rw [doLockoutExpiry, h]

theorem doLockoutExpiry_running {due : Nat} (h : s.lock.timer = some due) :
    doLockoutExpiry s = raise .lock (syncBlanked { s.advanceTo due with lock := ⟨.locked, 0, 0, none⟩ }) := by
  rw [doLockoutExpiry, h]
  rfl

end

theorem exec_lock (a b : Byte) (s : State) : exec (.lock (.hotkey a b)) s = .next (actLock s) := rfl

theorem exec_lockoutTimerExpiry (s : State) : exec .lockoutTimerExpiry s = .next (doLockoutExpiry s) := rfl

/-- Settles O32: LOCK by its first steps, the ends of the peeks and the focus controller's part; UNLOCK and the expiry by
the lock record they set. -/
theorem consoleLocksAndUnlocks : Obligations.ConsoleLocksAndUnlocks := by
  unfold Obligations.ConsoleLocksAndUnlocks
  refine ⟨fun a b s => ⟨fun ignored => ?_, fun unlocked stored => ?_⟩, fun r a b s taken manager length params => ?_,
    fun s => ⟨fun stopped => ?_, fun due running => ?_⟩⟩
  · rw [exec_lock, actLock_ignored ignored]
  · rw [exec_lock, actLock_locks unlocked stored, lockConsole_eq]
    have begun := lockBegun_begun s
    have ended := lockEnded_of_idle begun.idle
    have quiet := ended.quiet
    obtain ⟨rx, ry⟩ := ended.remainder
    refine ⟨_, rfl, quiet.lock.trans begun.lock, quiet.matcher.trans begun.matcher, ?_, ?_, fun typing => ?_,
      fun sc => ⟨ended.peek sc, fun unattached => ?_⟩, ended.silent, rx, ry, ended.broadcast.trans begun.broadcast,
      ended.announced, quiet.tables.trans begun.tables, quiet.deskKeys.trans begun.deskKeys,
      quiet.deskButtons.trans begun.deskButtons, quiet.channels.trans begun.channels,
      quiet.generation.trans begun.generation, fun none => ?_⟩
    · rw [ended.mailbox]
      exact begun.idle
    · rw [ended.mailbox, begun.text]
    · rw [ended.mailbox, begun.outcome typing]
    · rw [ended.blanked, begun.blanked sc unattached]
    · obtain ⟨focused, mode, glide⟩ := ended.placed fun sc => (begun.peek sc).trans (none sc)
      exact ⟨focused.trans begun.focused, mode.trans begun.mode, glide.trans begun.glide⟩
  · rw [exec_unlock_taken taken manager length params]
    refine ⟨fun unlocked => ?_, fun locked => ?_⟩
    · rw [actUnlock_unlocked unlocked]
    · rw [actUnlock_locked locked]
      rfl
  · rw [exec_lockoutTimerExpiry, doLockoutExpiry_stopped stopped]
  · rw [exec_lockoutTimerExpiry, doLockoutExpiry_running running]

end Sys2Proof.Machine
end

/-! # Type-out and the mailbox -/

section
/-! ## Taking up the text (R126, R127, R130) -/

namespace Sys2Proof.Machine

/-! ### The characters passed over (R127) -/

/-- The `k` characters of the text from the index on cannot be typed (R123, R127). -/
def Skips (k : Nat) (s : State) : Prop :=
  ∀ j, j < k → ∃ d, s.typeout.text[s.typeout.index + j]? = some d ∧ (translate s.tables d).key = 0

theorem Skips.nothing (s : State) : Skips 0 s := fun _ h => absurd h (Nat.not_lt_zero _)

theorem takeWhile_length_eq {α : Type} {p : α → Bool} {l : List α} {k : Nat} {c : α}
    (before : ∀ j, j < k → ∃ d, l[j]? = some d ∧ p d = true) (at_k : l[k]? = some c) (stops : p c = false) :
    (l.takeWhile p).length = k := by
  induction l generalizing k with
  | nil => cases at_k
  | cons a l ih =>
    cases k with
    | zero =>
      obtain rfl : a = c := Option.some.inj at_k
      rw [List.takeWhile_cons_of_neg (by rw [stops]; exact Bool.false_ne_true), List.length_nil]
    | succ k =>
      obtain ⟨d, hd, pd⟩ := before 0 k.succ_pos
      obtain rfl : a = d := Option.some.inj hd
      rw [List.takeWhile_cons_of_pos pd, List.length_cons, ih (fun j hj => before (j + 1) (Nat.succ_lt_succ hj)) at_k]

theorem skipCount_eq {s : State} {k code : Nat} (skips : Skips k s)
    (next : s.typeout.text[s.typeout.index + k]? = some code) (typeable : (translate s.tables code).key ≠ 0) :
    skipCount s = k := by
  refine takeWhile_length_eq (c := code) (fun j hj => ?_) ?_ (decide_eq_false typeable)
  · obtain ⟨d, hd, untypeable⟩ := skips j hj
    exact ⟨d, by rw [List.getElem?_drop, hd], decide_eq_true untypeable⟩
  · rw [List.getElem?_drop, next]

theorem skipCount_rest {s : State}
    (untypeable : ∀ d ∈ s.typeout.text.drop s.typeout.index, (translate s.tables d).key = 0) :
    skipCount s = s.typeout.text.length - s.typeout.index := by
  unfold skipCount
  rw [List.takeWhile_eq_self_iff.2 fun d hd => decide_eq_true (untypeable d hd), List.length_drop]

/-- The text is taken up to the next character that can be typed (R127 steps 1 and 2). -/
theorem takeUp_typeable {s : State} {k code : Nat} (skips : Skips k s)
    (next : s.typeout.text[s.typeout.index + k]? = some code) (typeable : (translate s.tables code).key ≠ 0) :
    takeUp s = s.setTypeout { s.typeout with index := s.typeout.index + k, skipped := s.typeout.skipped + k } := by
  obtain ⟨inside, -⟩ := List.getElem?_eq_some_iff.1 next
  unfold takeUp
  rw [skipCount_eq skips next typeable]
  exact if_neg (Nat.not_le.2 inside)

/-- With no character left that can be typed, and none pressed, the type-out ends COMPLETE (R127 step 1, R130). -/
theorem takeUp_complete {s : State} {due : Nat} (typing : s.typeout.state = .typing)
    (unpressed : s.typeout.pacing = some ⟨none, due⟩)
    (untypeable : ∀ d ∈ s.typeout.text.drop s.typeout.index, (translate s.tables d).key = 0) :
    takeUp s = raise .typeout (s.setTypeout ⟨.held, none, s.typeout.text, s.typeout.depositor, none, 0, 0, 0, none,
      some ⟨.complete, s.typeout.typed, s.typeout.skipped + (s.typeout.text.length - s.typeout.index)⟩⟩) := by
  have ends : ∀ u : State, u.typeout.state = .typing → u.typeout.pacing = some ⟨none, due⟩ →
      endTypeout .complete u = raise .typeout (u.setTypeout (u.typeout.ended .complete)) := fun u hu pacing => by
    unfold endTypeout
    have nothing : releaseIfPressed u = u := releaseIfPressed_unpressed fun _ pc ch _ hp => by
      obtain rfl : ⟨none, due⟩ = pc := Option.some.inj (pacing.symm.trans hp)
      nofun
    rw [if_pos hu, nothing]
  unfold takeUp
  rw [skipCount_rest untypeable]
  refine (if_pos (Nat.sub_le_iff_le_add'.1 (Nat.le_refl _))).trans ?_
  exact ends _ typing unpressed

/-! ### The waits that come to an end (R126) -/

theorem enterActive_typeable {s : State} {k code : Nat} (skips : Skips k s)
    (next : s.typeout.text[s.typeout.index + k]? = some code) (typeable : (translate s.tables code).key ≠ 0) :
    enterActive s = s.setTypeout { s.typeout with
      sub := some .active
      index := s.typeout.index + k
      skipped := s.typeout.skipped + k
      pacing := some ⟨none, s.now⟩ } :=
  takeUp_typeable (s := s.setTypeout { s.typeout with sub := some .active, pacing := some ⟨none, s.now⟩ })
    skips next typeable

theorem enterActive_complete {s : State} (typing : s.typeout.state = .typing)
    (untypeable : ∀ d ∈ s.typeout.text.drop s.typeout.index, (translate s.tables d).key = 0) :
    enterActive s = raise .typeout (s.setTypeout ⟨.held, none, s.typeout.text, s.typeout.depositor, none, 0, 0, 0, none,
      some ⟨.complete, s.typeout.typed, s.typeout.skipped + (s.typeout.text.length - s.typeout.index)⟩⟩) :=
  takeUp_complete (s := s.setTypeout { s.typeout with sub := some .active, pacing := some ⟨none, s.now⟩ })
    typing rfl untypeable

theorem enterWaitingRelease_held {s : State} (held : ¬ (s.console.deskKeys = [] ∧ s.console.deskButtons = [])) :
    enterWaitingRelease s = s.setTypeout { s.typeout with sub := some .waitingRelease } :=
  if_neg fun empty => held ((deskEmpty_iff s).1 empty)

theorem enterWaitingRelease_empty {s : State} (empty : s.console.deskKeys = [] ∧ s.console.deskButtons = []) :
    enterWaitingRelease s = enterActive s :=
  if_pos ((deskEmpty_iff s).2 empty)

end Sys2Proof.Machine
end

section
/-! ## A type-out presses and releases (R123, R127, R128, R130) -/

namespace Sys2Proof.Machine

/-! ### The keys of a pressed character enter a belief set (R123) -/

theorem setInsert_comm (a b : Nat) (l : List Nat) : setInsert a (setInsert b l) = setInsert b (setInsert a l) := by
  induction l with
  | nil => grind [setInsert]
  | cons c l ih => grind [setInsert]

theorem setInsert_idem (a : Nat) (l : List Nat) : setInsert a (setInsert a l) = setInsert a l := by
  induction l with
  | nil => simp [setInsert]
  | cons c l ih => grind [setInsert]

/-- Left Shift, where it is held with the key, enters first or last, to the same set. -/
theorem foldr_pressedKeys (c : Pressed) (keys : List Nat) :
    c.keys.foldr setInsert keys = setInsert c.key (if c.shift then setInsert 225 keys else keys) := by
  unfold Pressed.keys
  cases c.shift
  case false => rfl
  case true =>
    show (if 225 < c.key then [225, c.key] else if 225 = c.key then [c.key] else [c.key, 225]).foldr setInsert keys = _
    split
    · exact setInsert_comm 225 c.key keys
    · split
      next same =>
        rw [← same]
        exact (setInsert_idem 225 keys).symm
      next => rfl

/-! ### The press (R127) -/

theorem exec_typeOutPress (s : State) : exec .typeOutPress s = .next (doTypeOutPress s) := rfl

theorem exec_typeOutReleaseDue (s : State) : exec .typeOutReleaseDue s = .next (doTypeOutReleaseDue s) := rfl

theorem typeOut_inactive {s : State} (h : s.typeout.sub ≠ some .active) :
    doTypeOutPress s = s ∧ doTypeOutReleaseDue s = s := by
  unfold doTypeOutPress doTypeOutReleaseDue
  constructor
  · split
    next active _ _ => exact absurd active h
    next => rfl
  · split
    next active _ _ => exact absurd active h
    next => rfl

section

variable {s : State} {n : Computer}
variable (active : s.typeout.sub = some .active) (target : s.typeout.target = some n)
include active target

/-- No press is due while a character is pressed or reports wait (R127). -/
theorem doTypeOutPress_waits {pc : Pacing} (pacing : s.typeout.pacing = some pc)
    (waits : pc.pressed.isSome = true ∨ s.ports[n].keyQueue ≠ []) : doTypeOutPress s = s := by
  obtain ⟨pressed, due⟩ := pc
  unfold doTypeOutPress
  rw [active, target, pacing]
  cases pressed with
  | some c => rfl
  | none => exact if_neg (waits.resolve_left Bool.false_ne_true)

theorem doTypeOutPress_due {due : Nat} (pacing : s.typeout.pacing = some ⟨none, due⟩)
    (sent : s.ports[n].keyQueue = []) : doTypeOutPress s = pressNext n (s.advanceTo due) := by
  unfold doTypeOutPress
  rw [active, target, pacing]
  exact if_pos sent

/-- No release is due while no character is pressed (R128). -/
theorem doTypeOutReleaseDue_unpressed {due : Nat} (pacing : s.typeout.pacing = some ⟨none, due⟩) :
    doTypeOutReleaseDue s = s := by
  unfold doTypeOutReleaseDue
  rw [active, target, pacing]

theorem doTypeOutReleaseDue_pressed {c : Pressed} {next : Nat} (pacing : s.typeout.pacing = some ⟨some c, next⟩) :
    doTypeOutReleaseDue s = releaseDue n c next (s.advanceTo c.releaseDue) := by
  unfold doTypeOutReleaseDue
  rw [active, target, pacing]

end

/-- The next character that can be typed is pressed (R127 step 3). -/
theorem pressNext_typeable {s : State} {k code : Nat} (n : Computer) (active : s.typeout.sub = some .active)
    (skips : Skips k s) (next : s.typeout.text[s.typeout.index + k]? = some code)
    (typeable : (translate s.tables code).key ≠ 0) :
    pressNext n s = pressCharacter n (translate s.tables code)
      (s.setTypeout { s.typeout with index := s.typeout.index + k, skipped := s.typeout.skipped + k }) := by
  unfold pressNext
  rw [takeUp_typeable skips next typeable]
  refine (if_pos active).trans ?_
  rw [State.setTypeout_typeout, next]
  rfl

theorem pressCharacter_eq (n : Computer) (e : TransEntry) (s : State) :
    pressCharacter n e s =
      let keys := setInsert e.key (if e.shift then setInsert 225 s.focus.beliefs[n].keys else s.focus.beliefs[n].keys)
      ((s.setBelief n { s.focus.beliefs[n] with keys := keys }).modPort n (Port.addSnapshot s.now keys)).setTypeout
        { s.typeout with
          index := s.typeout.index + 1
          typed := s.typeout.typed + 1
          pacing := some ⟨some ⟨e.key, e.shift, s.now + s.tables.options.typePacing / 2⟩,
            s.now + s.tables.options.typePacing⟩ } := by
  unfold pressCharacter
  dsimp only
  rw [foldr_pressedKeys]

/-! ### The release (R128) -/

/-- The pressed character `c` is released at target `n` (R128 steps 1 to 3). -/
def typedReleased (n : Computer) (c : Pressed) (s : State) : State :=
  let keys := s.focus.beliefs[n].keys.filter fun k => !decide (k = c.key ∨ (c.shift = true ∧ k = 225))
  (s.setBelief n { s.focus.beliefs[n] with keys := keys }).modPort n (Port.addSnapshot s.now keys)

theorem releaseDue_eq (n : Computer) (c : Pressed) (next : Nat) (s : State) :
    releaseDue n c next s =
      takeUp ((typedReleased n c s).setTypeout { s.typeout with pacing := some ⟨none, next⟩ }) := by
  unfold releaseDue typedReleased eraseKeys
  dsimp only
  rw [setDiff_pressed]

theorem releaseDue_typeable {s : State} {k code : Nat} (n : Computer) (c : Pressed) (due : Nat) (skips : Skips k s)
    (next : s.typeout.text[s.typeout.index + k]? = some code) (typeable : (translate s.tables code).key ≠ 0) :
    releaseDue n c due s = (typedReleased n c s).setTypeout { s.typeout with
      index := s.typeout.index + k
      skipped := s.typeout.skipped + k
      pacing := some ⟨none, due⟩ } := by
  rw [releaseDue_eq]
  exact takeUp_typeable (s := (typedReleased n c s).setTypeout { s.typeout with pacing := some ⟨none, due⟩ })
    skips next typeable

theorem releaseDue_complete {s : State} (n : Computer) (c : Pressed) (due : Nat) (typing : s.typeout.state = .typing)
    (untypeable : ∀ d ∈ s.typeout.text.drop s.typeout.index, (translate s.tables d).key = 0) :
    releaseDue n c due s = raise .typeout ((typedReleased n c s).setTypeout ⟨.held, none, s.typeout.text,
      s.typeout.depositor, none, 0, 0, 0, none,
      some ⟨.complete, s.typeout.typed, s.typeout.skipped + (s.typeout.text.length - s.typeout.index)⟩⟩) := by
  rw [releaseDue_eq]
  exact takeUp_complete (s := (typedReleased n c s).setTypeout { s.typeout with pacing := some ⟨none, due⟩ })
    typing rfl untypeable

/-- Settles O48: the press and the release by the text they take up, before the press and after the release. -/
theorem typeOutPressesAndReleases : Obligations.TypeOutPressesAndReleases := by
  unfold Obligations.TypeOutPressesAndReleases
  refine fun s => ⟨fun inactive => ?_, fun n pc active target typing pacing => ⟨fun waits => ?_, fun unpressed => ?_,
    fun k code unpressed sent skips next typeable => ?_, fun c pressed => ?_⟩⟩
  · obtain ⟨press, release⟩ := typeOut_inactive inactive
    rw [exec_typeOutPress, exec_typeOutReleaseDue, press, release]
    exact ⟨rfl, rfl⟩
  · rw [exec_typeOutPress, doTypeOutPress_waits active target pacing waits]
  · obtain ⟨_, due⟩ := pc
    obtain rfl : _ = none := unpressed
    rw [exec_typeOutReleaseDue, doTypeOutReleaseDue_unpressed active target pacing]
  · obtain ⟨_, due⟩ := pc
    obtain rfl : _ = none := unpressed
    rw [exec_typeOutPress, doTypeOutPress_due active target pacing sent,
      pressNext_typeable (s := s.advanceTo due) n active skips next typeable, pressCharacter_eq]
    rfl
  · obtain ⟨_, due⟩ := pc
    obtain rfl : _ = some c := pressed
    rw [exec_typeOutReleaseDue, doTypeOutReleaseDue_pressed active target pacing]
    refine ⟨fun k code skips next typeable => ?_, fun untypeable => ?_⟩
    · rw [releaseDue_typeable (s := s.advanceTo c.releaseDue) n c due skips next typeable]
      rfl
    · rw [releaseDue_complete (s := s.advanceTo c.releaseDue) n c due typing untypeable]
      rfl

end Sys2Proof.Machine
end

section
/-! ## TYPE_TEXT begins a type-out (R124, R126, R127) -/

namespace Sys2Proof.Machine

/-- A type-out of the held text to `f` has begun, in sub-state `sub` (R124). -/
def typeoutBegun (f : Computer) (sub : TypeSub) (s : State) : State :=
  raise .typeout (s.setTypeout { s.typeout with
    state := .typing, sub := some sub, target := some f, index := 0, typed := 0, skipped := 0 })

theorem actTypeText_ignored {s : State}
    (h : s.lock.state ≠ .unlocked ∨ s.typeout.state ≠ .held ∨ s.focus.focus = none) : actTypeText s = s := by
  by_cases may : s.lock.state = .unlocked ∧ s.typeout.state = .held
  · have nobody := (h.resolve_left fun locked => locked may.1).resolve_left fun other => other may.2
    refine (if_pos may).trans ?_
    rw [nobody]
  · exact if_neg may

section

variable {s : State} {f : Computer}
variable (unlocked : s.lock.state = .unlocked) (held : s.typeout.state = .held) (focused : s.focus.focus = some f)
include unlocked held focused

theorem actTypeText_away (away : s.ports[f].link = .absent ∨ s.ports[f].link = .attaching ∨ s.ports[f].link = .stalled) :
    actTypeText s = s := by
  refine (if_pos ⟨unlocked, held⟩).trans ?_
  rw [focused]
  rcases away with link | link | link <;>
  · dsimp only
    rw [link]

theorem actTypeText_ready (ready : s.ports[f].link = .ready) :
    actTypeText s = enterWaitingRelease (typeoutBegun f .waitingRelease s) := by
  refine (if_pos ⟨unlocked, held⟩).trans ?_
  rw [focused]
  dsimp only
  rw [ready]
  rfl

theorem actTypeText_asleep (asleep : s.ports[f].link = .suspended ∨ s.ports[f].link = .waking) :
    actTypeText s = wakeRequest f (typeoutBegun f .waitingWake s) := by
  refine (if_pos ⟨unlocked, held⟩).trans ?_
  rw [focused]
  rcases asleep with link | link <;>
  · dsimp only
    rw [link]
    rfl

end

theorem skips_typeoutBegun {f : Computer} {sub : TypeSub} {s : State} {k : Nat} :
    Skips k (typeoutBegun f sub s) ↔
      ∀ j, j < k → ∃ d, s.typeout.text[j]? = some d ∧ (translate s.tables d).key = 0 := by
  show (∀ j, j < k → ∃ d, s.typeout.text[0 + j]? = some d ∧ (translate s.tables d).key = 0) ↔ _
  simp only [Nat.zero_add]

/-- A type-out that begins with nothing held takes up the text at once (R126, R127). -/
theorem typeoutBegun_takesUp {s : State} {k code : Nat} (f : Computer)
    (empty : s.console.deskKeys = [] ∧ s.console.deskButtons = [])
    (skips : ∀ j, j < k → ∃ d, s.typeout.text[j]? = some d ∧ (translate s.tables d).key = 0)
    (next : s.typeout.text[k]? = some code) (typeable : (translate s.tables code).key ≠ 0) :
    enterWaitingRelease (typeoutBegun f .waitingRelease s) = raise .typeout (s.setTypeout { s.typeout with
      state := .typing
      sub := some .active
      target := some f
      index := k
      typed := 0
      skipped := k
      pacing := some ⟨none, s.now⟩ }) := by
  have next' : s.typeout.text[0 + k]? = some code := by rw [Nat.zero_add, next]
  rw [enterWaitingRelease_empty (s := typeoutBegun f .waitingRelease s) empty,
    enterActive_typeable (s := typeoutBegun f .waitingRelease s) (skips_typeoutBegun.2 skips) next' typeable]
  show raise .typeout (s.setTypeout { s.typeout with
    state := .typing, sub := some .active, target := some f, index := 0 + k, typed := 0, skipped := 0 + k,
    pacing := some ⟨none, s.now⟩ }) = _
  rw [Nat.zero_add]

/-- A raised event changes the ports and the summaries alone (R171, R172). -/
theorem raise_changes (e : EventKind) (s : State) : ∃ ports summaries,
    raise e s = { s with ports := ports, mgmt := { s.mgmt with summaries := summaries } } := ⟨_, _, rfl⟩

/-- With nothing that can be typed it is COMPLETE at once (R127 step 1, R131). -/
theorem typeoutBegun_complete {s : State} (f : Computer)
    (empty : s.console.deskKeys = [] ∧ s.console.deskButtons = [])
    (untypeable : ∀ d ∈ s.typeout.text, (translate s.tables d).key = 0) :
    announced .typeout (enterWaitingRelease (typeoutBegun f .waitingRelease s)) ∧ ∃ ports summaries,
      enterWaitingRelease (typeoutBegun f .waitingRelease s) = { s with
        ports := ports
        mgmt := { s.mgmt with summaries := summaries }
        typeout := ⟨.held, none, s.typeout.text, s.typeout.depositor, none, 0, 0, 0, none,
          some ⟨.complete, 0, s.typeout.text.length⟩⟩ } := by
  rw [enterWaitingRelease_empty (s := typeoutBegun f .waitingRelease s) empty,
    enterActive_complete (s := typeoutBegun f .waitingRelease s) rfl untypeable]
  refine ⟨announced_raise .typeout _, ?_⟩
  have counts : some (TypeOutcome.mk .complete 0 (0 + (s.typeout.text.length - 0))) =
      some ⟨.complete, 0, s.typeout.text.length⟩ := by rw [Nat.zero_add, Nat.sub_zero]
  obtain ⟨_, _, begun⟩ := raise_changes .typeout (s.setTypeout { s.typeout with
    state := .typing, sub := some .waitingRelease, target := some f, index := 0, typed := 0, skipped := 0 })
  obtain ⟨ports, summaries, ended⟩ := raise_changes .typeout ((typeoutBegun f .waitingRelease s).setTypeout _)
  rw [ended, typeoutBegun, begun, ← counts]
  exact ⟨ports, summaries, rfl⟩

theorem typeoutBegun_link (f : Computer) (sub : TypeSub) (s : State) (n : Computer) :
    (typeoutBegun f sub s).ports[n].link = s.ports[n].link :=
  (noticesOnly_raise .typeout _).link n

end Sys2Proof.Machine
end

section
/-! ## A wake leads a type-out on, or cancels it (R125, R156, R157) -/

namespace Sys2Proof.Machine

/-! ### The port becomes READY (R125, R156) -/

theorem Port.replay_link (now : Nat) (keys : List Nat) (l : List KeyEvent) (p : Port) :
    (Port.replay now keys l p).link = p.link := by
  induction l generalizing keys p with
  | nil => rfl
  | cons e l ih =>
    cases e with
    | press k => exact (ih _ _).trans (sameWake_addSnapshot _ _ p).link
    | release k => exact (ih _ _).trans (sameWake_addSnapshot _ _ p).link

theorem Port.resumeAt_link (now : Nat) (p : Port) : (p.resumeAt now).link = .ready := by
  unfold Port.resumeAt
  dsimp only
  split
  · exact Port.replay_link _ _ _ _
  · exact (sameCourse_addPointer _ _ _).1.wake.link.trans (Port.replay_link _ _ _ _)

theorem exec_resume (n : Computer) (s : State) : exec (.resume n) s = .next (doResume n s) := rfl

/-- `u` is `s` but for the ports and the management record, and port `n` is READY (R156). -/
def Resumed (n : Computer) (s u : State) : Prop :=
  ∃ ports mgmt, u = { s with ports := ports, mgmt := mgmt } ∧ ports[n].link = .ready

theorem Resumed.raise {n : Computer} {s u : State} (h : Resumed n s u) (e : EventKind) : Resumed n s (raise e u) := by
  obtain ⟨ports, mgmt, rfl, ready⟩ := h
  obtain ⟨_, _, changes⟩ := raise_changes e { s with ports := ports, mgmt := mgmt }
  have link := (noticesOnly_raise e { s with ports := ports, mgmt := mgmt }).link n
  rw [changes] at link ⊢
  exact ⟨_, _, rfl, link.trans ready⟩

/-- A resume makes the port READY, which the type-out unit learns last (R125, R156). -/
theorem doResume_asleep {n : Computer} {s : State} (asleep : s.ports[n].link = .waking ∨ s.ports[n].link = .suspended) :
    ∃ u, doResume n s = typeoutReady n u ∧ Resumed n s u := by
  have ready : Resumed n s (s.modPort n (Port.resumeAt s.now)) :=
    ⟨_, _, rfl, (congrArg Port.link (State.modPort_port s n _)).trans (Port.resumeAt_link s.now s.ports[n])⟩
  refine ⟨_, if_pos asleep, Resumed.raise ?_ .link⟩
  split
  · exact ready.raise .wake
  · exact ready

theorem typeoutReady_waiting {n : Computer} {s : State} (waits : s.typeout.sub = some .waitingWake)
    (target : s.typeout.target = some n) : typeoutReady n s = enterWaitingRelease s :=
  if_pos ⟨waits, target⟩

/-! ### The wake is refused or fails (R125, R154, R157) -/

theorem announced_endTypeout {s : State} (e : TypeEnd) (typing : s.typeout.state = .typing) :
    announced .typeout (endTypeout e s) := by
  unfold endTypeout
  rw [if_pos typing]
  exact announced_raise .typeout _

/-- The wake of `n` has ended with `outcome`, and the type-out `m` that waited for it with CANCELLED_WAKE. -/
structure WakeCancelled (n : Computer) (outcome : WakeOutcome) (m : Typeout) (t : State) : Prop where
  lastWake : t.ports[n].lastWake = outcome
  mailbox : t.typeout = m.ended .cancelledWake
  typeout : announced .typeout t
  wake : announced .wake t

section

variable {n : Computer} {s : State}
variable (typing : s.typeout.state = .typing) (waits : s.typeout.sub = some .waitingWake)
  (target : s.typeout.target = some n)
include typing waits target

/-- The type-out unit is told of the lost wake after WAKE has been raised (log entry 48). -/
theorem typeoutWakeLost_cancels :
    WakeCancelled n s.ports[n].lastWake s.typeout (typeoutWakeLost n (raise .wake s)) := by
  have ends : typeoutWakeLost n (raise .wake s) = endTypeout .cancelledWake (raise .wake s) := if_pos ⟨waits, target⟩
  have raised : (raise .wake s).ports[n].lastWake = s.ports[n].lastWake := by rw [noticesOnly_raise .wake s n]
  rw [ends]
  exact ⟨(wakeKept_endTypeout n .cancelledWake _).course.wake.lastWake.trans raised, endTypeout_mailbox typing,
    announced_endTypeout .cancelledWake typing, (heard_endTypeout .cancelledWake _).announced (announced_raise .wake s)⟩

theorem refuseWake_cancels : WakeCancelled n .refused s.typeout (refuseWake n s) := by
  have port : (clearBelief n (s.modPort n Port.refuseWake)).ports[n].lastWake = .refused := by
    show (s.modPort n Port.refuseWake).ports[n].lastWake = _
    rw [State.modPort_port, refuseWake_eq]
  exact port ▸ typeoutWakeLost_cancels (s := clearBelief n (s.modPort n Port.refuseWake)) typing waits target

theorem failWake_cancels : WakeCancelled n .failed s.typeout (failWake n s) := by
  have port : (raise .link (clearBelief n (s.modPort n Port.failWake))).ports[n].lastWake = .failed := by
    rw [noticesOnly_raise .link _ n]
    show (s.modPort n Port.failWake).ports[n].lastWake = _
    rw [State.modPort_port]
    rfl
  exact port ▸ typeoutWakeLost_cancels (s := raise .link (clearBelief n (s.modPort n Port.failWake))) typing waits target

end

theorem exec_settleTimerExpiry (n : Computer) (s : State) :
    exec (.settleTimerExpiry n) s = .next (doSettleExpiry n s) := rfl

/-- A deferred wake that may no longer start is refused when the settle timer runs out (R154). -/
theorem doSettleExpiry_refused {n : Computer} {s : State} {due : Nat} (settle : s.ports[n].settle = some due)
    (deferred : s.ports[n].deferred = true) (refused : ¬ wakeAllowed n s = true) :
    doSettleExpiry n s =
      refuseWake n ((s.advanceTo due).modPort n fun p => { p with settle := none, deferred := false }) := by
  have still : (((s.advanceTo due).modPort n fun p => { p with settle := none }).ports[n]).deferred = true := by
    rw [State.modPort_port]
    exact deferred
  have remoteWake :
      (((s.advanceTo due).modPort n fun p => { p with settle := none, deferred := false }).ports[n]).remoteWake =
        s.ports[n].remoteWake := by
    rw [State.modPort_port]
    rfl
  have stillRefused := wakeAllowed_congr remoteWake rfl ▸ refused
  unfold doSettleExpiry
  rw [settle]
  refine (if_pos still).trans ?_
  unfold deferredWake
  rw [State.modPort_modPort]
  exact if_neg stillRefused

theorem exec_wakeWindowExpiry (n : Computer) (s : State) :
    exec (.wakeWindowExpiry n) s = .next (doWakeWindowExpiry n s) := rfl

/-- The wake has failed when the window of the last attempt runs out (R155, R157). -/
theorem doWakeWindowExpiry_failed {n : Computer} {s : State} {due : Nat} (phase : s.ports[n].phase = some .waiting)
    (timer : s.ports[n].attemptTimer = some due) (last : s.ports[n].attempt = s.tables.options.wakeAttempts) :
    doWakeWindowExpiry n s = failWake n (s.advanceTo due) := by
  have lastAttempt : lastAttempt n (s.advanceTo due) = true := by
    rw [lastAttempt, Bool.or_eq_true]
    exact .inl (decide_eq_true last)
  unfold doWakeWindowExpiry
  rw [phase, timer]
  exact if_pos lastAttempt

/-- Settles O47: the beginning by the state of the focus computer's port; the wait for a wake by the command that
ends it. -/
theorem typeTextBeginsTypeOut : Obligations.TypeTextBeginsTypeOut := by
  unfold Obligations.TypeTextBeginsTypeOut
  refine ⟨fun a b s => ⟨fun ignored => ?_, fun f unlocked held focused => ⟨fun away => ?_, fun ready busy => ?_,
    fun k code ready empty skips next typeable => ?_, fun ready empty untypeable => ?_, fun waking => ?_,
    fun suspended => ?_⟩⟩, fun n a b s typing waits target => ⟨fun asleep => ?_, fun suspended refused named => ?_,
    fun suspended settle deferred refused => ?_, fun phase timer last => ?_⟩⟩
  · rw [exec_typeText, callTypeText, actTypeText_ignored ignored]
  · rw [exec_typeText, callTypeText, actTypeText_away unlocked held focused away]
  · rw [exec_typeText, callTypeText, actTypeText_ready unlocked held focused ready,
      enterWaitingRelease_held (s := typeoutBegun f .waitingRelease s) busy]
    rfl
  · rw [exec_typeText, callTypeText, actTypeText_ready unlocked held focused ready,
      typeoutBegun_takesUp f empty skips next typeable]
    rfl
  · rw [exec_typeText, callTypeText, actTypeText_ready unlocked held focused ready]
    obtain ⟨heard, _, _, completes⟩ := typeoutBegun_complete f empty untypeable
    rw [completes] at heard ⊢
    exact ⟨_, rfl, heard, rfl⟩
  · have awake : (typeoutBegun f .waitingWake s).ports[f].link ≠ .suspended := by
      rw [typeoutBegun_link, waking]
      exact LinkState.noConfusion
    rw [exec_typeText, callTypeText, actTypeText_asleep unlocked held focused (.inr waking), wakeRequest_awake awake]
    rfl
  · refine ⟨wakeRequest f (typeoutBegun f .waitingWake s), ?_, ?_⟩
    · exact congrArg Host.Outcome.next (actWake_for (s := typeoutBegun f .waitingWake s) (.inr ⟨rfl, focused⟩))
    · rw [exec_typeText, callTypeText, actTypeText_asleep unlocked held focused (.inl suspended)]
  · obtain ⟨_, resumed, ports, mgmt, rfl, ready⟩ := doResume_asleep asleep
    have leads : exec (.resume n) s = .next (enterWaitingRelease { s with ports := ports, mgmt := mgmt }) := by
      rw [exec_resume, resumed, typeoutReady_waiting (s := { s with ports := ports, mgmt := mgmt }) waits target]
    refine ⟨fun busy => ⟨_, leads, ?_⟩, fun code keys buttons next typeable => ⟨_, leads, ?_⟩⟩
    · rw [enterWaitingRelease_held (s := { s with ports := ports, mgmt := mgmt })
        fun empty => busy.elim (absurd empty.1) (absurd empty.2)]
      exact ⟨ready, rfl⟩
    · rw [enterWaitingRelease_empty (s := { s with ports := ports, mgmt := mgmt }) ⟨keys, buttons⟩,
        enterActive_typeable (s := { s with ports := ports, mgmt := mgmt }) (.nothing _) next typeable]
      exact ⟨ready, rfl⟩
  · have cancelled := refuseWake_cancels typing waits target
    rw [exec_wake, actWake_for (.inl named), wakeRequest_refused suspended (mt (wakeAllowed_iff n s).1 refused)]
    exact ⟨_, rfl, cancelled.lastWake, cancelled.mailbox, cancelled.typeout, cancelled.wake⟩
  · obtain ⟨due, running⟩ := Option.isSome_iff_exists.1 settle
    have cancelled := refuseWake_cancels
      (s := (s.advanceTo due).modPort n fun p => { p with settle := none, deferred := false }) typing waits target
    rw [exec_settleTimerExpiry, doSettleExpiry_refused running deferred (mt (wakeAllowed_iff n s).1 refused)]
    exact ⟨_, rfl, cancelled.lastWake, cancelled.mailbox, cancelled.typeout, cancelled.wake⟩
  · obtain ⟨due, running⟩ := Option.isSome_iff_exists.1 timer
    have cancelled := failWake_cancels (s := s.advanceTo due) typing waits target
    rw [exec_wakeWindowExpiry, doWakeWindowExpiry_failed phase running last]
    exact ⟨_, rfl, cancelled.lastWake, cancelled.mailbox, cancelled.typeout, cancelled.wake⟩

end Sys2Proof.Machine
end

section
/-! ## The mailbox takes and clears texts (R122) -/

namespace Sys2Proof.Machine

theorem validText_iff (text : List Nat) : validText text = true ↔
    1 ≤ text.length ∧ text.length ≤ 256 ∧ ∀ c ∈ text, c = 9 ∨ c = 10 ∨ (32 ≤ c ∧ c ≤ 126) := by
  simp [validText, validCharacter, and_assoc, or_assoc]

/-- A request for which a body answers `st` and makes `t` of the state with the slot emptied, is answered `st` (R160). -/
theorem serve_replied {command : Byte} {r : Request} {formed : Bool} {a : Authority}
    {body : State → State × Option (Status × List Byte)} {s t : State} {st : Status} (taken : takesRequests s r.port)
    (fits : formed = true) (authority : hasAuthority a r.port s = true)
    (answers : body (setSlot r.port .empty s) = (setSlot r.port .empty t, some (st, []))) :
    serve command r formed a body s = replied command r st [] t := by
  rw [fits, serve_taken taken authority, answers]
  exact putReply_setSlot _ _ _ _ _ _ _

theorem raise_setTypeout_setSlot (e : EventKind) (m : Typeout) (s : State) (p : Computer) (v : ReplySlot) :
    raise e ((setSlot p v s).setTypeout m) = setSlot p v (raise e (s.setTypeout m)) :=
  raise_setSlot (s := s.setTypeout m) e

theorem depositBody_setSlot (r : Request) (s : State) (p : Computer) (v : ReplySlot) :
    depositBody r (setSlot p v s) = (setSlot p v (depositBody r s).1, (depositBody r s).2) := by
  by_cases typing : s.typeout.state = .typing
  · rw [depositBody, if_pos (show (setSlot p v s).typeout.state = .typing from typing), depositBody, if_pos typing]
  · rw [depositBody, if_neg (show ¬ (setSlot p v s).typeout.state = .typing from typing), depositBody, if_neg typing]
    split
    · rw [okBody, raise_setTypeout_setSlot]
      rfl
    · rfl

theorem clearBody_setSlot (s : State) (p : Computer) (v : ReplySlot) :
    clearBody (setSlot p v s) = (setSlot p v (clearBody s).1, (clearBody s).2) := by
  by_cases typing : s.typeout.state = .typing
  · rw [clearBody, if_pos (show (setSlot p v s).typeout.state = .typing from typing), clearBody, if_pos typing]
  · rw [clearBody, if_neg (show ¬ (setSlot p v s).typeout.state = .typing from typing), clearBody, if_neg typing, okBody,
      raise_setTypeout_setSlot]
    rfl

/-- A formed DEPOSIT_TEXT of a computer with deposit authority is answered by its body (R122, R161). -/
theorem exec_depositText {r : Request} {s t : State} {st : Status} (taken : takesRequests s r.port)
    (authority : hasAuthority .deposit r.port s = true) (formed : formedRequest (.depositText r) r)
    (answers : depositBody r s = (t, some (st, []))) : exec (.depositText r) s = .next (replied 5 r st [] t) :=
  congrArg Host.Outcome.next (serve_replied taken ((frameFits_iff r 0 _).2 ⟨formed, Nat.zero_add _⟩) authority
    (by rw [depositBody_setSlot, answers]))

/-- A formed CLEAR_TEXT of a computer with deposit authority is answered by its body (R122, R161). -/
theorem exec_clearText {r : Request} {s t : State} {st : Status} (taken : takesRequests s r.port)
    (authority : hasAuthority .deposit r.port s = true) (formed : formedRequest (.clearText r) r)
    (answers : clearBody s = (t, some (st, []))) : exec (.clearText r) s = .next (replied 6 r st [] t) := by
  obtain ⟨agrees, bare⟩ := formed
  exact congrArg Host.Outcome.next (serve_replied taken ((frameFits_iff r 0 0).2 ⟨agrees, (Nat.zero_add _).trans bare⟩)
    authority (by rw [clearBody_setSlot, answers]))

/-- Settles O14: what the two bodies answer, in TYPING and else. -/
theorem mailboxTakesTexts : Obligations.MailboxTakesTexts := by
  unfold Obligations.MailboxTakesTexts
  intro r s taken entry
  have authority : hasAuthority .deposit r.port s = true := Bool.or_eq_true _ _ ▸ entry
  refine ⟨fun formed => ⟨fun typing => ?_, fun free invalid => ?_, fun free valid => ?_⟩,
    fun formed => ⟨fun typing => ?_, fun free => ?_⟩⟩
  · exact exec_depositText taken authority formed (if_pos typing)
  · exact exec_depositText taken authority formed ((if_neg free).trans (if_neg (mt (validText_iff _).1 invalid)))
  · exact exec_depositText taken authority formed ((if_neg free).trans (if_pos ((validText_iff _).2 valid)))
  · exact exec_clearText taken authority formed (if_pos typing)
  · exact exec_clearText taken authority formed (if_neg free)

end Sys2Proof.Machine
end

section
/-! ## RAISE_ALERT and WITHDRAW_ALERT (R135, R136) -/

namespace Sys2Proof.Machine

/-- A change of the alert list has the list put in place, raises ALERT and has the frame kinds computed anew; the focus
record, the tables and the pointer stay (R89, R135). -/
theorem setAlertList_announces {l : List AlertEntry} {s : State} (changed : l ≠ s.alerts.list) :
    (setAlertList l s).alerts = { s.alerts with list := l } ∧ tookEvent .alert s (setAlertList l s) ∧
      framesAnew (setAlertList l s) ∧ (setAlertList l s).focus = s.focus ∧ (setAlertList l s).tables = s.tables ∧
      (setAlertList l s).glide = s.glide := by
  have sets := setAlertList_sets l s
  refine ⟨sets.alerts, ?_, ?_, sets.focus, (quiet_setAlertList l s).tables, sets.glide⟩
  · rw [setAlertList_changed changed]
    exact tookEvent_raise .alert (s.setAlerts { s.alerts with list := l })
  · rw [setAlertList_changed changed]
    exact framesAnew_recomputeFrames _

theorem hasEntry_eq_false_iff (l : List AlertEntry) (n : Computer) :
    hasEntry l n = false ↔ ∀ x ∈ l, x.computer ≠ n := by
  rw [← Bool.not_eq_true, hasEntry_iff]
  push Not
  rfl

theorem raiseList_of_parked {s : State} {n : Computer} (parked : s.tables.computer[n].parked = true) :
    raiseList s n = s.alerts.list :=
  if_pos parked

theorem raiseList_of_absent {s : State} {n : Computer} (unparked : s.tables.computer[n].parked = false)
    (absent : ∀ e ∈ s.alerts.list, e.computer ≠ n) :
    raiseList s n = s.alerts.list ++ [⟨n, .latched, .service⟩] := by
  rw [raiseList, unparked, (hasEntry_eq_false_iff _ _).2 absent]
  rfl

/-- An entry of computer `n` as RAISE_ALERT leaves it: LATCHED SERVICE where it was LEVEL INDICATOR (R136). -/
def raisedEntry (n : Computer) (e : AlertEntry) : AlertEntry :=
  if e.computer = n ∧ e.kind = .level ∧ e.raisedBy = .indicator then ⟨n, .latched, .service⟩ else e

theorem raisedEntry_other {n : Computer} {e : AlertEntry} (other : e.computer ≠ n) : raisedEntry n e = e :=
  if_neg fun own => other own.1

theorem raiseList_of_present {s : State} {n : Computer} (unparked : s.tables.computer[n].parked = false)
    (present : ∃ e ∈ s.alerts.list, e.computer = n) : raiseList s n = s.alerts.list.map (raisedEntry n) := by
  rw [raiseList, unparked, (hasEntry_iff _ _).2 present]
  rfl

/-- A LATCHED entry stays as it is, and as the only one of its computer it leaves RAISE_ALERT nothing to change. -/
theorem raiseList_of_latched {s : State} {n : Computer} {raised : RaisedBy}
    (latched : ⟨n, .latched, raised⟩ ∈ s.alerts.list) (single : (s.alerts.list.map AlertEntry.computer).Nodup) :
    raiseList s n = s.alerts.list := by
  cases parked : s.tables.computer[n].parked with
  | true => exact raiseList_of_parked parked
  | false =>
    rw [raiseList_of_present parked ⟨_, latched, rfl⟩]
    refine (List.map_congr_left fun e mem => ?_).trans (List.map_id _)
    by_cases own : e.computer = n
    · rw [List.inj_on_of_nodup_map single mem latched own]
      exact if_neg fun level => AlertKind.noConfusion level.2.1
    · exact raisedEntry_other own

/-- The entries around a computer's only one are of other computers. -/
theorem entries_around_differ {l1 l2 : List AlertEntry} {e : AlertEntry}
    (single : ((l1 ++ e :: l2).map AlertEntry.computer).Nodup) :
    (∀ x ∈ l1, x.computer ≠ e.computer) ∧ ∀ x ∈ l2, x.computer ≠ e.computer := by
  rw [List.map_append, List.map_cons, List.nodup_middle, List.nodup_cons, ← List.map_append] at single
  have other : ∀ x ∈ l1 ++ l2, x.computer ≠ e.computer := fun x mem same =>
    single.1 (List.mem_map.2 ⟨x, mem, same⟩)
  exact List.forall_mem_append.1 other

theorem raiseList_of_level {s : State} {n : Computer} {l1 l2 : List AlertEntry}
    (unparked : s.tables.computer[n].parked = false) (list : s.alerts.list = l1 ++ ⟨n, .level, .indicator⟩ :: l2)
    (single : (s.alerts.list.map AlertEntry.computer).Nodup) :
    raiseList s n = l1 ++ ⟨n, .latched, .service⟩ :: l2 := by
  rw [list] at single
  obtain ⟨before, after⟩ := entries_around_differ single
  have kept : ∀ l : List AlertEntry, (∀ x ∈ l, x.computer ≠ n) → l.map (raisedEntry n) = l := fun l others =>
    (List.map_congr_left fun x mem => raisedEntry_other (others x mem)).trans (List.map_id _)
  have level : raisedEntry n ⟨n, .level, .indicator⟩ = ⟨n, .latched, .service⟩ := if_pos ⟨rfl, rfl, rfl⟩
  rw [raiseList_of_present unparked ⟨⟨n, .level, .indicator⟩, by simp [list], rfl⟩, list, List.map_append,
    List.map_cons, kept l1 before, kept l2 after, level]

/-- A formed request without parameters that needs no authority has its operation done and is answered OK, when the
operation does not look at the reply slot (R160, R161). -/
theorem serve_operation {command : Byte} {r : Request} {f : State → State} {s : State} (taken : takesRequests s r.port)
    (bare : lengthAgrees r 0 ∧ r.params.length = 0)
    (slotFree : f (setSlot r.port .empty s) = setSlot r.port .empty (f s)) :
    serve command r (frameFits r 0 0) .any (okBody f) s = replied command r .ok [] (f s) := by
  obtain ⟨agrees, empty⟩ := bare
  refine serve_replied taken ((frameFits_iff r 0 0).2 ⟨agrees, (Nat.zero_add _).trans empty⟩) rfl ?_
  rw [okBody, slotFree]

/-- A formed RAISE_ALERT sets the alert list of R136 and is answered OK. -/
theorem exec_raiseAlert {r : Request} {s : State} (taken : takesRequests s r.port)
    (formed : formedRequest (.raiseAlert r) r) :
    exec (.raiseAlert r) s = .next (replied 7 r .ok [] (setAlertList (raiseList s r.port) s)) :=
  congrArg Host.Outcome.next (serve_operation (f := fun s => setAlertList (raiseList s r.port) s) taken formed
    (setAlertList_setSlot (raiseList s r.port)))

theorem dropAlert_eq (n : Computer) (s : State) :
    dropAlert n s = setAlertList (s.alerts.list.filter fun e => decide (e.computer ≠ n)) s := by
  simp [dropAlert, dropEntries]

/-- A formed WITHDRAW_ALERT takes the requester's entries out of the alert list and is answered OK (R136). -/
theorem exec_withdrawAlert {r : Request} {s : State} (taken : takesRequests s r.port)
    (formed : formedRequest (.withdrawAlert r) r) :
    exec (.withdrawAlert r) s = .next (replied 8 r .ok []
      (setAlertList (s.alerts.list.filter fun e => decide (e.computer ≠ r.port)) s)) := by
  rw [← dropAlert_eq]
  exact congrArg Host.Outcome.next (serve_operation taken formed (dropAlert_setSlot r.port))

/-- Settles O15, by the list that each request leaves: the one there was, or another. -/
theorem alertRequestsChangeOwnEntry : Obligations.AlertRequestsChangeOwnEntry := by
  unfold Obligations.AlertRequestsChangeOwnEntry
  intro r s taken
  refine ⟨fun formed => ?_, fun formed => ?_⟩
  · rw [exec_raiseAlert taken formed]
    refine ⟨fun parked => ?_, fun raised latched single => ?_, fun unparked absent => ?_,
      fun l1 l2 unparked list single => ?_⟩
    · rw [setAlertList_same (raiseList_of_parked parked)]
    · rw [setAlertList_same (raiseList_of_latched latched single)]
    · rw [raiseList_of_absent unparked absent]
      exact ⟨_, rfl, setAlertList_announces (by simp)⟩
    · rw [raiseList_of_level unparked list single]
      exact ⟨_, rfl, setAlertList_announces (by simp [list])⟩
  · rw [exec_withdrawAlert taken formed]
    refine ⟨fun absent => ?_, fun e mem own => ⟨_, rfl, setAlertList_announces fun same => ?_⟩⟩
    · rw [setAlertList_same (List.filter_eq_self.2 fun e mem => decide_eq_true (absent e mem))]
    · exact of_decide_eq_true (List.filter_eq_self.1 same e mem) own

end Sys2Proof.Machine
end

section
/-! ## GO_ALERT (R137, R139, R140) -/

namespace Sys2Proof.Machine

theorem exec_goAlert (a b : Byte) (s : State) : exec (.goAlert (.hotkey a b)) s = .next (actGoAlert s) := rfl

/-! ### The choice by each policy (R139) -/

theorem alertChoice_of_empty {s : State} (empty : s.alerts.list = []) : alertChoice s = none := by
  cases choice : alertChoice s with
  | none => rfl
  | some c =>
    obtain ⟨e, mem, -⟩ := alertChoice_mem choice
    rw [empty] at mem
    cases mem

/-- The first entry of least priority number: those before it have a greater number, those after it none less. -/
theorem bestPriority_of_first {s : State} {l1 l2 : List AlertEntry} {e : AlertEntry}
    (before : ∀ x ∈ l1, s.tables.computer[e.computer].alertPriority < s.tables.computer[x.computer].alertPriority)
    (after : ∀ x ∈ l2, s.tables.computer[e.computer].alertPriority ≤ s.tables.computer[x.computer].alertPriority) :
    bestPriority s (l1 ++ e :: l2) = some e.computer := by
  induction l1 with
  | nil =>
    cases best : bestPriority s l2 with
    | none => rw [List.nil_append, bestPriority, best]
    | some c =>
      obtain ⟨x, mem, rfl⟩ := bestPriority_mem best
      rw [List.nil_append, bestPriority, best]
      exact if_pos (after x mem)
  | cons x l1 ih =>
    obtain ⟨less, before⟩ := List.forall_mem_cons.1 before
    rw [List.cons_append, bestPriority, ih before]
    exact if_neg (Nat.not_le.2 less)

/-- The computer the statements say is chosen is the one the model chooses. -/
theorem alertChoice_of_chosen {c : Computer} {s : State} (chosen : alertChosen c s) : alertChoice s = some c := by
  unfold alertChosen at chosen
  unfold alertChoice
  cases policy : s.tables.options.alertPolicy with
  | oldest =>
    rw [policy] at chosen
    obtain ⟨e, l, list, rfl⟩ := chosen
    dsimp only
    rw [list]
    rfl
  | priority =>
    rw [policy] at chosen
    obtain ⟨l1, e, l2, list, rfl, before, after⟩ := chosen
    dsimp only
    rw [list]
    exact bestPriority_of_first before after
  | rotate =>
    rw [policy] at chosen
    obtain ⟨r1, r2, order, present, before⟩ := chosen
    refine List.find?_eq_some_iff_append.2 ⟨(hasEntry_iff _ _).2 present, r1, r2, order, fun n mem => ?_⟩
    rw [(hasEntry_eq_false_iff _ _).2 (before n mem)]
    rfl

/-! ### The turn of the rotation order, and the acknowledgement (R137, R139) -/

theorem rotateTo_eq_alertTurned (c : Computer) (s : State) : rotateTo c s = alertTurned c s := by
  unfold rotateTo alertTurned
  cases s.tables.options.alertPolicy <;> rfl

/-- The state with another rotation order. -/
def rotationSet (order : List Computer) (s : State) : State :=
  s.setAlerts { s.alerts with rotation := order }

/-- The turn changes the rotation order at most. -/
theorem alertTurned_eq (c : Computer) (s : State) : ∃ order, alertTurned c s = rotationSet order s := by
  unfold alertTurned
  cases s.tables.options.alertPolicy with
  | oldest => exact ⟨s.alerts.rotation, rfl⟩
  | priority => exact ⟨s.alerts.rotation, rfl⟩
  | rotate => exact ⟨_, rfl⟩

theorem goToAlert_focused {c : Computer} {s : State} (here : s.focus.focus = some c) : goToAlert c s = acknowledge c s :=
  if_pos here

theorem goToAlert_away {c : Computer} {s : State} (away : s.focus.focus ≠ some c) :
    goToAlert c s = focusChange (some c) s :=
  if_neg away

/-- GO_ALERT goes to the computer chosen once the rotation order has been turned (R139, R140). -/
theorem actGoAlert_chosen {c : Computer} {s : State} (chosen : alertChosen c s) :
    actGoAlert s = goToAlert c (alertTurned c s) := by
  rw [actGoAlert, alertChoice_of_chosen chosen, ← rotateTo_eq_alertTurned]

/-- The alert list after the acknowledgement of computer `n` (R137). -/
def acknowledgedList (n : Computer) (l : List AlertEntry) : List AlertEntry :=
  l.filter fun e => !decide (e.computer = n ∧ e.kind = .latched)

theorem acknowledge_eq (n : Computer) (s : State) :
    acknowledge n s = setAlertList (acknowledgedList n s.alerts.list) s := by
  rw [acknowledge, dropLatched_eq]
  rfl

theorem acknowledgedList_eq_self_iff (n : Computer) (l : List AlertEntry) :
    acknowledgedList n l = l ↔ ∀ e ∈ l, e.computer = n → e.kind ≠ .latched := by
  simp [acknowledgedList, imp_iff_not_or]

/-- Without a LATCHED entry there is nothing to acknowledge (R137). -/
theorem acknowledge_of_level {n : Computer} {s : State}
    (level : ∀ e ∈ s.alerts.list, e.computer = n → e.kind = .level) : acknowledge n s = s := by
  rw [acknowledge_eq, setAlertList_same]
  exact (acknowledgedList_eq_self_iff _ _).2 fun e mem own latched =>
    AlertKind.noConfusion ((level e mem own).symm.trans latched)

/-- Settles O35: the choice of each policy is the model's, and GO_ALERT is a focus change or an acknowledgement. -/
theorem goAlertServesChosenComputer : Obligations.GoAlertServesChosenComputer := by
  unfold Obligations.GoAlertServesChosenComputer
  intro a b s
  refine ⟨fun empty => ?_, fun c chosen unparked => ?_⟩
  · rw [exec_goAlert, actGoAlert, alertChoice_of_empty empty]
  rw [exec_goAlert, actGoAlert_chosen chosen]
  obtain ⟨order, turned⟩ := alertTurned_eq c s
  rw [turned]
  refine ⟨fun away => ⟨focusChange (some c) (rotationSet order s), ?_, ?_⟩, fun here level => ?_,
    fun here ⟨e, mem, own, latched⟩ => ?_⟩
  · rw [exec_focus, byte_num, actFocus_unparked (s := rotationSet order s) unparked]
  · rw [goToAlert_away (s := rotationSet order s) away]
  · rw [goToAlert_focused (s := rotationSet order s) here, acknowledge_of_level (s := rotationSet order s) level]
  · have changed : acknowledgedList c s.alerts.list ≠ s.alerts.list := fun same =>
      (acknowledgedList_eq_self_iff _ _).1 same e mem own latched
    have sets := setAlertList_sets (acknowledgedList c s.alerts.list) (rotationSet order s)
    have quiet : Quiet s (setAlertList (acknowledgedList c s.alerts.list) (rotationSet order s)) :=
      (quiet_setAlerts s _).trans (quiet_setAlertList _ _)
    obtain ⟨alerts, took, frames, focus, -, glide⟩ := setAlertList_announces (s := rotationSet order s) changed
    rw [goToAlert_focused (s := rotationSet order s) here, acknowledge_eq]
    exact ⟨_, rfl, alerts, took, frames, focus, glide, sets.typeout, quiet.deskKept sets.screens⟩

end Sys2Proof.Machine
end

/-! # Computer ports: reports, polls, suspend and wake -/

section
/-! ## The report queues of a port (R147 to R149) -/

namespace Sys2Proof.Machine

/-- With room and without, a snapshot changes the key queue, its counter and the stall timer. -/
theorem Port.addSnapshot_eq (now : Nat) (keys : List Nat) (p : Port) :
    p.addSnapshot now keys = { p with
      keyQueue := if p.keyQueue.length < 16 then p.keyQueue ++ [keys] else p.keyQueue.dropLast ++ [keys]
      keyOverruns := if p.keyQueue.length < 16 then p.keyOverruns else min 65535 (p.keyOverruns + 1)
      stall := if p.keyQueue = [] ∧ p.pointerQueue = [] then some (now + 1000) else p.stall } := by
  by_cases room : p.keyQueue.length < 16
  · rw [if_pos room, if_pos room]
    exact if_pos room
  · rw [if_neg room, if_neg room]
    exact if_neg room

theorem Port.addPointer_first {p : Port} (now : Nat) (r : PtrReport) (empty : p.pointerQueue = []) :
    p.addPointer now r =
      { p with pointerQueue := [r], stall := if p.keyQueue = [] then some (now + 1000) else p.stall } := by
  simp only [Port.addPointer, Port.startStall, empty, List.getLast?_nil, and_true]
  rfl

section

variable {p : Port} {l : List PtrReport} {q : PtrReport} (now : Nat) (r : PtrReport)

/-- A report for a queue whose newest report is `q` goes by its kind and buttons, then by the room left (R148). -/
theorem Port.addPointer_later (queue : p.pointerQueue = l ++ [q]) :
    p.addPointer now r =
      if q.kind = r.kind ∧ q.buttons = r.buttons then { p with pointerQueue := l ++ [q.merge r] }
      else if l.length < 3 then { p with pointerQueue := l ++ [q, r] }
      else { p with pointerQueue := l ++ [q.merge r], pointerOverruns := min 65535 (p.pointerOverruns + 1) } := by
  have newest : p.pointerQueue.getLast? = some q := by rw [queue, List.getLast?_concat]
  have older : p.pointerQueue.dropLast = l := by rw [queue, List.dropLast_concat]
  have room : p.pointerQueue.length < Config.pointerQueueMax ↔ l.length < 3 := by
    rw [queue, List.length_append]
    exact Nat.succ_lt_succ_iff
  have appended : p.pointerQueue ++ [r] = l ++ [q, r] := by rw [queue, List.append_assoc]; rfl
  simp only [Port.addPointer, newest, older, room, appended]
  rfl

end

/-- Settles O27: each queue by the case of its room, and the merge by the kinds of the two reports. -/
theorem queuesTakeReports : Obligations.QueuesTakeReports := by
  unfold Obligations.QueuesTakeReports
  refine ⟨Port.addSnapshot_eq, fun now r p => Port.addPointer_first now r,
    fun now r q l p queue => ⟨fun kind buttons => ?_, fun differs room => ?_, fun differs full => ?_⟩,
    fun q r => ⟨rfl, rfl, rfl, fun absolute => ?_, fun later earlier => ?_⟩⟩
  · rw [Port.addPointer_later now r queue, if_pos ⟨kind, buttons⟩]
  · rw [Port.addPointer_later now r queue, if_neg (not_and_or.2 differs), if_pos room]
  · rw [Port.addPointer_later now r queue, if_neg (not_and_or.2 differs), if_neg (Nat.not_lt.2 full)]
  · have replaced : ¬ (q.kind = .relative ∧ r.kind = .relative) := by
      rintro ⟨earlier, later⟩
      rw [earlier, later] at absolute
      exact absolute.elim ReportKind.noConfusion ReportKind.noConfusion
    simp only [PtrReport.merge, replaced, decide_false, Bool.false_eq_true, if_false, and_self]
  · have added : q.kind = .relative ∧ r.kind = .relative := ⟨earlier, later⟩
    simp only [PtrReport.merge, added, and_self, decide_true, if_true, clampInt]

end Sys2Proof.Machine
end

section
/-! ## Attach and configure (R143) -/

namespace Sys2Proof.Machine

theorem exec_computerAttach (n : Computer) (s : State) : exec (.computerAttach n) s = .next (doComputerAttach n s) := rfl

theorem exec_configure (n : Computer) (w : Bool) (s : State) : exec (.configure n w) s = .next (doConfigure n w s) := rfl

theorem exec_computerDetach (n : Computer) (s : State) : exec (.computerDetach n) s = .next (loseLink n .absent s) := rfl

theorem loseLink_absent {n : Computer} {link : LinkState} {s : State} (absent : s.ports[n].link = .absent) :
    loseLink n link s = s :=
  if_pos absent

/-- A lost link is in the state of the event that lost it (R144). -/
theorem loseLink_link {n : Computer} {s : State} (present : s.ports[n].link ≠ .absent) :
    (loseLink n .absent s).ports[n].link = .absent := by
  obtain ⟨t, detached, port, -⟩ := (lostLinksAreCleared n (.computerDetach n) .absent s (.inr ⟨rfl, rfl⟩)).2 present
  rw [Host.Outcome.next.inj detached, port]

/-- The attach at an ABSENT port (R143). -/
theorem doComputerAttach_absent {n : Computer} {s : State} (absent : s.ports[n].link = .absent) :
    doComputerAttach n s = raise .link ((s.modPort n fun p => { p with link := .attaching }).setBelief n ⟨[], []⟩) := by
  rw [doComputerAttach, loseLink_absent absent]
  rfl

theorem doComputerAttach_link (n : Computer) (s : State) : (doComputerAttach n s).ports[n].link = .attaching := by
  rw [doComputerAttach, (noticesOnly_raise .link _).link n]
  exact congrArg Port.link (State.modPort_port (loseLink n .absent s) n fun p => { p with link := .attaching })

/-- Settles O49: an attach is a detach and an attach at the ABSENT port that it leaves; a configure by the link state. -/
theorem portsAttachAndConfigure : Obligations.PortsAttachAndConfigure := by
  unfold Obligations.PortsAttachAndConfigure
  intro n w s
  refine ⟨fun absent => ⟨?_, ?_⟩, fun present => ?_, fun attaching => ?_, fun present configured => ?_⟩
  · rw [exec_computerAttach, doComputerAttach_absent absent]
  · rw [exec_configure, doConfigure, absent]
  · have again : doComputerAttach n (loseLink n .absent s) = doComputerAttach n s := by
      rw [doComputerAttach, loseLink_absent (loseLink_link present)]
      rfl
    exact ⟨_, _, exec_computerDetach n s, exec_computerAttach n _, by rw [exec_computerAttach, again],
      loseLink_link present, doComputerAttach_link n _⟩
  · rw [exec_configure, doConfigure, attaching]
  · rw [exec_configure]
    cases link : s.ports[n].link with
    | absent => exact absurd link present
    | attaching => exact absurd link configured
    | ready | suspended | waking | stalled => rw [doConfigure, link]

end Sys2Proof.Machine
end

section
/-! ## Polls (R146, R149, R150) and the bytes of a report (R179) -/

namespace Sys2Proof.Machine

/-! ### The bits of a set of keys or buttons (R179) -/

/-- A sum of different powers of two has a bit for each of them. -/
theorem testBit_foldl_two_pow {l : List Nat} (ascending : l.Pairwise (· < ·)) (i : Nat) :
    (l.foldl (fun a b => a + 2 ^ b) 0).testBit i = decide (i ∈ l) := by
  have sum : l.foldl (fun a b => a + 2 ^ b) 0 = (l.map (fun b => 2 ^ b)).sum := by
    rw [List.sum_eq_foldl, List.foldl_map]
  have bits := Nat.bitIndices_sum_map_two_pow (List.sortedLT_iff_pairwise.2 ascending)
  rw [sum, Bool.eq_iff_iff, ← Nat.mem_bitIndices, bits, decide_eq_true_eq]

/-- A set whose members from `base` on are summed as powers of two from 2 to the 0 on. -/
theorem testBit_foldl_from {l : List Nat} {base : Nat} (ascending : l.Pairwise (· < ·)) (least : ∀ a ∈ l, base ≤ a)
    (i : Nat) : (l.foldl (fun a b => a + 2 ^ (b - base)) 0).testBit i = decide (base + i ∈ l) := by
  have shifted : (l.map (· - base)).Pairwise (· < ·) :=
    List.pairwise_map.2 (ascending.imp_of_mem fun {a b} ma _ less => by have := least a ma; omega)
  have member : i ∈ l.map (· - base) ↔ base + i ∈ l := by
    rw [List.mem_map]
    constructor
    · rintro ⟨a, mem, rfl⟩
      rwa [Nat.add_sub_cancel' (least a mem)]
    · exact fun mem => ⟨_, mem, Nat.add_sub_cancel_left _ _⟩
  have bits := testBit_foldl_two_pow shifted i
  rw [List.foldl_map] at bits
  rw [bits, decide_eq_decide.2 member]

theorem modifierByte_bit {keys : List Nat} (ascending : keys.Pairwise (· < ·)) {i : Nat} (low : i < 8) :
    (modifierByte keys).getLsbD i = decide (224 + i ∈ keys) := by
  have sum : keys.foldl (fun a k => if isModifier k then a + 2 ^ (k - 224) else a) 0 =
      (keys.filter isModifier).foldl (fun a k => a + 2 ^ (k - 224)) 0 := List.foldl_filter.symm
  have least : ∀ k ∈ keys.filter isModifier, 224 ≤ k := fun k mem => by
    have modifier := (List.mem_filter.1 mem).2
    simp only [isModifier, Bool.and_eq_true, decide_eq_true_eq] at modifier
    exact modifier.1
  have modifier : isModifier (224 + i) = true := by
    simp only [isModifier, Bool.and_eq_true, decide_eq_true_eq]
    omega
  rw [modifierByte, BitVec.getLsbD_ofNat, decide_eq_true low, Bool.true_and, sum,
    testBit_foldl_from (ascending.filter _) least]
  exact decide_eq_decide.2 (List.mem_filter.trans (and_iff_left modifier))

theorem buttonByte_bit {buttons : List Nat} (ascending : buttons.Pairwise (· < ·)) (least : ∀ b ∈ buttons, 1 ≤ b)
    {i : Nat} (low : i < 8) : (buttonByte buttons).getLsbD i = decide (i + 1 ∈ buttons) := by
  rw [buttonByte, BitVec.getLsbD_ofNat, decide_eq_true low, Bool.true_and, testBit_foldl_from ascending least,
    Nat.add_comm]

/-! ### A snapshot as bytes (R179) -/

/-- The keys of a snapshot other than the modifiers. -/
def otherKeys (keys : List Nat) : List Nat :=
  keys.filter fun k => decide (k < 224 ∨ 231 < k)

theorem snapshotBytes_eq (keys : List Nat) : snapshotBytes keys =
    modifierByte keys :: 0 :: ((otherKeys keys).map byte ++ List.replicate 62 0).take 62 := by
  have others : (keys.filter fun k => !isModifier k) = otherKeys keys := by
    refine List.filter_congr fun k _ => ?_
    rw [Bool.eq_iff_iff]
    simp only [isModifier, Bool.not_eq_true', Bool.and_eq_false_iff, decide_eq_false_iff_not, decide_eq_true_eq]
    omega
  rw [snapshotBytes, others]
  rfl

theorem snapshotBytes_length (keys : List Nat) : (snapshotBytes keys).length = 64 := by
  rw [snapshotBytes_eq, List.length_cons, List.length_cons, List.length_take, List.length_append, List.length_replicate,
    Nat.min_eq_left (Nat.le_add_left _ _)]

theorem snapshotBytes_key {keys : List Nat} {i : Nat} (inside : i < 62) :
    (snapshotBytes keys)[2 + i]? = some (byte ((otherKeys keys)[i]?.getD 0)) := by
  rw [snapshotBytes_eq, Nat.add_comm]
  show (((otherKeys keys).map byte ++ List.replicate 62 0).take 62)[i]? = _
  rw [List.getElem?_take_of_lt inside]
  by_cases held : i < (otherKeys keys).length
  · rw [List.getElem?_append_left (by rwa [List.length_map]), List.getElem?_map, List.getElem?_eq_getElem held]
    rfl
  · have past := Nat.le_of_not_lt held
    rw [List.getElem?_append_right (by rwa [List.length_map]), List.getElem?_replicate_of_lt (by omega),
      List.getElem?_eq_none past]
    rfl

/-! ### Polls -/

theorem exec_keyboardPoll (n : Computer) (s : State) : exec (.keyboardPoll n) s = .next (doKeyboardPoll n s) := rfl

theorem exec_pointerPoll (n : Computer) (s : State) : exec (.pointerPoll n) s = .next (doPointerPoll n s) := rfl

/-- Both answers of a keyboard poll in one record (R146, R149). -/
theorem Port.pollKeys_eq (now : Nat) (p : Port) : p.pollKeys now = { p with
    keyQueue := p.keyQueue.tail
    stall := if p.keyQueue.tail = [] ∧ p.pointerQueue = [] then none else some (now + 1000)
    keyAnswer := some (match p.keyQueue with
      | [] => .noChange
      | r :: _ => .report (snapshotBytes r)) } := by
  unfold Port.pollKeys Port.restall
  cases queue : p.keyQueue <;> rfl

/-- Both answers of a pointer poll in one record (R146, R149). -/
theorem Port.pollPointer_eq (now : Nat) (p : Port) : p.pollPointer now = { p with
    pointerQueue := p.pointerQueue.tail
    stall := if p.keyQueue = [] ∧ p.pointerQueue.tail = [] then none else some (now + 1000)
    pointerAnswer := some (match p.pointerQueue with
      | [] => .noChange
      | r :: _ => .report (pointerBytes r)) } := by
  unfold Port.pollPointer Port.restall
  cases queue : p.pointerQueue <;> rfl

theorem Port.link_ready {p : Port} (ready : p.link = .ready) : ({ p with link := .ready } : Port) = p := by
  rw [← ready]

/-- A poll of a READY or STALLED port, which is READY after it (R146, R150). -/
theorem doKeyboardPoll_ready {n : Computer} {s : State} (ready : s.ports[n].link = .ready) :
    doKeyboardPoll n s = s.modPort n fun p => { p with link := .ready }.pollKeys s.now := by
  rw [doKeyboardPoll, ready]
  exact modPort_congr (congrArg (Port.pollKeys s.now) (Port.link_ready ready).symm)

theorem doPointerPoll_ready {n : Computer} {s : State} (ready : s.ports[n].link = .ready) :
    doPointerPoll n s = s.modPort n fun p => { p with link := .ready }.pollPointer s.now := by
  rw [doPointerPoll, ready]
  exact modPort_congr (congrArg (Port.pollPointer s.now) (Port.link_ready ready).symm)

/-- Settles O52: the polls by the link state, a snapshot's bytes by their places, a pointer report's by its kind. -/
theorem pollsDeliverOldestReports : Obligations.PollsDeliverOldestReports := by
  unfold Obligations.PollsDeliverOldestReports
  intro n s p restarted keys pointer
  have keysPolled : ({ p with link := .ready } : Port).pollKeys s.now = keys := Port.pollKeys_eq _ _
  have pointerPolled : ({ p with link := .ready } : Port).pollPointer s.now = pointer := Port.pollPointer_eq _ _
  have keysChange : (s.modPort n fun p => { p with link := .ready }.pollKeys s.now) = s.modPort n fun _ => keys :=
    modPort_congr keysPolled
  have pointerChange : (s.modPort n fun p => { p with link := .ready }.pollPointer s.now) = s.modPort n fun _ => pointer :=
    modPort_congr pointerPolled
  refine ⟨fun ready => ⟨?_, ?_⟩, fun stalled => ⟨?_, ?_⟩, fun unserved => ?_, fun absent => ⟨?_, ?_⟩,
    fun held ascending => ?_, fun r ascending numbers => ?_⟩
  · rw [exec_keyboardPoll, doKeyboardPoll_ready ready, keysChange]
  · rw [exec_pointerPoll, doPointerPoll_ready ready, pointerChange]
  · rw [exec_keyboardPoll, doKeyboardPoll, stalled, ← keysChange]
  · rw [exec_pointerPoll, doPointerPoll, stalled, ← pointerChange]
  · rw [exec_keyboardPoll, exec_pointerPoll, doKeyboardPoll, doPointerPoll]
    rcases unserved with link | link | link <;> exact ⟨by rw [link], by rw [link]⟩
  · rw [exec_keyboardPoll, doKeyboardPoll, absent]
  · rw [exec_pointerPoll, doPointerPoll, absent]
  · exact fun _ => ⟨snapshotBytes_length held, rfl, ⟨_, rfl, fun i low => modifierByte_bit ascending low⟩,
      fun i inside => snapshotBytes_key inside⟩
  · have bits : ∀ i, i < 8 → (buttonByte r.buttons).getLsbD i = decide (i + 1 ∈ r.buttons) := fun i low =>
      buttonByte_bit ascending (fun b mem => (numbers b mem).1) low
    cases kind : r.kind with
    | absolute =>
      simp only [pointerBytes, kind]
      exact ⟨rfl, ⟨_, rfl, bits⟩, fun _ => ⟨rfl, rfl, rfl, rfl, rfl, rfl⟩, ReportKind.noConfusion⟩
    | relative =>
      simp only [pointerBytes, kind]
      exact ⟨rfl, ⟨_, rfl, bits⟩, ReportKind.noConfusion, fun _ => ⟨rfl, rfl, rfl, rfl, rfl, rfl⟩⟩

end Sys2Proof.Machine
end

section
/-! ## Stall and suspend (R126, R129, R150, R151) -/

namespace Sys2Proof.Machine

theorem exec_stallTimerExpiry (n : Computer) (s : State) : exec (.stallTimerExpiry n) s = .next (doStallExpiry n s) := rfl

theorem exec_suspend (n : Computer) (s : State) : exec (.suspend n) s = .next (doSuspend n s) := rfl

/-! ### The type-out unit hears of a port that leaves READY (R126, R129) -/

section

variable {n : Computer} {s : State}

theorem typeoutLeftReady_other (other : s.typeout.target ≠ some n) : typeoutLeftReady n s = s :=
  if_neg fun h => other h.2

theorem typeoutLeftReady_target (target : s.typeout.target = some n)
    (served : s.typeout.sub = some .waitingRelease ∨ s.typeout.sub = some .active) :
    typeoutLeftReady n s = endTypeout .cancelledLink s :=
  if_pos ⟨served, target⟩

/-- A type-out to a port that has left READY, and has forgotten its belief set, is cancelled without a word to the port. -/
structure LinkCancelled (n : Computer) (s t : State) : Prop where
  port : t.ports[n] = s.ports[n]
  belief : t.focus.beliefs[n] = s.focus.beliefs[n]
  held : t.typeout.state = .held
  outcome : t.typeout.outcome = some ⟨.cancelledLink, s.typeout.typed, s.typeout.skipped⟩
  announced : announced .typeout t

theorem typeoutLeftReady_cancels (away : s.ports[n].link ≠ .ready) (silent : s.focus.beliefs[n] = ⟨[], []⟩)
    (target : s.typeout.target = some n) (typing : s.typeout.state = .typing)
    (served : s.typeout.sub = some .waitingRelease ∨ s.typeout.sub = some .active) :
    LinkCancelled n s (raise .link (typeoutLeftReady n s)) := by
  have ends : typeoutLeftReady n s = raise .typeout (s.setTypeout (s.typeout.ended .cancelledLink)) := by
    rw [typeoutLeftReady_target target served, endTypeout_told_nothing target (by rw [silent]) typing]
  have port : (typeoutLeftReady n s).ports[n] = s.ports[n] := by
    rw [ends]
    exact raise_port_quiet (s := s.setTypeout (s.typeout.ended .cancelledLink)) away
  refine ⟨(raise_port_quiet (by rwa [port])).trans port, ?_, ?_, ?_, (heard_raise .link _).announced ?_⟩
  · rw [ends]
    rfl
  · rw [ends]
    rfl
  · rw [ends]
    rfl
  · rw [ends]
    exact announced_raise .typeout _

end

/-! ### The two commands -/

/-- The state of a port that leaves READY or STALLED by `f`, its belief set forgotten, before the others hear of it. -/
def portLeft (n : Computer) (f : Port → Port) (s : State) : State :=
  (s.modPort n f).setBelief n ⟨[], []⟩

theorem doStallExpiry_stopped {n : Computer} {s : State} (stopped : s.ports[n].stall = none) : doStallExpiry n s = s := by
  rw [doStallExpiry, stopped]

theorem doStallExpiry_due {n : Computer} {s : State} {due : Nat} (running : s.ports[n].stall = some due) :
    doStallExpiry n s = raise .link (typeoutLeftReady n (portLeft n Port.stallOut (s.advanceTo due))) := by
  rw [doStallExpiry, running]
  rfl

theorem doSuspend_away {n : Computer} {s : State} (unready : s.ports[n].link ≠ .ready)
    (unstalled : s.ports[n].link ≠ .stalled) : doSuspend n s = s :=
  if_neg (not_or.2 ⟨unready, unstalled⟩)

theorem doSuspend_up {n : Computer} {s : State} (up : s.ports[n].link = .ready ∨ s.ports[n].link = .stalled) :
    doSuspend n s = raise .link (typeoutLeftReady n (portLeft n (Port.suspendAt s.now) s)) :=
  if_pos up

/-- A port that leaves READY during a type-out to it, with what it leaves behind (R129). -/
theorem portLeft_cancels {n : Computer} {s : State} {f : Port → Port} (away : (f s.ports[n]).link ≠ .ready)
    (target : s.typeout.target = some n) (typing : s.typeout.state = .typing)
    (served : s.typeout.sub = some .waitingRelease ∨ s.typeout.sub = some .active) :
    let t := raise .link (typeoutLeftReady n (portLeft n f s))
    t.ports[n] = f s.ports[n] ∧ t.focus.beliefs[n] = ⟨[], []⟩ ∧ t.typeout.state = .held ∧
      t.typeout.outcome = some ⟨.cancelledLink, s.typeout.typed, s.typeout.skipped⟩ ∧ announced .typeout t := by
  have port : (portLeft n f s).ports[n] = f s.ports[n] := State.modPort_port s n f
  have silent : (portLeft n f s).focus.beliefs[n] = ⟨[], []⟩ := State.setBelief_beliefs_self (s.modPort n f) n _
  have cancelled := typeoutLeftReady_cancels (s := portLeft n f s) (by rwa [port]) silent target typing served
  exact ⟨cancelled.port.trans port, cancelled.belief.trans silent, cancelled.held, cancelled.outcome, cancelled.announced⟩

/-- Settles O53: the port leaves by the two commands, and the type-out unit hears of it by whether it is the target. -/
theorem portsStallAndSuspend : Obligations.PortsStallAndSuspend := by
  unfold Obligations.PortsStallAndSuspend
  intro n s undisturbed typing cancelled
  refine ⟨fun stopped => ?_, fun due running => ⟨fun other => ?_, fun ⟨target, typing, served⟩ => ?_⟩,
    fun unready unstalled => ?_, fun up => ⟨fun other => ?_, fun ⟨target, typing, served⟩ => ?_⟩⟩
  · rw [exec_stallTimerExpiry, doStallExpiry_stopped stopped]
  · rw [exec_stallTimerExpiry, doStallExpiry_due running,
      typeoutLeftReady_other (s := portLeft n Port.stallOut (s.advanceTo due)) other]
    rfl
  · obtain ⟨port, belief, ends⟩ :=
      portLeft_cancels (s := s.advanceTo due) (f := Port.stallOut) LinkState.noConfusion target typing served
    rw [exec_stallTimerExpiry, doStallExpiry_due running]
    exact ⟨_, rfl, by rw [port]; rfl, by rw [port]; rfl, belief, ends⟩
  · rw [exec_suspend, doSuspend_away unready unstalled]
  · rw [exec_suspend, doSuspend_up up, typeoutLeftReady_other (s := portLeft n (Port.suspendAt s.now) s) other]
    rfl
  · obtain ⟨port, belief, ends⟩ :=
      portLeft_cancels (s := s) (f := Port.suspendAt s.now) LinkState.noConfusion target typing served
    rw [exec_suspend, doSuspend_up up]
    exact ⟨_, rfl, by rw [port]; rfl, by rw [port]; rfl, belief, ends⟩

end Sys2Proof.Machine
end

section
/-! ## Resume (R147, R152, R156) -/

namespace Sys2Proof.Machine

/-! ### The snapshots of a replay -/

/-- The snapshots that the replay of `l` gives from the set `keys` on: the replay set after each event (R156). -/
def replaySnapshots (keys : List Nat) (l : List KeyEvent) : List (List Nat) :=
  (List.range l.length).map fun i => replaySet keys (l.take (i + 1))

theorem replaySet_cons (keys : List Nat) (e : KeyEvent) (l : List KeyEvent) :
    replaySet keys (e :: l) = replaySet (replaySet keys [e]) l := by
  cases e <;> rfl

theorem replaySnapshots_cons (keys : List Nat) (e : KeyEvent) (l : List KeyEvent) :
    replaySnapshots keys (e :: l) = replaySet keys [e] :: replaySnapshots (replaySet keys [e]) l := by
  rw [replaySnapshots, List.length_cons, List.range_succ_eq_map, List.map_cons, List.map_map]
  exact congrArg (replaySet keys [e] :: ·) (List.map_congr_left fun i _ => replaySet_cons keys e _)

theorem replaySnapshots_length (keys : List Nat) (l : List KeyEvent) : (replaySnapshots keys l).length = l.length := by
  rw [replaySnapshots, List.length_map, List.length_range]

theorem replaySnapshots_eq_nil_iff (keys : List Nat) (l : List KeyEvent) : replaySnapshots keys l = [] ↔ l = [] := by
  rw [← List.length_eq_zero_iff, replaySnapshots_length, List.length_eq_zero_iff]

theorem replaySnapshots_getElem? {l : List KeyEvent} {i : Nat} (keys : List Nat) (inside : i < l.length) :
    (replaySnapshots keys l)[i]? = some (replaySet keys (l.take (i + 1))) := by
  rw [replaySnapshots, List.getElem?_map, List.getElem?_range inside]
  rfl

/-- The last snapshot is what the replay leaves held. -/
theorem replaySnapshots_getLast? {l : List KeyEvent} (keys : List Nat) (nonempty : l ≠ []) :
    (replaySnapshots keys l).getLast? = some (replaySet keys l) := by
  have length := List.length_pos_iff.2 nonempty
  rw [List.getLast?_eq_getElem?, replaySnapshots_length, replaySnapshots_getElem? keys (by omega),
    Nat.sub_add_cancel length, List.take_length]

theorem Port.replay_cons (now : Nat) (keys : List Nat) (e : KeyEvent) (l : List KeyEvent) (p : Port) :
    Port.replay now keys (e :: l) p = Port.replay now (replaySet keys [e]) l (p.addSnapshot now (replaySet keys [e])) := by
  cases e <;> rfl

/-! ### A port that takes snapshots one after another (R147, R149) -/

/-- What a key report queue that was empty holds once the snapshots `l` have been added: the newest at its end, in place
of those there was no room for (R147). -/
def queuedOf (l : List (List Nat)) : List (List Nat) :=
  if l.length ≤ 16 then l else l.take 15 ++ l.getLast?.toList

theorem queuedOf_length (l : List (List Nat)) : (queuedOf l).length = min 16 l.length := by
  unfold queuedOf
  split
  next fits => exact (Nat.min_eq_right fits).symm
  next past =>
    rw [List.getLast?_eq_getElem?, List.getElem?_eq_getElem (by omega), List.length_append, List.length_take,
      Option.toList_some, List.length_singleton]
    omega

theorem queuedOf_getElem? (l : List (List Nat)) {i : Nat} (early : i < 15) : (queuedOf l)[i]? = l[i]? := by
  unfold queuedOf
  split
  next => rfl
  next past =>
    rw [List.getElem?_append_left (by rw [List.length_take]; omega), List.getElem?_take_of_lt early]

theorem queuedOf_getLast? (l : List (List Nat)) : (queuedOf l).getLast? = l.getLast? := by
  unfold queuedOf
  split
  next => rfl
  next past =>
    rw [List.getLast?_eq_getElem? (l := l), List.getElem?_eq_getElem (by omega), Option.toList_some, List.getLast?_concat]

theorem queuedOf_eq_nil_iff (l : List (List Nat)) : queuedOf l = [] ↔ l = [] := by
  rw [← List.length_eq_zero_iff, queuedOf_length, ← List.length_eq_zero_iff]
  omega

/-- One more snapshot: appended while there is room, else in place of the newest. -/
theorem queuedOf_concat (l : List (List Nat)) (keys : List Nat) : queuedOf (l ++ [keys]) =
    if (queuedOf l).length < 16 then queuedOf l ++ [keys] else (queuedOf l).dropLast ++ [keys] := by
  rw [queuedOf_length]
  by_cases room : l.length < 16
  · rw [if_pos (by omega), queuedOf, if_pos (by rw [List.length_append]; exact room), queuedOf, if_pos room.le]
  · have newest : queuedOf (l ++ [keys]) = l.take 15 ++ [keys] := by
      rw [queuedOf, if_neg (by rw [List.length_append, List.length_singleton]; omega), List.getLast?_concat,
        List.take_append_of_le_length (by omega)]
      rfl
    have older : (queuedOf l).dropLast = l.take 15 := by
      unfold queuedOf
      split
      next fits => rw [List.dropLast_eq_take, show l.length = 16 by omega]
      next past =>
        rw [List.getLast?_eq_getElem?, List.getElem?_eq_getElem (by omega), Option.toList_some, List.dropLast_concat]
    rw [if_neg (by omega), newest, older]

/-- Port `p`, its queues empty, once the snapshots `l` have been added to it (R147, R149, R159). -/
def Port.fed (now : Nat) (l : List (List Nat)) (p : Port) : Port :=
  { p with
    keyQueue := queuedOf l
    keyOverruns := if l.length ≤ 16 then p.keyOverruns else min 65535 (p.keyOverruns + (l.length - 16))
    stall := if l = [] then p.stall else some (now + 1000) }

theorem Port.fed_nothing {p : Port} (now : Nat) (empty : p.keyQueue = []) : p.fed now [] = p := by
  show ({ p with keyQueue := [] } : Port) = p
  rw [← empty]

theorem Port.fed_addSnapshot {p : Port} (now : Nat) (l : List (List Nat)) (keys : List Nat) (empty : p.pointerQueue = []) :
    (p.fed now l).addSnapshot now keys = p.fed now (l ++ [keys]) := by
  have overruns : (if (queuedOf l).length < 16 then (p.fed now l).keyOverruns
      else min 65535 ((p.fed now l).keyOverruns + 1)) = (p.fed now (l ++ [keys])).keyOverruns := by
    simp only [Port.fed, queuedOf_length, List.length_append, List.length_singleton]
    split <;> split <;> split <;> omega
  have stall : (if queuedOf l = [] ∧ (p.fed now l).pointerQueue = [] then some (now + 1000) else (p.fed now l).stall) =
      (p.fed now (l ++ [keys])).stall := by
    simp only [Port.fed, queuedOf_eq_nil_iff, empty, and_true, List.append_eq_nil_iff, List.cons_ne_self, and_false,
      if_false]
    split <;> rfl
  have queue : (p.fed now l).keyQueue = queuedOf l := rfl
  rw [Port.addSnapshot_eq, queue, ← queuedOf_concat, overruns, stall]
  rfl

/-- The replay adds its snapshots to those already queued. -/
theorem Port.replay_fed {p : Port} (now : Nat) (keys : List Nat) (added : List (List Nat)) (l : List KeyEvent)
    (empty : p.pointerQueue = []) :
    Port.replay now keys l (p.fed now added) = p.fed now (added ++ replaySnapshots keys l) := by
  induction l generalizing keys added with
  | nil => exact congrArg (p.fed now) (List.append_nil added).symm
  | cons e l ih =>
    rw [Port.replay_cons, Port.fed_addSnapshot now _ _ empty, ih, replaySnapshots_cons, List.append_assoc]
    rfl

/-! ### The port after a resume (R156 steps 1 to 4) -/

/-- The port READY, its wake over, before the replay (R156 step 1). -/
def Port.woken (p : Port) : Port :=
  { p with
    link := .ready
    settle := none
    deferred := false
    attempt := 0
    phase := none
    attemptTimer := none
    lastWake := if p.wakeUnderWay then .done else p.lastWake
    pendingKeys := []
    held := none }

theorem Port.replay_woken {p : Port} (now : Nat) (keys : p.keyQueue = []) (pointers : p.pointerQueue = []) :
    Port.replay now [] p.pendingKeys p.woken = p.woken.fed now (replaySnapshots [] p.pendingKeys) := by
  have replayed := Port.replay_fed (p := p.woken) now [] [] p.pendingKeys pointers
  rwa [Port.fed_nothing now (p := p.woken) keys] at replayed

/-- The replay, then the held report for a pointer queue that is empty. -/
theorem Port.resumeAt_eq {p : Port} (now : Nat) (keys : p.keyQueue = []) (pointers : p.pointerQueue = []) :
    p.resumeAt now = { p.woken.fed now (replaySnapshots [] p.pendingKeys) with
      pointerQueue := p.held.toList
      stall := if p.pendingKeys = [] ∧ p.held = none then p.stall else some (now + 1000) } := by
  have resumed : p.resumeAt now = match p.held with
      | none => p.woken.fed now (replaySnapshots [] p.pendingKeys)
      | some r => (p.woken.fed now (replaySnapshots [] p.pendingKeys)).addPointer now r := by
    rw [← Port.replay_woken now keys pointers]
    rfl
  have empty : (p.woken.fed now (replaySnapshots [] p.pendingKeys)).pointerQueue = [] := pointers
  rw [resumed]
  cases held : p.held with
  | none =>
    simp only [Port.fed, replaySnapshots_eq_nil_iff, Option.toList_none, and_true, ← pointers]
    rfl
  | some r =>
    refine (Port.addPointer_first now r empty).trans ?_
    simp only [Port.fed, queuedOf_eq_nil_iff, replaySnapshots_eq_nil_iff, Option.toList_some, reduceCtorEq, and_false,
      if_false]
    split <;> rfl

/-! ### The type-out unit hears of a port that has become READY (R125, R126) -/

/-- `t` is `s` but for the mailbox, the notifications of the ports and what events have added to the summaries. -/
structure MailHeard (s t : State) : Prop where
  changes : t = { s with
    ports := t.ports, typeout := t.typeout, mgmt := { s.mgmt with summaries := t.mgmt.summaries } }
  notices : NoticesOnly s t
  heard : Heard s t

theorem MailHeard.trans {s t u : State} (h : MailHeard s t) (k : MailHeard t u) : MailHeard s u :=
  ⟨by
    have changes := k.changes
    rw [h.changes] at changes
    exact changes, h.notices.trans k.notices, h.heard.trans k.heard⟩

theorem MailHeard.refl (s : State) : MailHeard s s := ⟨rfl, .refl s, .refl s⟩

theorem mailHeard_raise (e : EventKind) (s : State) : MailHeard s (raise e s) :=
  ⟨rfl, noticesOnly_raise e s, heard_raise e s⟩

theorem mailHeard_setTypeout (m : Typeout) (s : State) : MailHeard s (s.setTypeout m) :=
  ⟨rfl, .refl s, heard_of_eq rfl rfl⟩

/-- The end of a type-out with no character pressed tells the computer nothing (R130). -/
theorem mailHeard_endTypeout {s : State} (e : TypeEnd) (unpressed : releaseIfPressed s = s) :
    MailHeard s (endTypeout e s) := by
  unfold endTypeout
  rw [unpressed]
  split
  · exact (mailHeard_setTypeout _ s).trans (mailHeard_raise .typeout _)
  · exact .refl s

theorem mailHeard_takeUp {s : State} {due : Nat} (unpressed : s.typeout.pacing = some ⟨none, due⟩) :
    MailHeard s (takeUp s) := by
  unfold takeUp
  dsimp only
  split
  · refine (mailHeard_setTypeout _ s).trans (mailHeard_endTypeout .complete ?_)
    refine releaseIfPressed_unpressed fun _ pc ch _ pacing => ?_
    obtain rfl : ⟨none, due⟩ = pc := Option.some.inj (unpressed.symm.trans pacing)
    nofun
  · exact mailHeard_setTypeout _ s

theorem mailHeard_enterActive (s : State) : MailHeard s (enterActive s) :=
  (mailHeard_setTypeout _ s).trans (mailHeard_takeUp rfl)

theorem mailHeard_typeoutReady (n : Computer) (s : State) : MailHeard s (typeoutReady n s) := by
  unfold typeoutReady enterWaitingRelease
  dsimp only
  split
  · split
    · exact (mailHeard_setTypeout _ s).trans (mailHeard_enterActive _)
    · exact mailHeard_setTypeout _ s
  · exact .refl s

theorem typeoutReady_other {n : Computer} {s : State} (other : s.typeout.target ≠ some n) : typeoutReady n s = s :=
  if_neg fun h => other h.2

/-! ### The command -/

theorem doResume_ignored {n : Computer} {s : State} (unslept : s.ports[n].link ≠ .waking)
    (unsuspended : s.ports[n].link ≠ .suspended) : doResume n s = s :=
  if_neg (not_or.2 ⟨unslept, unsuspended⟩)

/-- The state in which the port is READY and its events have been raised, before the type-out unit hears of it. -/
def resumedPort (n : Computer) (s : State) : State :=
  raise .link (if s.ports[n].wakeUnderWay then raise .wake (s.modPort n (Port.resumeAt s.now))
    else s.modPort n (Port.resumeAt s.now))

theorem doResume_resumes {n : Computer} {s : State} (asleep : s.ports[n].link = .waking ∨ s.ports[n].link = .suspended) :
    doResume n s = typeoutReady n (resumedPort n s) :=
  if_pos asleep

theorem resumedPort_typeout (n : Computer) (s : State) : (resumedPort n s).typeout = s.typeout := by
  unfold resumedPort
  split <;> rfl

/-- What a resume does beyond the port itself: its events, and what the type-out unit makes of them. -/
theorem mailHeard_resume (n : Computer) (s : State) :
    MailHeard (s.modPort n (Port.resumeAt s.now)) (typeoutReady n (resumedPort n s)) := by
  refine MailHeard.trans ?_ (mailHeard_typeoutReady n _)
  unfold resumedPort
  split
  · exact (mailHeard_raise .wake _).trans (mailHeard_raise .link _)
  · exact mailHeard_raise .link _

theorem resume_announced_link (n : Computer) (s : State) : announced .link (typeoutReady n (resumedPort n s)) :=
  (mailHeard_typeoutReady n _).heard.announced (announced_raise .link _)

theorem resume_announced_wake {n : Computer} {s : State} (underWay : s.ports[n].wakeUnderWay = true) :
    announced .wake (typeoutReady n (resumedPort n s)) := by
  refine (mailHeard_typeoutReady n _).heard.announced ?_
  rw [resumedPort, if_pos underWay]
  exact (heard_raise .link _).announced (announced_raise .wake _)

/-- Settles O54: the port by the snapshots of its replay, the rest by what hears of it. -/
theorem resumeReplaysPendingKeys : Obligations.ResumeReplaysPendingKeys := by
  unfold Obligations.ResumeReplaysPendingKeys
  intro n s p underWay
  refine ⟨fun unslept unsuspended => ?_, fun asleep keys pointers => ?_⟩
  · rw [exec_resume, doResume_ignored unslept unsuspended]
  have wake : s.ports[n].wakeUnderWay = true ↔ underWay := wakeUnderWay_iff _
  have mail := mailHeard_resume n s
  have port : (typeoutReady n (resumedPort n s)).ports[n] =
      { p.resumeAt s.now with notification := (typeoutReady n (resumedPort n s)).ports[n].notification } := by
    rw [mail.notices n, State.modPort_port]
  have resumed := Port.resumeAt_eq s.now keys pointers
  have queue : (typeoutReady n (resumedPort n s)).ports[n].keyQueue = queuedOf (replaySnapshots [] p.pendingKeys) := by
    rw [port, resumed]
    rfl
  rw [exec_resume, doResume_resumes asleep]
  refine ⟨_, rfl, ?_, ?_, fun i early inside => ?_, fun nonempty => ?_, fun counted => ?_,
    fun under => resume_announced_wake (wake.2 under), resume_announced_link n s, fun other => ?_, fun m other => ?_, ?_⟩
  · rw [port, resumed]
    simp only [← wake]
    rfl
  · rw [queue, queuedOf_length, replaySnapshots_length]
  · rw [queue, queuedOf_getElem? _ early, replaySnapshots_getElem? [] inside]
  · rw [queue, queuedOf_getLast?, replaySnapshots_getLast? [] nonempty]
  · rw [port, resumed]
    show (if (replaySnapshots [] p.pendingKeys).length ≤ 16 then p.keyOverruns
      else min 65535 (p.keyOverruns + ((replaySnapshots [] p.pendingKeys).length - 16))) = _
    rw [replaySnapshots_length]
    split <;> omega
  · rw [typeoutReady_other (by rwa [resumedPort_typeout]), resumedPort_typeout]
  · rw [mail.notices m, State.modPort_port_ne _ _ other.symm]
    exact ⟨rfl, rfl⟩
  · exact mail.changes

end Sys2Proof.Machine
end

section
/-! ## Wake attempts (R154, R155, R157) -/

namespace Sys2Proof.Machine

theorem exec_signallingEnd (n : Computer) (s : State) : exec (.signallingEnd n) s = .next (doSignallingEnd n s) := rfl

section

variable {n : Computer} {s : State} {due : Nat}

/-! ### The settle timer (R151, R154) -/

theorem doSettleExpiry_stopped (stopped : s.ports[n].settle = none) : doSettleExpiry n s = s := by
  rw [doSettleExpiry, stopped]

/-- The running out of the settle timer, by whether a wake is deferred. -/
theorem doSettleExpiry_due (settle : s.ports[n].settle = some due) : doSettleExpiry n s =
    if s.ports[n].deferred then deferredWake n ((s.advanceTo due).modPort n fun p => { p with settle := none })
    else (s.advanceTo due).modPort n fun p => { p with settle := none } := by
  have deferred : ((s.advanceTo due).modPort n fun p => { p with settle := none }).ports[n].deferred =
      s.ports[n].deferred := by
    rw [State.modPort_port]
    rfl
  rw [doSettleExpiry, settle]
  dsimp only
  rw [deferred]

/-- A deferred wake that may still start does so when the settle timer runs out. -/
theorem doSettleExpiry_starts (settle : s.ports[n].settle = some due) (deferred : s.ports[n].deferred = true)
    (allowed : wakeAllowed n s = true) : doSettleExpiry n s =
      startWake n ((s.advanceTo due).modPort n fun p => { p with settle := none, deferred := false }) := by
  have remoteWake :
      ((s.advanceTo due).modPort n fun p => { p with settle := none, deferred := false }).ports[n].remoteWake =
        s.ports[n].remoteWake := by
    rw [State.modPort_port]
    rfl
  have stillAllowed := wakeAllowed_congr remoteWake rfl ▸ allowed
  rw [doSettleExpiry_due settle, if_pos deferred]
  unfold deferredWake
  rw [State.modPort_modPort]
  exact if_pos stillAllowed

/-! ### The phases of an attempt (R155) -/

theorem doSignallingEnd_idle (idle : s.ports[n].phase ≠ some .signalling ∨ s.ports[n].attemptTimer = none) :
    doSignallingEnd n s = s := by
  unfold doSignallingEnd
  split
  next due phase timer =>
    exact idle.elim (absurd phase) fun stopped => absurd (timer.symm.trans stopped) (Option.some_ne_none _)
  next => rfl

theorem doSignallingEnd_due (phase : s.ports[n].phase = some .signalling) (timer : s.ports[n].attemptTimer = some due) :
    doSignallingEnd n s = (s.advanceTo due).modPort n fun p =>
      { p with phase := some .waiting
               attemptTimer := some ((s.advanceTo due).now + s.tables.options.wakeWindow) } := by
  rw [doSignallingEnd, phase, timer]
  rfl

theorem doWakeWindowExpiry_idle (idle : s.ports[n].phase ≠ some .waiting ∨ s.ports[n].attemptTimer = none) :
    doWakeWindowExpiry n s = s := by
  unfold doWakeWindowExpiry
  split
  next due phase timer =>
    exact idle.elim (absurd phase) fun stopped => absurd (timer.symm.trans stopped) (Option.some_ne_none _)
  next => rfl

theorem lastAttempt_iff (n : Computer) (s : State) : lastAttempt n s = true ↔
    s.ports[n].attempt = s.tables.options.wakeAttempts ∨ 8 ≤ s.ports[n].attempt := by
  rw [lastAttempt, Bool.or_eq_true, decide_eq_true_eq, decide_eq_true_eq]
  rfl

/-- The running out of a window, by whether its attempt was the last. -/
theorem doWakeWindowExpiry_due (phase : s.ports[n].phase = some .waiting) (timer : s.ports[n].attemptTimer = some due) :
    doWakeWindowExpiry n s =
      if lastAttempt n s then failWake n (s.advanceTo due)
      else (s.advanceTo due).modPort n (Port.startAttempt (s.advanceTo due).now (s.ports[n].attempt + 1)) := by
  rw [doWakeWindowExpiry, phase, timer]
  rfl

/-! ### Wakes that no type-out waits for (R154, R157) -/

theorem typeoutWakeLost_unwaited (unwaited : s.typeout.sub ≠ some .waitingWake ∨ s.typeout.target ≠ some n) :
    typeoutWakeLost n s = s :=
  if_neg fun ⟨waits, target⟩ => unwaited.elim (absurd waits) (absurd target)

theorem dropHeldButtons_eq (p : Port) :
    p.dropHeldButtons = { p with held := p.held.map fun r => { r with buttons := [] } } := by
  unfold Port.dropHeldButtons
  split
  next none => rw [none, Option.map_none, ← none]
  next held => rw [held, Option.map_some]

theorem failWake_eq (p : Port) : p.failWake = { p with
    link := .suspended
    attempt := 0
    phase := none
    attemptTimer := none
    lastWake := .failed
    wakesFailed := min 65535 (p.wakesFailed + 1)
    pendingKeys := []
    held := p.held.map fun r => { r with buttons := [] } } := by
  rw [Port.failWake, dropHeldButtons_eq]
  rfl

theorem failWake_unwaited (unwaited : s.typeout.sub ≠ some .waitingWake ∨ s.typeout.target ≠ some n) :
    failWake n s = raise .wake (raise .link ((s.modPort n Port.failWake).setBelief n ⟨[], []⟩)) :=
  typeoutWakeLost_unwaited (s := raise .wake (raise .link ((s.modPort n Port.failWake).setBelief n ⟨[], []⟩))) unwaited

end

/-- Settles O46: each timer by whether it runs, the settle timer by what is deferred and allowed, the window by whether
the attempt was the last. -/
theorem wakeAttemptsRunTheirCourse : Obligations.WakeAttemptsRunTheirCourse := by
  unfold Obligations.WakeAttemptsRunTheirCourse
  intro n s
  refine ⟨fun stopped => ?_, fun due settle => ⟨fun undeferred => ?_, fun deferred remoteWake permitted => ?_,
    fun deferred refused unwaited => ?_⟩, fun idle => ?_, fun due phase timer => ?_, fun idle => ?_,
    fun due phase timer => ⟨fun other early => ?_, fun last unwaited => ?_⟩⟩
  · rw [exec_settleTimerExpiry, doSettleExpiry_stopped stopped]
  · rw [exec_settleTimerExpiry, doSettleExpiry_due settle, undeferred]
    rfl
  · rw [exec_settleTimerExpiry, doSettleExpiry_starts settle deferred ((wakeAllowed_iff n s).2 ⟨remoteWake, permitted⟩),
      startWake, State.modPort_modPort]
    rfl
  · rw [exec_settleTimerExpiry, doSettleExpiry_refused settle deferred (mt (wakeAllowed_iff n s).1 refused),
      refuseWake_unwaited (s := (s.advanceTo due).modPort n _) unwaited, State.modPort_modPort]
    rfl
  · rw [exec_signallingEnd, doSignallingEnd_idle idle]
  · rw [exec_signallingEnd, doSignallingEnd_due phase timer]
  · rw [exec_wakeWindowExpiry, doWakeWindowExpiry_idle idle]
  · have more : ¬ lastAttempt n s = true :=
      mt (lastAttempt_iff n s).1 (not_or.2 ⟨other, Nat.not_le.2 early⟩)
    rw [exec_wakeWindowExpiry, doWakeWindowExpiry_due phase timer, if_neg more]
    rfl
  · rw [exec_wakeWindowExpiry, doWakeWindowExpiry_due phase timer, if_pos ((lastAttempt_iff n s).2 last),
      failWake_unwaited (s := s.advanceTo due) unwaited, funext failWake_eq]

end Sys2Proof.Machine
end

section
/-! ## WAKE_ALL (R158) -/

namespace Sys2Proof.Machine

theorem exec_wakeAll (a b : Byte) (s : State) : exec (.wakeAll (.hotkey a b)) s = .next (actWakeAll s) := rfl

theorem exec_staggerTimerExpiry (s : State) : exec .staggerTimerExpiry s = .next (doStaggerExpiry s) := rfl

/-- A request is issued; what becomes of the rest goes by the stagger of the desk options. -/
theorem issueWakes_cons (n : Computer) (rest : List Computer) (s : State) : issueWakes (n :: rest) s =
    if rest = [] then (wakeRequest n s).setWakeAll ⟨[], none⟩
    else if s.tables.options.wakeAllStagger = 0 then issueWakes rest (wakeRequest n s)
    else (wakeRequest n s).setWakeAll ⟨rest, some (s.now + s.tables.options.wakeAllStagger)⟩ := by
  have quiet := quiet_wakeRequest n s
  rw [← quiet.tables, ← quiet.now]
  rfl

/-- With a stagger, one request is issued and the rest of the list waits. -/
theorem issueWakes_one {s : State} (n : Computer) (rest : List Computer) (staggered : s.tables.options.wakeAllStagger ≠ 0) :
    issueWakes (n :: rest) s = (wakeRequest n s).setWakeAll
      (if rest = [] then ⟨[], none⟩ else ⟨rest, some (s.now + s.tables.options.wakeAllStagger)⟩) := by
  rw [issueWakes_cons, if_neg staggered, apply_ite (wakeRequest n s).setWakeAll]

/-- Without a stagger, the whole list is issued. -/
theorem issueWakes_all {s : State} (l : List Computer) (together : s.tables.options.wakeAllStagger = 0) :
    issueWakes l s = (l.foldl (fun u n => wakeRequest n u) s).setWakeAll ⟨[], none⟩ := by
  induction l generalizing s with
  | nil => rfl
  | cons n rest ih =>
    have still : (wakeRequest n s).tables.options.wakeAllStagger = 0 := by
      rw [(quiet_wakeRequest n s).tables, together]
    rw [issueWakes_cons, if_pos together, ih still, List.foldl_cons]
    split
    next last => rw [last, List.foldl_nil]
    next => rfl

theorem wakeAllList_eq (s : State) : wakeAllList s =
    computers.filter fun n => decide (s.ports[n].link = .suspended ∧ s.tables.computer[n].parked = false ∧
      s.tables.computer[n].wakePermitted = true) :=
  List.filter_congr fun n _ => by
    simp only [Bool.decide_and, Bool.decide_eq_true, Bool.decide_eq_false, Bool.and_assoc]

section

variable {s : State}

theorem actWakeAll_idle (idle : s.wakeAll.startList ≠ [] ∨ wakeAllList s = []) : actWakeAll s = s := by
  unfold actWakeAll
  split
  next => rfl
  next free => exact if_pos (idle.resolve_left free)

theorem actWakeAll_issues (free : s.wakeAll.startList = []) (sleepers : wakeAllList s ≠ []) :
    actWakeAll s = issueWakes (wakeAllList s) s := by
  unfold actWakeAll
  rw [if_neg (not_not.2 free), if_neg sleepers]

theorem doStaggerExpiry_stopped (stopped : s.wakeAll.stagger = none) : doStaggerExpiry s = s := by
  rw [doStaggerExpiry, stopped]

theorem doStaggerExpiry_due {due : Nat} (running : s.wakeAll.stagger = some due) :
    doStaggerExpiry s = issueWakes s.wakeAll.startList (s.advanceTo due) := by
  rw [doStaggerExpiry, running]
  rfl

end

/-- Settles O45: the command and the running out of the stagger timer both issue requests, of which a stagger of 0 leaves
none waiting. -/
theorem wakeAllTakesPortsInOrder : Obligations.WakeAllTakesPortsInOrder := by
  unfold Obligations.WakeAllTakesPortsInOrder
  intro a b s l taken one all
  rw [← wakeAllList_eq] at taken
  subst taken
  refine ⟨fun idle => ?_, fun n rest free list => ?_, fun stopped => ?_, fun due n rest running list => ?_⟩
  · rw [exec_wakeAll, actWakeAll_idle idle]
  · rw [exec_wakeAll, actWakeAll_issues free (list ▸ List.cons_ne_nil n rest), list]
    exact ⟨fun staggered => congrArg _ (issueWakes_one n rest staggered),
      fun together => congrArg _ (issueWakes_all _ together)⟩
  · rw [exec_staggerTimerExpiry, doStaggerExpiry_stopped stopped]
  · rw [exec_staggerTimerExpiry, doStaggerExpiry_due running, list]
    exact ⟨fun staggered => congrArg _ (issueWakes_one (s := s.advanceTo due) n rest staggered),
      fun together => congrArg _ (issueWakes_all (s := s.advanceTo due) _ together)⟩

end Sys2Proof.Machine
end
